-- ==== Sys2Proof/Word.lean ====
section
/-! DEFINITION. The widths in which the JX-2406 sends and keeps its words: a byte of a frame, a
two-byte field, a four-byte field, and their plainest splitting and joining (10.9: high byte first). -/

namespace Sys2Proof

/-- One byte of an SPI frame. -/
abbrev Byte := BitVec 8

/-- A two-byte field: a generation, a duty, a target, the low half of a period number. -/
abbrev Half := BitVec 16

/-- A four-byte field: the period number and the lease tick number (R32, R175). -/
abbrev Dword := BitVec 32

end Sys2Proof
end

