-- ==== Sys2Proof/Config.lean ====
section
/-! DEFINITION. What an implementation of the JX-2406 fixes and the spec leaves open. -/

namespace Sys2Proof

/-- The free value behind every order that the spec leaves open ("either may be taken first", "in
any order among themselves": R13, R56, R69, R93, R112, R120, R143). The part takes its k-th open
choice by this value; it has no body, so a claim about the part holds for every order.
DESIGN CHOICE, safe (log entry 7). -/
opaque Config.choice : Nat → Nat

/-- The choice that the k-th open choice makes among `n` alternatives, 0 to n − 1. With one
alternative there is nothing to choose, and the free value is not read. -/
def Config.pick (k n : Nat) : Nat := if n ≤ 1 then 0 else Config.choice k % n

end Sys2Proof
end

