-- ==== Sys2Proof/Syntax.lean ====
section
/-! DEFINITION. The commands and events of the JX-2406: one constructor of `Instr` for each row of
spec/opcode_table.json, with the operands its rule gives it. Before them stand the names the
operands use (ports, legs, channels, resources, marks), the tables indexed by those names, and the
drive segment of R1. -/

namespace Sys2Proof

/-- A host port, lettered A, B and C (10). -/
inductive Port where
  | a | b | c
  deriving DecidableEq, Repr

/-- A leg of the power stage, numbered 0 to 3 (00_scope, Conventions). -/
inductive Leg where
  | l0 | l1 | l2 | l3
  deriving DecidableEq, Repr

/-- A position channel, numbered 0 and 1. -/
inductive Chan where
  | c0 | c1
  deriving DecidableEq, Repr

/-- A sync mark, 1 to 15 (R42). -/
inductive Mark where
  | m1 | m2 | m3 | m4 | m5 | m6 | m7 | m8 | m9 | m10 | m11 | m12 | m13 | m14 | m15
  deriving DecidableEq, Repr

/-- The seven leased resources (R72). -/
inductive Resource where
  | leg (n : Leg)
  | carrier
  | chan (c : Chan)
  deriving DecidableEq, Repr

/-- A side of a leg (R57). -/
inductive Side where
  | high | low
  deriving DecidableEq, Repr

/-- The queue that a fetch transaction names (R159). -/
inductive FetchQueue where
  | responses | notices
  deriving DecidableEq, Repr

/-- What asserts part reset, the RST pin or the power-on detector, and for how many samples more it does so
before it lets go (R176). -/
inductive ResetSource where
  | rstPin (samples : Nat)
  | powerOn (samples : Nat)
  deriving DecidableEq, Repr

/-! ### Tables indexed by the names above -/

/-- One value for each port. -/
structure PerPort (α : Type) where
  a : α
  b : α
  c : α
  deriving DecidableEq, Repr

/-- One value for each leg. -/
structure PerLeg (α : Type) where
  l0 : α
  l1 : α
  l2 : α
  l3 : α
  deriving DecidableEq, Repr

/-- One value for each channel. -/
structure PerChan (α : Type) where
  c0 : α
  c1 : α
  deriving DecidableEq, Repr

/-- One value for each of the seven resources. -/
structure PerResource (α : Type) where
  leg     : PerLeg α
  carrier : α
  chan    : PerChan α
  deriving DecidableEq, Repr

/-- One value for each of the fifteen marks. -/
structure PerMark (α : Type) where
  m1 : α
  m2 : α
  m3 : α
  m4 : α
  m5 : α
  m6 : α
  m7 : α
  m8 : α
  m9 : α
  m10 : α
  m11 : α
  m12 : α
  m13 : α
  m14 : α
  m15 : α
  deriving DecidableEq, Repr

def PerPort.get {α : Type} (t : PerPort α) : Port → α
  | .a => t.a
  | .b => t.b
  | .c => t.c

def PerPort.set {α : Type} (t : PerPort α) (p : Port) (x : α) : PerPort α :=
  match p with
  | .a => { t with a := x }
  | .b => { t with b := x }
  | .c => { t with c := x }

/-- The table whose value at each port is `f` of it. -/
def PerPort.ofFn {α : Type} (f : Port → α) : PerPort α := ⟨f .a, f .b, f .c⟩

def PerLeg.get {α : Type} (t : PerLeg α) : Leg → α
  | .l0 => t.l0
  | .l1 => t.l1
  | .l2 => t.l2
  | .l3 => t.l3

def PerLeg.set {α : Type} (t : PerLeg α) (n : Leg) (x : α) : PerLeg α :=
  match n with
  | .l0 => { t with l0 := x }
  | .l1 => { t with l1 := x }
  | .l2 => { t with l2 := x }
  | .l3 => { t with l3 := x }

/-- The table whose value at each leg is `f` of it. -/
def PerLeg.ofFn {α : Type} (f : Leg → α) : PerLeg α := ⟨f .l0, f .l1, f .l2, f .l3⟩

def PerChan.get {α : Type} (t : PerChan α) : Chan → α
  | .c0 => t.c0
  | .c1 => t.c1

def PerChan.set {α : Type} (t : PerChan α) (c : Chan) (x : α) : PerChan α :=
  match c with
  | .c0 => { t with c0 := x }
  | .c1 => { t with c1 := x }

/-- The table whose value at each channel is `f` of it. -/
def PerChan.ofFn {α : Type} (f : Chan → α) : PerChan α := ⟨f .c0, f .c1⟩

def PerResource.get {α : Type} (t : PerResource α) : Resource → α
  | .leg n => t.leg.get n
  | .carrier => t.carrier
  | .chan c => t.chan.get c

def PerResource.set {α : Type} (t : PerResource α) (r : Resource) (x : α) : PerResource α :=
  match r with
  | .leg n => { t with leg := t.leg.set n x }
  | .carrier => { t with carrier := x }
  | .chan c => { t with chan := t.chan.set c x }

def PerMark.get {α : Type} (t : PerMark α) : Mark → α
  | .m1 => t.m1
  | .m2 => t.m2
  | .m3 => t.m3
  | .m4 => t.m4
  | .m5 => t.m5
  | .m6 => t.m6
  | .m7 => t.m7
  | .m8 => t.m8
  | .m9 => t.m9
  | .m10 => t.m10
  | .m11 => t.m11
  | .m12 => t.m12
  | .m13 => t.m13
  | .m14 => t.m14
  | .m15 => t.m15

/-- The table whose value at each mark is `f` of it. -/
def PerMark.ofFn {α : Type} (f : Mark → α) : PerMark α :=
  ⟨f .m1, f .m2, f .m3, f .m4, f .m5, f .m6, f .m7, f .m8, f .m9, f .m10, f .m11, f .m12,
    f .m13, f .m14, f .m15⟩

/-- The ports in order. -/
def Port.all : List Port := [.a, .b, .c]

/-- The legs in order. -/
def Leg.all : List Leg := [.l0, .l1, .l2, .l3]

/-- The channels in order. -/
def Chan.all : List Chan := [.c0, .c1]

/-- The marks in order. -/
def Mark.all : List Mark :=
  [.m1, .m2, .m3, .m4, .m5, .m6, .m7, .m8, .m9, .m10, .m11, .m12, .m13, .m14, .m15]

/-- The resources in the order of their codes (10.9). -/
def Resource.all : List Resource :=
  [.leg .l0, .leg .l1, .leg .l2, .leg .l3, .carrier, .chan .c0, .chan .c1]

/-! ### The drive segment (R1) -/

/-- Which sides follow the reference of a MODULATE segment (R1). -/
inductive Sides where
  | both | highOnly | lowOnly
  deriving DecidableEq, Repr

/-- What a segment drives: its kind, with the duty and sides that only MODULATE has (R1). -/
inductive Drive where
  | modulate (duty : Half) (sides : Sides)
  | fixedHigh
  | fixedLow
  | float
  deriving DecidableEq, Repr

/-- Which of SEGMENT_START and SEGMENT_END a segment produces (R1). -/
inductive Notify where
  | none | start | finish | both
  deriving DecidableEq, Repr

/-- The direction of a position condition (R1). -/
inductive CondDir where
  | up | down | either
  deriving DecidableEq, Repr

/-- A position at which a segment ends (R1). -/
structure Condition where
  chan   : Chan
  dir    : CondDir
  target : Half
  deriving DecidableEq, Repr

/-- The sync field of a segment: a mark and the set of legs of the step (R42). -/
structure SyncField where
  mark : Mark
  legs : PerLeg Bool
  deriving DecidableEq, Repr

/-- A drive segment (R1). A length of `none` is OPEN. -/
structure Segment where
  drive     : Drive
  length    : Option Nat
  condition : Option Condition
  sync      : Option SyncField
  tag       : Byte
  notify    : Notify
  final     : Bool
  gen       : Half
  deriving DecidableEq, Repr

/-! ### Frames and pins -/

/-- A command frame that passed the frame check: its CODE, SEQ and argument bytes (10.9). LEN and
CRC are functions of them. -/
structure Frame where
  code : Byte
  seq  : Byte
  args : List Byte
  deriving DecidableEq, Repr

/-- The pins of one port that the release of reset reads: PRESx and the strap ROLEx. -/
structure PortPins where
  pres : Bool
  role : Bool
  deriving DecidableEq, Repr

/-- The pins of one position channel: CHnX, CHnY, CHnZ. -/
structure ChanPins where
  x : Bool
  y : Bool
  z : Bool
  deriving DecidableEq, Repr

/-- The pin levels that the release of reset takes (R171, R173, R127, R129). -/
structure Pins where
  ports : PerPort PortPins
  chans : PerChan ChanPins
  trip0 : Bool
  trip1 : Bool
  arm   : Bool
  deriving DecidableEq, Repr

/-! ### The rows of the opcode table -/

/-- One constructor for each row of spec/opcode_table.json. The first 32 are host commands: each
names the port that issues it and the SEQ of its frame, and carries the argument fields of its code
in 10.9 as they stand on the wire, so that an argument outside its encoding can be given and is
answered BAD_ARG. The others are the part's events: ends of SPI transactions, presence and reset,
ticks and counts, trip inputs, and channel inputs. -/
inductive Instr where
  /-- NOP (R175). -/
  | nop (p : Port) (seq : Byte)
  /-- QUERY_PORT (R175). -/
  | queryPort (p : Port) (seq : Byte)
  /-- SET_NOTICE_MASK (R174). -/
  | setNoticeMask (p : Port) (seq classes : Byte)
  /-- CLAIM (R81): resource, interval, wait flag. -/
  | claim (p : Port) (seq r : Byte) (interval : Half) (wait : Byte)
  /-- RELEASE (R96): resource, generation. -/
  | release (p : Port) (seq r : Byte) (g : Half)
  /-- RENEW (R90): resource, generation. -/
  | renew (p : Port) (seq r : Byte) (g : Half)
  /-- RENEW_ALL (R91). -/
  | renewAll (p : Port) (seq : Byte)
  /-- SEIZE (R104): resource, interval. -/
  | seize (p : Port) (seq r : Byte) (interval : Half)
  /-- CANCEL_WAIT (R85): resource. -/
  | cancelWait (p : Port) (seq r : Byte)
  /-- QUERY_LEASE (R92): resource. -/
  | queryLease (p : Port) (seq r : Byte)
  /-- APPEND (R14): leg, generation, segment argument bytes. -/
  | append (p : Port) (seq leg : Byte) (g : Half) (segment : List Byte)
  /-- REPLACE (R16): leg, generation, at-once flag, segment argument bytes. -/
  | replace (p : Port) (seq leg : Byte) (g : Half) (atOnce : Byte) (segment : List Byte)
  /-- FLUSH (R18): leg, generation. -/
  | flush (p : Port) (seq leg : Byte) (g : Half)
  /-- CUT (R19): leg, generation. -/
  | cut (p : Port) (seq leg : Byte) (g : Half)
  /-- SET_LEG (R24): leg, generation, dead time, patterns byte, escalation limit. -/
  | setLeg (p : Port) (seq leg : Byte) (g : Half) (deadTime patterns escalation : Byte)
  /-- QUERY_LEG (R22): leg. -/
  | queryLeg (p : Port) (seq leg : Byte)
  /-- QUERY_OUTPUT (R71): leg. -/
  | queryOutput (p : Port) (seq leg : Byte)
  /-- REARM (R121): leg, generation. -/
  | rearm (p : Port) (seq leg : Byte) (g : Half)
  /-- QUERY_TRIP (R126). -/
  | queryTrip (p : Port) (seq : Byte)
  /-- SET_PERIOD (R34): generation, period. -/
  | setPeriod (p : Port) (seq : Byte) (g period : Half)
  /-- SET_CARRIER (R35): generation, mode, prescale exponent. -/
  | setCarrier (p : Port) (seq : Byte) (g : Half) (mode prescale : Byte)
  /-- START (R36): generation. -/
  | start (p : Port) (seq : Byte) (g : Half)
  /-- STOP (R37): generation. -/
  | stop (p : Port) (seq : Byte) (g : Half)
  /-- SET_SYNC_LIMIT (R38): generation, limit. -/
  | setSyncLimit (p : Port) (seq : Byte) (g limit : Half)
  /-- QUERY_CARRIER (R39). -/
  | queryCarrier (p : Port) (seq : Byte)
  /-- QUERY_SYNC (R55). -/
  | querySync (p : Port) (seq : Byte)
  /-- SET_CHANNEL (R144): channel, generation, mode, filter, modulus − 1, index and edge, prescale. -/
  | setChannel (p : Port) (seq ch : Byte) (g : Half) (mode filter : Byte) (modulus : Half)
      (indexEdge prescale : Byte)
  /-- SET_POSITION (R146): channel, generation, value. -/
  | setPosition (p : Port) (seq ch : Byte) (g value : Half)
  /-- QUERY_CHANNEL (R147): channel. -/
  | queryChannel (p : Port) (seq ch : Byte)
  /-- SUBSCRIBE (R155): channel, kinds. -/
  | subscribe (p : Port) (seq ch kinds : Byte)
  /-- READ_SNAPSHOT (R152). -/
  | readSnapshot (p : Port) (seq : Byte)
  /-- UNKNOWN (R165): a queued frame whose CODE names no command. -/
  | unknown (p : Port) (seq code : Byte) (args : List Byte)
  /-- STATUS_CAPTURE (R160): the fall of CSNx. -/
  | statusCapture (p : Port)
  /-- COMMAND_TRANSACTION (R163): the rise of CSNx; the whole bytes that the host sent, the opener in
  slot 0 first, and whether the transaction ended in a partial byte. -/
  | commandTransaction (p : Port) (bytes : List Byte) (ragged : Bool)
  /-- FETCH_RESPONSE (R167): the rise of CSNx; the whole bytes that the host sent, the opener first. -/
  | fetchResponse (p : Port) (bytes : List Byte)
  /-- FETCH_NOTICE (R167): as FETCH_RESPONSE. -/
  | fetchNotice (p : Port) (bytes : List Byte)
  /-- FRAMING_FAULT (R159): the rise of CSNx ending a transaction with an invalid or incomplete
  opener; the whole bytes that the host sent, none if slot 0 was not completed. -/
  | framingFault (p : Port) (bytes : List Byte)
  /-- PRESENCE_FALL (R171): PRESx accepted low. -/
  | presenceFall (p : Port)
  /-- PRESENCE_RISE (R171): PRESx accepted high. -/
  | presenceRise (p : Port)
  /-- RESET_ASSERT (R176): a source asserts reset, and lets go after its samples. -/
  | resetAssert (source : ResetSource)
  /-- RESET_RELEASE (R176): the end of the stretch, with the pin levels at that moment. -/
  | resetRelease (pins : Pins)
  /-- CARRIER_TICK (R27). -/
  | carrierTick
  /-- PERIOD_BOUNDARY (R31). -/
  | periodBoundary
  /-- SEGMENT_LENGTH_EXPIRY (R7). -/
  | segmentLengthExpiry (n : Leg)
  /-- SYNC_BREAK (R49). -/
  | syncBreak (m : Mark)
  /-- ESCALATION (R120). -/
  | escalation (n : Leg)
  /-- REARM_COMPLETION (R122). -/
  | rearmCompletion (n : Leg)
  /-- LEASE_TICK (R88). -/
  | leaseTick
  /-- LEASE_EXPIRY (R101). -/
  | leaseExpiry (r : Resource)
  /-- TRIP0_ACTIVE (R111): TRIP0 accepted active. -/
  | trip0Active
  /-- TRIP0_INACTIVE (R117): TRIP0 accepted inactive. -/
  | trip0Inactive
  /-- TRIP1_ACTIVE (R111): TRIP1 accepted active. -/
  | trip1Active
  /-- TRIP1_INACTIVE (R111): TRIP1 accepted inactive. -/
  | trip1Inactive
  /-- DISARM (R111): ARM accepted low. -/
  | disarm
  /-- ARM_HIGH (R111): ARM accepted high. -/
  | armHigh
  /-- SIDE_TURN_ON (R62): a side's count reaches the leg's dead time. -/
  | sideTurnOn (n : Leg) (side : Side)
  /-- QUAD_INPUT_CHANGE (R132): the newly accepted levels of X and Y. -/
  | quadInputChange (ch : Chan) (x y : Bool)
  /-- STEP_DIR_EDGE (R134): an active edge of X, with the level of Y accepted at that sample. -/
  | stepDirEdge (ch : Chan) (y : Bool)
  /-- UP_DOWN_EDGE (R135): the newly accepted levels of X and Y. -/
  | upDownEdge (ch : Chan) (x y : Bool)
  /-- INDEX_EDGE (R138): the accepted rise of Z. -/
  | indexEdge (ch : Chan)
  /-- CAPTURE_EDGE (R141): X accepted at its other level. -/
  | captureEdge (ch : Chan)
  /-- INTERVAL_TICK (R139). -/
  | intervalTick (ch : Chan)
  /-- STALL (R140): the interval timer saturates in a counting mode. -/
  | stall (ch : Chan)
  /-- CAPTURE_SATURATION (R142): the interval timer saturates while MEASURING. -/
  | captureSaturation (ch : Chan)
  /-- ACCEPTED_LEVEL_CHANGE (R130): the newly accepted levels of X, Y and Z, none of whose changes
  counts, latches or measures. -/
  | acceptedLevelChange (ch : Chan) (x y z : Bool)
  /-- FETCH_FRAME_FIXED (R167): the end of slot 1 of a fetch of the named queue. -/
  | fetchFrameFixed (p : Port) (q : FetchQueue)
  deriving DecidableEq, Repr

end Sys2Proof
end

