-- ==== Sys2Proof/Decode.lean ====
section
/-! DEFINITION. The command codes of 10.9, the CRC of R162, the frame check of R163, and the
decoding of a checked frame to a row of the opcode table, with its encoder beside it. -/

namespace Sys2Proof

/-! ### Byte order (10.9: multi-byte fields are sent high byte first) -/

/-- The high byte of a two-byte field. -/
def hiByte (h : Half) : Byte := h.extractLsb' 8 8

/-- The low byte of a two-byte field. -/
def loByte (h : Half) : Byte := h.extractLsb' 0 8

/-- Two bytes, high byte first, as one field. -/
def join16 (hi lo : Byte) : Half := hi ++ lo

/-- A two-byte field, high byte first. -/
def be16 (h : Half) : List Byte := [hiByte h, loByte h]

/-- A four-byte field, high byte first. -/
def be32 (d : Dword) : List Byte :=
  [d.extractLsb' 24 8, d.extractLsb' 16 8, d.extractLsb' 8 8, d.extractLsb' 0 8]

/-! ### Numbers of the names -/

/-- The code of a port: 1 A, 2 B, 3 C (10.9). -/
def Port.number : Port → Nat
  | .a => 1
  | .b => 2
  | .c => 3

/-- The number of a leg, 0 to 3. -/
def Leg.number : Leg → Nat
  | .l0 => 0
  | .l1 => 1
  | .l2 => 2
  | .l3 => 3

/-- The leg of a leg byte; none above 3 (R22, R71, R121). -/
def legOf (b : Byte) : Option Leg := Leg.all[b.toNat]?

/-- The number of a channel. -/
def Chan.number : Chan → Nat
  | .c0 => 0
  | .c1 => 1

/-- The channel of a channel byte; none above 1 (R144, R146, R147, R155). -/
def chanOf (b : Byte) : Option Chan := Chan.all[b.toNat]?

/-- The code of a resource: 0–3 LEG0–LEG3, 4 CARRIER, 5 CHAN0, 6 CHAN1 (10.9). -/
def Resource.number : Resource → Nat
  | .leg n => n.number
  | .carrier => 4
  | .chan c => 5 + c.number

/-- The resource of a resource byte; none above 6. -/
def resourceOf (b : Byte) : Option Resource := Resource.all[b.toNat]?

/-- The number of a mark, 1 to 15 (R42). -/
def Mark.number : Mark → Nat
  | .m1 => 1
  | .m2 => 2
  | .m3 => 3
  | .m4 => 4
  | .m5 => 5
  | .m6 => 6
  | .m7 => 7
  | .m8 => 8
  | .m9 => 9
  | .m10 => 10
  | .m11 => 11
  | .m12 => 12
  | .m13 => 13
  | .m14 => 14
  | .m15 => 15

/-- The mark of a mark byte; none for 0 and above 15 (R2). -/
def markOf (b : Byte) : Option Mark := if b = 0 then none else Mark.all[b.toNat - 1]?

/-- The legs of a sync set byte: bit n for leg n (10.9). -/
def legsOfMask (b : Byte) : PerLeg Bool := .ofFn fun n => b.getLsbD n.number

/-- A bit as a byte. -/
def bitByte (b : Bool) : Byte := if b then 1 else 0

/-- The sync set byte of a set of legs: bit n for leg n (10.9). -/
def maskOfLegs (s : PerLeg Bool) : Byte :=
  bitByte s.l0 ||| bitByte s.l1 <<< 1 ||| bitByte s.l2 <<< 2 ||| bitByte s.l3 <<< 3

/-- How many legs a set holds. -/
def legCount (s : PerLeg Bool) : Nat := (Leg.all.filter s.get).length

/-! ### The segment argument (10.9, R2) -/

/-- The length of a segment: 1–4095, or 0xFFFF for OPEN; any other value is malformed. -/
def parseLength (h : Half) : Option (Option Nat) :=
  if h = 0xFFFF then some none
  else if 1 ≤ h.toNat ∧ h.toNat ≤ 4095 then some (some h.toNat)
  else none

/-- The sides byte: 0 BOTH, 1 HIGH_ONLY, 2 LOW_ONLY. -/
def sidesOf (b : Byte) : Option Sides :=
  if b = 0 then some .both else if b = 1 then some .highOnly else if b = 2 then some .lowOnly
  else none

/-- Kind, duty and sides: duty and sides are present exactly in MODULATE (R2). -/
def parseDrive (kind : BitVec 2) (present : Bool) (rest : List Byte) :
    Option (Drive × List Byte) :=
  if kind = 0 then
    match present, rest with
    | true, dh :: dl :: sd :: rest => (sidesOf sd).map fun s => (.modulate (join16 dh dl) s, rest)
    | _, _ => none
  else if present then none
  else if kind = 1 then some (.fixedHigh, rest)
  else if kind = 2 then some (.fixedLow, rest)
  else some (.float, rest)

/-- The direction of a condition: 0 UP, 1 DOWN, 2 EITHER. -/
def condDirOf (b : BitVec 2) : Option CondDir :=
  if b = 0 then some .up else if b = 1 then some .down else if b = 2 then some .either else none

/-- The condition, if present: bit 7 channel, bits 1–0 direction, unused bits 0; then the target. -/
def parseCondition (present : Bool) (rest : List Byte) :
    Option (Option Condition × List Byte) :=
  if present then
    match rest with
    | b :: th :: tl :: rest =>
      if b.extractLsb' 2 5 = 0 then
        (condDirOf (b.extractLsb' 0 2)).map fun d =>
          (some ⟨if b.getLsbD 7 then .c1 else .c0, d, join16 th tl⟩, rest)
      else none
    | _ => none
  else some (none, rest)

/-- The sync field, if present: a mark 1–15 and a set of 2 to 4 legs that holds the own leg (R2). -/
def parseSync (own : Leg) (present : Bool) (rest : List Byte) :
    Option (Option SyncField × List Byte) :=
  if present then
    match rest with
    | m :: s :: rest =>
      match markOf m with
      | some mark =>
        if s.extractLsb' 4 4 = 0 ∧ (legsOfMask s).get own = true ∧ 2 ≤ legCount (legsOfMask s) then
          some (some ⟨mark, legsOfMask s⟩, rest)
        else none
      | none => none
    | _ => none
  else some (none, rest)

/-- The notify field: 0 NONE, 1 START, 2 END, 3 BOTH. -/
def notifyOf (b : BitVec 2) : Notify :=
  if b = 0 then .none else if b = 1 then .start else if b = 2 then .finish else .both

/-- A segment argument for leg `own`, stamped with generation `g` (R1, R2, R14); none if it is
malformed or its bytes are not the number its presence bits call for (R165). -/
def parseSegment (own : Leg) (g : Half) (bytes : List Byte) : Option Segment :=
  match bytes with
  | b :: tag :: lh :: ll :: rest =>
    (parseLength (join16 lh ll)).bind fun length =>
    (parseDrive (b.extractLsb' 6 2) (b.getLsbD 2) rest).bind fun (drive, rest) =>
    (parseCondition (b.getLsbD 1) rest).bind fun (condition, rest) =>
    (parseSync own (b.getLsbD 0) rest).bind fun (sync, rest) =>
    if rest = [] then
      some ⟨drive, length, condition, sync, tag, notifyOf (b.extractLsb' 4 2), b.getLsbD 3, g⟩
    else none
  | _ => none

/-- The kind bits of a drive (10.9). -/
def Drive.kindCode : Drive → Byte
  | .modulate _ _ => 0
  | .fixedHigh => 1
  | .fixedLow => 2
  | .float => 3

/-- The code of a sides value (10.9). -/
def Sides.code : Sides → Byte
  | .both => 0
  | .highOnly => 1
  | .lowOnly => 2

/-- The code of a notify value (10.9). -/
def Notify.code : Notify → Byte
  | .none => 0
  | .start => 1
  | .finish => 2
  | .both => 3

/-- The code of a condition direction (10.9). -/
def CondDir.code : CondDir → Byte
  | .up => 0
  | .down => 1
  | .either => 2

/-- Whether a drive has duty and sides (R1). -/
def Drive.hasDuty : Drive → Bool
  | .modulate _ _ => true
  | _ => false

/-- The duty and sides bytes of a drive. -/
def Drive.dutyBytes : Drive → List Byte
  | .modulate d s => be16 d ++ [s.code]
  | _ => []

/-- The condition bytes. -/
def Condition.bytes (c : Condition) : List Byte :=
  ((match c.chan with | .c0 => 0 | .c1 => 0x80) ||| c.dir.code) :: be16 c.target

/-- The argument bytes of a segment (10.9). Its generation is not among them (R1). -/
def encodeSegment (s : Segment) : List Byte :=
  (s.drive.kindCode <<< 6 ||| s.notify.code <<< 4 ||| bitByte s.final <<< 3
      ||| bitByte s.drive.hasDuty <<< 2 ||| bitByte s.condition.isSome <<< 1
      ||| bitByte s.sync.isSome)
    :: s.tag
    :: (be16 (match s.length with | some n => BitVec.ofNat 16 n | none => 0xFFFF)
      ++ s.drive.dutyBytes
      ++ (match s.condition with | some c => c.bytes | none => [])
      ++ (match s.sync with | some f => [BitVec.ofNat 8 f.mark.number, maskOfLegs f.legs] | none => []))

/-! ### Command codes (10.9) -/

/-- The commands that have a code. -/
inductive Opcode where
  | nop | queryPort | setNoticeMask | claim | release | renew | renewAll | seize | cancelWait
  | queryLease | append | replace | flush | cut | setLeg | queryLeg | queryOutput | rearm
  | queryTrip | setPeriod | setCarrier | start | stop | setSyncLimit | queryCarrier | querySync
  | setChannel | setPosition | queryChannel | subscribe | readSnapshot
  deriving DecidableEq, Repr

/-- The code byte of a command. -/
def Opcode.code : Opcode → Byte
  | .nop => 0x01
  | .queryPort => 0x02
  | .setNoticeMask => 0x03
  | .claim => 0x10
  | .release => 0x11
  | .renew => 0x12
  | .renewAll => 0x13
  | .seize => 0x14
  | .cancelWait => 0x15
  | .queryLease => 0x16
  | .append => 0x20
  | .replace => 0x21
  | .flush => 0x22
  | .cut => 0x23
  | .setLeg => 0x24
  | .queryLeg => 0x25
  | .queryOutput => 0x26
  | .rearm => 0x27
  | .queryTrip => 0x28
  | .setPeriod => 0x30
  | .setCarrier => 0x31
  | .start => 0x32
  | .stop => 0x33
  | .setSyncLimit => 0x34
  | .queryCarrier => 0x35
  | .querySync => 0x36
  | .setChannel => 0x40
  | .setPosition => 0x41
  | .queryChannel => 0x42
  | .subscribe => 0x43
  | .readSnapshot => 0x44

/-- The commands in the order of their codes. -/
def Opcode.all : List Opcode :=
  [.nop, .queryPort, .setNoticeMask, .claim, .release, .renew, .renewAll, .seize, .cancelWait,
    .queryLease, .append, .replace, .flush, .cut, .setLeg, .queryLeg, .queryOutput, .rearm,
    .queryTrip, .setPeriod, .setCarrier, .start, .stop, .setSyncLimit, .queryCarrier, .querySync,
    .setChannel, .setPosition, .queryChannel, .subscribe, .readSnapshot]

/-- The command that a CODE byte names, if any (R165, check 1). -/
def opcodeOf (b : Byte) : Option Opcode := Opcode.all.find? fun o => o.code == b

/-! ### Frames -/

/-- The host command that a checked frame of port `p` holds. `none` when the number of argument
bytes is not one its code takes (R165, check 2; for APPEND and REPLACE the segment's own bytes are
counted when the segment is read). A CODE that names no command gives UNKNOWN (R165, check 1). -/
def decodeFrame (p : Port) (f : Frame) : Option Instr :=
  match opcodeOf f.code with
  | none => some (.unknown p f.seq f.code f.args)
  | some .nop => match f.args with
    | [] => some (.nop p f.seq)
    | _ => none
  | some .queryPort => match f.args with
    | [] => some (.queryPort p f.seq)
    | _ => none
  | some .setNoticeMask => match f.args with
    | [k] => some (.setNoticeMask p f.seq k)
    | _ => none
  | some .claim => match f.args with
    | [r, ih, il, w] => some (.claim p f.seq r (join16 ih il) w)
    | _ => none
  | some .release => match f.args with
    | [r, gh, gl] => some (.release p f.seq r (join16 gh gl))
    | _ => none
  | some .renew => match f.args with
    | [r, gh, gl] => some (.renew p f.seq r (join16 gh gl))
    | _ => none
  | some .renewAll => match f.args with
    | [] => some (.renewAll p f.seq)
    | _ => none
  | some .seize => match f.args with
    | [r, ih, il] => some (.seize p f.seq r (join16 ih il))
    | _ => none
  | some .cancelWait => match f.args with
    | [r] => some (.cancelWait p f.seq r)
    | _ => none
  | some .queryLease => match f.args with
    | [r] => some (.queryLease p f.seq r)
    | _ => none
  | some .append => match f.args with
    | n :: gh :: gl :: seg => some (.append p f.seq n (join16 gh gl) seg)
    | _ => none
  | some .replace => match f.args with
    | n :: gh :: gl :: o :: seg => some (.replace p f.seq n (join16 gh gl) o seg)
    | _ => none
  | some .flush => match f.args with
    | [n, gh, gl] => some (.flush p f.seq n (join16 gh gl))
    | _ => none
  | some .cut => match f.args with
    | [n, gh, gl] => some (.cut p f.seq n (join16 gh gl))
    | _ => none
  | some .setLeg => match f.args with
    | [n, gh, gl, d, pat, e] => some (.setLeg p f.seq n (join16 gh gl) d pat e)
    | _ => none
  | some .queryLeg => match f.args with
    | [n] => some (.queryLeg p f.seq n)
    | _ => none
  | some .queryOutput => match f.args with
    | [n] => some (.queryOutput p f.seq n)
    | _ => none
  | some .rearm => match f.args with
    | [n, gh, gl] => some (.rearm p f.seq n (join16 gh gl))
    | _ => none
  | some .queryTrip => match f.args with
    | [] => some (.queryTrip p f.seq)
    | _ => none
  | some .setPeriod => match f.args with
    | [gh, gl, ph, pl] => some (.setPeriod p f.seq (join16 gh gl) (join16 ph pl))
    | _ => none
  | some .setCarrier => match f.args with
    | [gh, gl, m, e] => some (.setCarrier p f.seq (join16 gh gl) m e)
    | _ => none
  | some .start => match f.args with
    | [gh, gl] => some (.start p f.seq (join16 gh gl))
    | _ => none
  | some .stop => match f.args with
    | [gh, gl] => some (.stop p f.seq (join16 gh gl))
    | _ => none
  | some .setSyncLimit => match f.args with
    | [gh, gl, lh, ll] => some (.setSyncLimit p f.seq (join16 gh gl) (join16 lh ll))
    | _ => none
  | some .queryCarrier => match f.args with
    | [] => some (.queryCarrier p f.seq)
    | _ => none
  | some .querySync => match f.args with
    | [] => some (.querySync p f.seq)
    | _ => none
  | some .setChannel => match f.args with
    | [c, gh, gl, m, fl, mh, ml, ie, e] =>
      some (.setChannel p f.seq c (join16 gh gl) m fl (join16 mh ml) ie e)
    | _ => none
  | some .setPosition => match f.args with
    | [c, gh, gl, vh, vl] => some (.setPosition p f.seq c (join16 gh gl) (join16 vh vl))
    | _ => none
  | some .queryChannel => match f.args with
    | [c] => some (.queryChannel p f.seq c)
    | _ => none
  | some .subscribe => match f.args with
    | [c, k] => some (.subscribe p f.seq c k)
    | _ => none
  | some .readSnapshot => match f.args with
    | [] => some (.readSnapshot p f.seq)
    | _ => none

/-- The port and the frame of a host command (10.9); none for an event row. -/
def encodeFrame : Instr → Option (Port × Frame)
  | .nop p q => some (p, ⟨Opcode.nop.code, q, []⟩)
  | .queryPort p q => some (p, ⟨Opcode.queryPort.code, q, []⟩)
  | .setNoticeMask p q k => some (p, ⟨Opcode.setNoticeMask.code, q, [k]⟩)
  | .claim p q r i w => some (p, ⟨Opcode.claim.code, q, [r] ++ be16 i ++ [w]⟩)
  | .release p q r g => some (p, ⟨Opcode.release.code, q, [r] ++ be16 g⟩)
  | .renew p q r g => some (p, ⟨Opcode.renew.code, q, [r] ++ be16 g⟩)
  | .renewAll p q => some (p, ⟨Opcode.renewAll.code, q, []⟩)
  | .seize p q r i => some (p, ⟨Opcode.seize.code, q, [r] ++ be16 i⟩)
  | .cancelWait p q r => some (p, ⟨Opcode.cancelWait.code, q, [r]⟩)
  | .queryLease p q r => some (p, ⟨Opcode.queryLease.code, q, [r]⟩)
  | .append p q n g seg => some (p, ⟨Opcode.append.code, q, [n] ++ be16 g ++ seg⟩)
  | .replace p q n g o seg => some (p, ⟨Opcode.replace.code, q, [n] ++ be16 g ++ [o] ++ seg⟩)
  | .flush p q n g => some (p, ⟨Opcode.flush.code, q, [n] ++ be16 g⟩)
  | .cut p q n g => some (p, ⟨Opcode.cut.code, q, [n] ++ be16 g⟩)
  | .setLeg p q n g d pat e => some (p, ⟨Opcode.setLeg.code, q, [n] ++ be16 g ++ [d, pat, e]⟩)
  | .queryLeg p q n => some (p, ⟨Opcode.queryLeg.code, q, [n]⟩)
  | .queryOutput p q n => some (p, ⟨Opcode.queryOutput.code, q, [n]⟩)
  | .rearm p q n g => some (p, ⟨Opcode.rearm.code, q, [n] ++ be16 g⟩)
  | .queryTrip p q => some (p, ⟨Opcode.queryTrip.code, q, []⟩)
  | .setPeriod p q g v => some (p, ⟨Opcode.setPeriod.code, q, be16 g ++ be16 v⟩)
  | .setCarrier p q g m e => some (p, ⟨Opcode.setCarrier.code, q, be16 g ++ [m, e]⟩)
  | .start p q g => some (p, ⟨Opcode.start.code, q, be16 g⟩)
  | .stop p q g => some (p, ⟨Opcode.stop.code, q, be16 g⟩)
  | .setSyncLimit p q g l => some (p, ⟨Opcode.setSyncLimit.code, q, be16 g ++ be16 l⟩)
  | .queryCarrier p q => some (p, ⟨Opcode.queryCarrier.code, q, []⟩)
  | .querySync p q => some (p, ⟨Opcode.querySync.code, q, []⟩)
  | .setChannel p q c g m fl md ie e =>
    some (p, ⟨Opcode.setChannel.code, q, [c] ++ be16 g ++ [m, fl] ++ be16 md ++ [ie, e]⟩)
  | .setPosition p q c g v => some (p, ⟨Opcode.setPosition.code, q, [c] ++ be16 g ++ be16 v⟩)
  | .queryChannel p q c => some (p, ⟨Opcode.queryChannel.code, q, [c]⟩)
  | .subscribe p q c k => some (p, ⟨Opcode.subscribe.code, q, [c, k]⟩)
  | .readSnapshot p q => some (p, ⟨Opcode.readSnapshot.code, q, []⟩)
  | .unknown p q code args => some (p, ⟨code, q, args⟩)
  | .statusCapture _ | .commandTransaction _ _ _ | .fetchResponse _ _ | .fetchNotice _ _
  | .framingFault _ _ | .presenceFall _ | .presenceRise _ | .resetAssert _ | .resetRelease _
  | .carrierTick | .periodBoundary | .segmentLengthExpiry _ | .syncBreak _ | .escalation _
  | .rearmCompletion _ | .leaseTick | .leaseExpiry _ | .trip0Active | .trip0Inactive
  | .trip1Active | .trip1Inactive | .disarm | .armHigh | .sideTurnOn _ _ | .quadInputChange _ _ _
  | .stepDirEdge _ _ | .upDownEdge _ _ _ | .indexEdge _ | .captureEdge _ | .intervalTick _
  | .stall _ | .captureSaturation _ | .acceptedLevelChange _ _ _ _ | .fetchFrameFixed _ _ => none

/-! ### CRC and frame check (R162, R163) -/

/-- One bit of the CRC with generator x^16 + x^12 + x^5 + 1, not reflected (R162). -/
def crcBit (c : Half) : Half := if c.msb then (c <<< 1) ^^^ 0x1021 else c <<< 1

/-- `n` bits of the CRC. -/
def crcBits : Nat → Half → Half
  | 0, c => c
  | n + 1, c => crcBits n (crcBit c)

/-- One byte of the CRC, most significant bit first. -/
def crcByte (c : Half) (b : Byte) : Half := crcBits 8 (c ^^^ (b.setWidth 16 <<< 8))

/-- The CRC-16 of a frame, from its LEN byte through the last byte before the CRC (R162). -/
def crc16 (bytes : List Byte) : Half := bytes.foldl crcByte 0xFFFF

/-- A frame's bytes closed by their CRC, high byte first (R162). -/
def withCrc (bytes : List Byte) : List Byte := bytes ++ be16 (crc16 bytes)

/-- The bytes of a command frame: LEN, CODE, SEQ, arguments, CRC (10.9). -/
def Frame.bytes (f : Frame) : List Byte :=
  withCrc (BitVec.ofNat 8 (2 + f.args.length) :: f.code :: f.seq :: f.args)

/-- The outcome of the framing and CRC checks of R163. -/
inductive FrameCheck where
  | framing
  | crcFault
  | good (f : Frame)
  deriving DecidableEq, Repr

/-- Checks 1 and 2 of R163 on the whole bytes received in slots 1 onward. -/
def checkFrame (bytes : List Byte) (ragged : Bool) : FrameCheck :=
  match bytes with
  | [] => .framing
  | len :: rest =>
    if ragged = true ∨ len.toNat < 2 ∨ 32 < len.toNat ∨ rest.length ≠ len.toNat + 2 then .framing
    else if withCrc (len :: rest.take len.toNat) ≠ bytes then .crcFault
    else match rest.take len.toNat with
      | code :: seq :: args => .good ⟨code, seq, args⟩
      | _ => .framing

/-! ### The host's reading of the opcode table -/

/-- The command that a word spells by the table's bits: no row of this table gives bits, so a word
spells none (log entry 18). -/
def decodeTableWord (_nbits _w : Nat) : Option Instr := none

end Sys2Proof
end

