-- ==== Sys2Proof/Machine/State.lean ====
section
/-! DEFINITION. The state of the JX-2406, block by block as the block diagram of 00_scope lists
them, its value right after reset, and the reasons for which a step could stop. -/

namespace Sys2Proof.Machine

open Sys2Proof

/-! ### Port engines (R157) -/

/-- The role of a port, from its strap (R173). -/
inductive Role where
  | control | supervisor
  deriving DecidableEq, Repr

/-- An input filter: the pin, the accepted level, and the count of disagreeing samples
(R110, R130, R171). -/
structure Filter where
  pin   : Bool
  level : Bool
  count : Nat
  deriving DecidableEq, Repr

/-- The result codes of 10.9. -/
inductive Result where
  | ok | queued | held | alreadyHeld | notHolder | stale | full | busy | badArg | badCondition
  | tripActive | tripped | notPermitted | notWaiting | noActive | unknown
  deriving DecidableEq, Repr

/-- A response frame (R166): SEQ, CODE, RESULT and data. LEN and CRC are functions of them. -/
structure Response where
  seq    : Byte
  code   : Byte
  result : Result
  data   : List Byte
  deriving DecidableEq, Repr

/-- The end reasons of a segment (R8). -/
inductive EndReason where
  | length | condition | successor | cut | lease
  deriving DecidableEq, Repr

/-- The reasons of LEASE_LOST (R93). -/
inductive LossReason where
  | expired | seized
  deriving DecidableEq, Repr

/-- The causes of a trip (R111). -/
inductive Cause where
  | trip0 | trip1 | disarm | escalated
  deriving DecidableEq, Repr

/-- The direction of a channel (R137). -/
inductive Direction where
  | none | up | down
  deriving DecidableEq, Repr

/-- The mode of a channel (R128). -/
inductive ChanMode where
  | off | quad | stepDir | upDown | capture
  deriving DecidableEq, Repr

/-- The kind of a notice with its detail (10.9, Notice kinds and detail). -/
inductive NoticeBody where
  | segmentStart (gen : Half) (pendingCount : Nat)
  | segmentEnd (gen : Half) (reason : EndReason) (elapsed : Nat)
  | underrun (gen : Half)
  | syncBroken (mark : Mark) (gen : Half) (discarded : Nat)
  | leaseGranted (gen : Half) (interval : Nat)
  | leaseLost (reason : LossReason) (gen : Half) (newHolder : Option Port)
  | leaseLow (gen : Half) (remaining interval : Nat)
  | tripped (cause : Cause) (tripCount discarded : Nat)
  | rearmed (first : Cause) (tripCount : Nat)
  | limitStart (escalationLimit : Nat)
  | direction (dir : Direction) (position : Nat)
  | stall (mode : ChanMode) (position : Nat)
  | index (latch : Nat) (revolutions : Half)
  | phaseError (phase position : Nat)
  | capture (width period : Nat)
  | lost (count : Nat)
  deriving DecidableEq, Repr

/-- What a notice names in its SUBJECT byte (10.9). -/
inductive Subject where
  | leg (n : Leg)
  | resource (r : Resource)
  | chan (c : Chan)
  | none
  deriving DecidableEq, Repr

/-- A notice frame (R168): kind with detail, subject, tag if present, and the low 16 bits of the
period number. LEN and CRC are functions of them. -/
structure Notice where
  body    : NoticeBody
  subject : Subject
  tag     : Option Byte
  period  : Half
  deriving DecidableEq, Repr

/-- A set of the notice classes (R157, R174). -/
structure Classes where
  segment : Bool
  lease   : Bool
  trip    : Bool
  sync    : Bool
  deriving DecidableEq, Repr

/-- The sticky flags (R161). -/
structure Sticky where
  dropped  : Bool
  crcFault : Bool
  framing  : Bool
  deriving DecidableEq, Repr

/-- The frame that a fetch transaction sends, fixed at the end of slot 1 (R167): the empty marker,
or the bytes of the head of the named queue. -/
inductive FixedFrame where
  | marker
  | frame (bytes : List Byte)
  deriving DecidableEq, Repr

/-- The chip-select-low interval in progress (R157, R158): the two status bytes and the sticky
flags captured at the fall of CSNx (R160, R161), the opener and the byte count as far as known, and
the frame fixed for a fetch (R167). -/
structure Transaction where
  status1 : Byte
  status2 : Byte
  shown   : Sticky
  opener  : Option Byte
  bytes   : Nat
  fixed   : Option FixedFrame
  deriving DecidableEq, Repr

/-- A port engine (R157). `strap` is the ROLEx pin; `presence` is the filter of PRESx, whose
accepted level is the presence (R171). `ignoring` says that CSNx is low in a transaction that is ignored
to its end: it began while presence was low or during part reset, or was abandoned by a presence fall or
a reset (R158, R171, R177). -/
structure PortEngine where
  role      : Role
  strap     : Bool
  presence  : Filter
  commands  : List Frame
  responses : List Response
  notices   : List Notice
  lost      : Nat
  sticky    : Sticky
  mask      : Classes
  txn       : Option Transaction
  ignoring  : Bool
  deriving DecidableEq, Repr

/-! ### The Lease Table (R73) -/

/-- A waiter entry: the waiting port and the interval it requested (R73). -/
structure Waiter where
  port     : Port
  interval : Nat
  deriving DecidableEq, Repr

/-- The state of a lease with the fields that only HELD has (R73, R74): holder, interval, remaining
and low warning posted. In FREE and RELEASING the holder and interval are absent, the remaining
count is 0 and the warning is not posted. -/
inductive LeasePhase where
  | free
  | held (holder : Port) (interval remaining : Nat) (warned : Bool)
  | releasing
  deriving DecidableEq, Repr

/-- A lease record (R73). -/
structure Lease where
  phase   : LeasePhase
  gen     : Half
  waiters : List Waiter
  deriving DecidableEq, Repr

/-- A divider of the core clock (R27, R87, R139): the samples left to its next tick, and whether it was
started, or gave its tick, at the sample in progress, whose end it then does not count. The rules imply both
(DEDUCED, log entry 14). -/
structure Divider where
  toTick : Nat
  fresh  : Bool
  deriving DecidableEq, Repr

/-- The lease clock (R87, R175): its divider, and the lease tick number. -/
structure LeaseClock where
  divider : Divider
  number  : Dword
  deriving DecidableEq, Repr

/-! ### The Carrier Timer (R26) -/

inductive RunState where
  | stopped | running
  deriving DecidableEq, Repr

inductive CarrierMode where
  | center | edge
  deriving DecidableEq, Repr

inductive Slope where
  | falling | rising
  deriving DecidableEq, Repr

/-- The Carrier Timer (R26). `prescale` is the exponent, 0 to 7, of the prescale 1 to 128.
`divider` is the prescale divider (R27); `dwell` counts the ticks for which a CENTER lead-in has held 0
(R30). Both are implied by the rules (DEDUCED, log entry 14). -/
structure Carrier where
  run       : RunState
  mode      : CarrierMode
  prescale  : Fin 8
  divider   : Divider
  active    : Nat
  preload   : Nat
  counter   : Nat
  slope     : Slope
  leadIn    : Bool
  dwell     : Nat
  period    : Dword
  syncLimit : Nat
  deriving DecidableEq, Repr

/-! ### Leg Units with their trip state and output stages (R4, R6, R23, R57, R113, R118) -/

/-- A cut request (R4). -/
inductive CutRequest where
  | none | host | lease
  deriving DecidableEq, Repr

/-- The active segment with its runtime fields (R4). -/
structure Active where
  seg     : Segment
  elapsed : Nat
  latch   : Bool
  cut     : CutRequest
  deriving DecidableEq, Repr

/-- The held output of a HOLDING leg (R6): the drive of the segment that ended, or the idle
pattern. -/
inductive Held where
  | segment (d : Drive)
  | idlePattern
  deriving DecidableEq, Repr

/-- A set of trip causes (R113). -/
structure Causes where
  trip0     : Bool
  trip1     : Bool
  disarm    : Bool
  escalated : Bool
  deriving DecidableEq, Repr

/-- The trip record of a TRIPPED leg (R113). -/
structure TripRecord where
  first   : Cause
  period  : Dword
  tag     : Option Byte
  further : Causes
  rearm   : Bool
  deriving DecidableEq, Repr

/-- The state of a leg with what only that state has (R6, R113): the active segment in RUNNING, the
held output in HOLDING, the trip record in TRIPPED. -/
inductive LegPhase where
  | idle
  | running (a : Active)
  | holding (h : Held)
  | tripped (r : TripRecord)
  deriving DecidableEq, Repr

/-- An idle or trip pattern (R23). -/
inductive Pattern where
  | float | low
  deriving DecidableEq, Repr

/-- How a leg answers TRIP0 (R23). -/
inductive Trip0Response where
  | latch | cycle
  deriving DecidableEq, Repr

/-- The configuration of a leg (R23). -/
structure LegConfig where
  deadTime    : Nat
  idlePattern : Pattern
  tripPattern : Pattern
  response    : Trip0Response
  escalation  : Nat
  deriving DecidableEq, Repr

/-- One side of an output stage (R57): its demand as it stands now, and the level and the count that the
last sample left it. Turn-offs and turn-ons are judged at a sample with the demands that stand after it
(R62, R63, R69), so the level on the pin is `driven` while the side is demanded and off otherwise, whatever
came in between (`SideState.on`). -/
structure SideState where
  demand : Bool
  driven : Bool
  count  : Nat
  deriving DecidableEq, Repr

/-- An output stage (R57). Its output source follows the state of its leg (R58), so it is read from
there. -/
structure Stage where
  reference : Bool
  cycleCut  : Bool
  high      : SideState
  low       : SideState
  deriving DecidableEq, Repr

/-- A Leg Unit: state, pending queue (R3), configuration (R23), trip count (R113), limit counters
(R118) and output stage (R57). -/
structure LegUnit where
  phase     : LegPhase
  queue     : List Segment
  config    : LegConfig
  tripCount : Nat
  limited   : Bool
  runCount  : Nat
  stage     : Stage
  deriving DecidableEq, Repr

/-! ### The Sync Unit (R43) and the Trip Unit (R110) -/

/-- What the Sync Unit holds for one mark (R43). -/
structure MarkState where
  wait    : Nat
  holding : PerLeg Bool
  deriving DecidableEq, Repr

/-- The Trip Unit: the filters of TRIP0, TRIP1 and ARM (R110). -/
structure TripUnit where
  trip0 : Filter
  trip1 : Filter
  arm   : Filter
  deriving DecidableEq, Repr

/-! ### Position Channels (R128) -/

inductive FilterWidth where
  | w0 | w4 | w8 | w16
  deriving DecidableEq, Repr

inductive IndexUse where
  | off | latch | latchAndZero
  deriving DecidableEq, Repr

inductive ActiveEdge where
  | rising | falling
  deriving DecidableEq, Repr

inductive CaptureState where
  | waitFirst | measuring
  deriving DecidableEq, Repr

/-- A set of channel notice kinds (R154). -/
structure Kinds where
  direction  : Bool
  stall      : Bool
  index      : Bool
  phaseError : Bool
  capture    : Bool
  deriving DecidableEq, Repr

/-- The six settings of a channel (R128, R144). -/
structure ChanConfig where
  mode     : ChanMode
  filter   : FilterWidth
  modulus  : Nat
  indexUse : IndexUse
  edge     : ActiveEdge
  prescale : Fin 8
  deriving DecidableEq, Repr

/-- A Position Channel (R128) with its interval divider (R139). -/
structure Channel where
  config        : ChanConfig
  divider       : Divider
  x             : Filter
  y             : Filter
  z             : Filter
  phase         : Nat
  position      : Nat
  revolutions   : Half
  direction     : Direction
  timer         : Nat
  intervalLatch : Nat
  indexLatch    : Nat
  capture       : CaptureState
  widthTaken    : Bool
  widthLatch    : Nat
  periodLatch   : Nat
  stall         : Bool
  subscribers   : PerPort Kinds
  deriving DecidableEq, Repr

/-! ### Part reset (R176), the model's own fields, and the whole -/

/-- Part reset (R176): whether the part is in reset, the samples for which each of its two sources (RST
low, the power-on detector) still asserts, and the samples of the stretch that have passed since both let
go. -/
structure ResetUnit where
  inReset : Bool
  rstLow  : Nat
  porHold : Nat
  stretch : Nat
  deriving DecidableEq, Repr

/-- Where a notice comes from, for the order in which copies enter a queue: those of one source keep the order
in which they were raised, those of different sources are free among themselves (R56, R93, R112, R143, R156).
The model's own (log entries 8 and 17). -/
inductive Source where
  /-- The lease record of a resource; and of a leg also its own notices, which the model keeps in one order with
  those of its lease (DESIGN CHOICE, log entry 17). -/
  | resource (r : Resource)
  /-- A Position Channel, whose notices are free against those of its lease (R143, R156). -/
  | chan (c : Chan)
  deriving DecidableEq, Repr

/-- A copy of a notice on its way to a port: where it comes from, the port and the notice. The model's own (log
entry 8). -/
structure Outgoing where
  source : Source
  port   : Port
  notice : Notice
  deriving DecidableEq, Repr

/-- The state of the part. `outbox` (copies of the step in progress, empty between steps) and
`choices` (how many open choices have been made) are the model's own (log entry 8); `pending` holds
the commands and events that wait to be taken, first in, first out. -/
structure State where
  rst        : ResetUnit
  ports      : PerPort PortEngine
  leases     : PerResource Lease
  leaseClock : LeaseClock
  carrier    : Carrier
  legs       : PerLeg LegUnit
  sync       : PerMark MarkState
  trip       : TripUnit
  chans      : PerChan Channel
  outbox     : List Outgoing
  choices    : Nat
  pending    : List Instr
  deriving DecidableEq, Repr

/-- The reasons for which a step faults. There is none: the spec names no condition that stops the
part, and gives an effect or an answer for every command and event in every state. -/
inductive Fault where
  deriving DecidableEq, Repr

/-- The reasons for which a step refuses. -/
inductive Refusal where
  /-- Raised by `exec` alone, for a row of the opcode table whose meaning is not written. Safe. -/
  | notModelled (mnemonic : String)
  deriving DecidableEq, Repr

/-! ### Access to the blocks -/

def State.port (s : State) (p : Port) : PortEngine := s.ports.get p
def State.lease (s : State) (r : Resource) : Lease := s.leases.get r
def State.leg (s : State) (n : Leg) : LegUnit := s.legs.get n
def State.chan (s : State) (c : Chan) : Channel := s.chans.get c
def State.mark (s : State) (m : Mark) : MarkState := s.sync.get m

def State.setPort (s : State) (p : Port) (e : PortEngine) : State :=
  { s with ports := s.ports.set p e }
def State.setLease (s : State) (r : Resource) (l : Lease) : State :=
  { s with leases := s.leases.set r l }
def State.setLeg (s : State) (n : Leg) (u : LegUnit) : State :=
  { s with legs := s.legs.set n u }
def State.setChan (s : State) (c : Chan) (ch : Channel) : State :=
  { s with chans := s.chans.set c ch }
def State.setCarrier (s : State) (t : Carrier) : State := { s with carrier := t }
def State.setTrip (s : State) (t : TripUnit) : State := { s with trip := t }
def State.setSync (s : State) (t : PerMark MarkState) : State := { s with sync := t }
def State.setLegs (s : State) (t : PerLeg LegUnit) : State := { s with legs := t }
def State.setChans (s : State) (t : PerChan Channel) : State := { s with chans := t }
def State.setLeaseClock (s : State) (t : LeaseClock) : State := { s with leaseClock := t }
def State.setRst (s : State) (r : ResetUnit) : State := { s with rst := r }
def State.setOutbox (s : State) (o : List Outgoing) : State := { s with outbox := o }
def State.setChoices (s : State) (k : Nat) : State := { s with choices := k }
def State.setPending (s : State) (q : List Instr) : State := { s with pending := q }

/-! ### Reset values -/

/-- No cause. -/
def Causes.empty : Causes := ⟨false, false, false, false⟩

/-- No channel notice kind. -/
def Kinds.empty : Kinds := ⟨false, false, false, false, false⟩

/-- All four notice classes. -/
def Classes.all : Classes := ⟨true, true, true, true⟩

/-- All sticky flags clear. -/
def Sticky.clear : Sticky := ⟨false, false, false⟩

/-- A filter that agrees with its pin (R110, R129, R171). -/
def Filter.settled (level : Bool) : Filter := ⟨level, level, 0⟩

/-- A port engine at the release of reset (R157), with its role and presence from its pins
(R171, R173). -/
def PortEngine.reset (pins : PortPins) : PortEngine where
  role := if pins.role then .supervisor else .control
  strap := pins.role
  presence := Filter.settled pins.pres
  commands := []
  responses := []
  notices := []
  lost := 0
  sticky := .clear
  mask := .all
  txn := none
  ignoring := false

/-- A lease record after reset (R77). -/
def Lease.reset : Lease := ⟨.free, 0, []⟩

/-- The lease clock after reset: the first tick comes 6000 samples later (R87), number 0 (R175). -/
def LeaseClock.reset : LeaseClock := ⟨⟨6000, false⟩, 0⟩

/-- The Carrier Timer after reset (R41). The divider does not run while STOPPED; it starts afresh at
START (R27). -/
def Carrier.reset : Carrier where
  run := .stopped
  mode := .center
  prescale := 0
  divider := ⟨1, false⟩
  active := 1500
  preload := 1500
  counter := 0
  slope := .falling
  leadIn := false
  dwell := 0
  period := 0
  syncLimit := 64

/-- The configuration of a leg after reset (R23). -/
def LegConfig.reset : LegConfig := ⟨60, .float, .float, .latch, 0⟩

/-- An output stage after reset (R57). -/
def Stage.reset : Stage := ⟨false, false, ⟨false, false, 0⟩, ⟨false, false, 0⟩⟩

/-- A Leg Unit after reset (R25, R127). -/
def LegUnit.reset : LegUnit where
  phase := .idle
  queue := []
  config := .reset
  tripCount := 0
  limited := false
  runCount := 0
  stage := .reset

/-- What the Sync Unit holds for a mark after reset (R43). -/
def MarkState.reset : MarkState := ⟨0, ⟨false, false, false, false⟩⟩

/-- The configuration of a channel after reset (R129). -/
def ChanConfig.reset : ChanConfig := ⟨.off, .w0, 65536, .off, .rising, 0⟩

/-- A channel after reset with all three pins low (R129). The release of reset takes the levels of
the pins and their phase. -/
def Channel.reset : Channel where
  config := .reset
  divider := ⟨1, false⟩
  x := .settled false
  y := .settled false
  z := .settled false
  phase := 0
  position := 0
  revolutions := 0
  direction := .none
  timer := 0
  intervalLatch := 0
  indexLatch := 0
  capture := .waitFirst
  widthTaken := false
  widthLatch := 0
  periodLatch := 0
  stall := false
  subscribers := ⟨.empty, .empty, .empty⟩

/-- The same value for every port, leg, channel, resource or mark. -/
def PerResource.all {α : Type} (x : α) : PerResource α := ⟨⟨x, x, x, x⟩, x, ⟨x, x⟩⟩

/-- The pins at `State.reset`: the typical installation of 00_scope (Ports A and B CONTROL, Port C
SUPERVISOR), every host alive, every CSNx high, the safety chain closed, no trip input active, and
the sensor inputs low. The spec leaves pins to the board. DESIGN CHOICE, unsafe (log entry 9). -/
def resetPins : Pins where
  ports := ⟨⟨true, false⟩, ⟨true, false⟩, ⟨true, true⟩⟩
  chans := ⟨⟨false, false, false⟩, ⟨false, false, false⟩⟩
  trip0 := false
  trip1 := false
  arm := true

/-- The part right after the release of reset with the pins `resetPins` (R176): each block at the
values its own chapter gives, and no command waiting. -/
def State.reset : State where
  rst := ⟨false, 0, 0, 0⟩
  ports := .ofFn fun p => PortEngine.reset (resetPins.ports.get p)
  leases := PerResource.all Lease.reset
  leaseClock := .reset
  carrier := .reset
  legs := .ofFn fun _ => LegUnit.reset
  sync := .ofFn fun _ => MarkState.reset
  trip := ⟨.settled resetPins.trip0, .settled resetPins.trip1, .settled resetPins.arm⟩
  chans := .ofFn fun _ => Channel.reset
  outbox := []
  choices := 0
  pending := []

end Sys2Proof.Machine
end

