-- ==== Sys2Proof/Machine/Operands.lean ====
section
/-! DEFINITION. The operand forms of the host commands: each argument field of 10.9 read from its
byte, `none` for a value that the field's encoding does not list (BAD_ARG by R165, check 2). -/

namespace Sys2Proof.Machine

open Sys2Proof

/-- A flag byte: 0 clear, 1 set (10.9, wait flag and at-once flag). -/
def flagOf (b : Byte) : Option Bool :=
  if b = 0 then some false else if b = 1 then some true else none

/-- A lease interval: 1 to 10000 lease ticks (R81, R104). -/
def intervalOf (h : Half) : Option Nat :=
  if 1 ≤ h.toNat ∧ h.toNat ≤ 10000 then some h.toNat else none

/-- A prescale exponent: 0 to 7, giving 1 to 128 (10.9). -/
def prescaleOf (b : Byte) : Option (Fin 8) :=
  if h : b.toNat < 8 then some ⟨b.toNat, h⟩ else none

/-- The samples of a prescale (R26, R128). -/
def prescaleSamples (e : Fin 8) : Nat := 2 ^ e.val

/-- A carrier period: 16 to 65535 (R34). -/
def periodOf (h : Half) : Option Nat := if 16 ≤ h.toNat then some h.toNat else none

/-- A sync limit: 1 to 1023 (R38). -/
def syncLimitOf (h : Half) : Option Nat :=
  if 1 ≤ h.toNat ∧ h.toNat ≤ 1023 then some h.toNat else none

/-- A carrier mode: 0 CENTER, 1 EDGE (10.9). -/
def carrierModeOf (b : Byte) : Option CarrierMode :=
  if b = 0 then some .center else if b = 1 then some .edge else none

/-- A channel mode: 0 to 4 (10.9). -/
def chanModeOf (b : Byte) : Option ChanMode :=
  if b = 0 then some .off else if b = 1 then some .quad else if b = 2 then some .stepDir
  else if b = 3 then some .upDown else if b = 4 then some .capture else none

/-- A filter code: 0–3, giving 0, 4, 8, 16 samples (10.9). -/
def filterWidthOf (b : Byte) : Option FilterWidth :=
  if b = 0 then some .w0 else if b = 1 then some .w4 else if b = 2 then some .w8
  else if b = 3 then some .w16 else none

/-- The samples of a filter width (R128). -/
def FilterWidth.samples : FilterWidth → Nat
  | .w0 => 0
  | .w4 => 4
  | .w8 => 8
  | .w16 => 16

/-- A modulus, sent as modulus − 1: 2 to 65536 (10.9, R144). -/
def modulusOf (h : Half) : Option Nat := if 1 ≤ h.toNat then some (h.toNat + 1) else none

/-- The index and edge byte: bits 1–0 index use, bit 2 edge, unused bits 0 (10.9). -/
def indexEdgeOf (b : Byte) : Option (IndexUse × ActiveEdge) :=
  if b.extractLsb' 3 5 ≠ 0 then none
  else
    let edge := if b.getLsbD 2 then ActiveEdge.falling else .rising
    if b.extractLsb' 0 2 = (0 : BitVec 2) then some (.off, edge)
    else if b.extractLsb' 0 2 = (1 : BitVec 2) then some (.latch, edge)
    else if b.extractLsb' 0 2 = (2 : BitVec 2) then some (.latchAndZero, edge)
    else none

/-- A set of notice classes; a value with bits outside the four is none (R174). -/
def classesOf (b : Byte) : Option Classes :=
  if b.extractLsb' 4 4 = 0 then some ⟨b.getLsbD 0, b.getLsbD 1, b.getLsbD 2, b.getLsbD 3⟩ else none

/-- A set of channel notice kinds; a kind outside the five is none (R155). -/
def kindsOf (b : Byte) : Option Kinds :=
  if b.extractLsb' 5 3 = 0 then
    some ⟨b.getLsbD 0, b.getLsbD 1, b.getLsbD 2, b.getLsbD 3, b.getLsbD 4⟩
  else none

/-- The patterns byte of SET_LEG: bit 0 idle pattern, bit 1 trip pattern, bit 2 TRIP0 response,
unused bits 0 (10.9). -/
def patternsOf (b : Byte) : Option (Pattern × Pattern × Trip0Response) :=
  if b.extractLsb' 3 5 = 0 then
    some (if b.getLsbD 0 then .low else .float, if b.getLsbD 1 then .low else .float,
      if b.getLsbD 2 then .cycle else .latch)
  else none

/-- The configuration that a SET_LEG carries (R24). -/
def legConfigOf (deadTime patterns escalation : Byte) : Option LegConfig :=
  (patternsOf patterns).map fun (idle, trip, response) =>
    ⟨deadTime.toNat, idle, trip, response, escalation.toNat⟩

/-- The configuration that a SET_CHANNEL carries (R144). -/
def chanConfigOf (mode filter : Byte) (modulus : Half) (indexEdge prescale : Byte) :
    Option ChanConfig :=
  (chanModeOf mode).bind fun mode =>
  (filterWidthOf filter).bind fun filter =>
  (modulusOf modulus).bind fun modulus =>
  (indexEdgeOf indexEdge).bind fun (indexUse, edge) =>
  (prescaleOf prescale).map fun prescale => ⟨mode, filter, modulus, indexUse, edge, prescale⟩

end Sys2Proof.Machine
end

