-- ==== Sys2Proof/Machine/Frames.lean ====
section
/-! DEFINITION. The bytes of what the part sends: the codes of results, states and other named
values, the data items of answers, and response and notice frames (10.9, R162, R166, R168). -/

namespace Sys2Proof.Machine

open Sys2Proof

/-! ### Items of an answer (R166) -/

/-- An item of one byte. -/
def item1 (n : Nat) : List Byte := [BitVec.ofNat 8 n]

/-- An item of two bytes, high byte first. -/
def item2 (n : Nat) : List Byte := be16 (BitVec.ofNat 16 n)

/-- Yes, set, on, high and active are 1; no, clear, off, low and inactive are 0. -/
def itemBool (b : Bool) : List Byte := [bitByte b]

/-- An item that may be absent: one byte for its presence, then its full width, 0 when absent. -/
def itemOption (width : Nat) (x : Option (List Byte)) : List Byte :=
  match x with
  | some bytes => 1 :: bytes
  | none => 0 :: List.replicate width 0

/-! ### Codes of named values -/

/-- The result codes of 10.9. -/
def Result.code : Result → Byte
  | .ok => 0x00
  | .queued => 0x01
  | .held => 0x02
  | .alreadyHeld => 0x03
  | .notHolder => 0x04
  | .stale => 0x05
  | .full => 0x06
  | .busy => 0x07
  | .badArg => 0x08
  | .badCondition => 0x09
  | .tripActive => 0x0A
  | .tripped => 0x0B
  | .notPermitted => 0x0C
  | .notWaiting => 0x0D
  | .noActive => 0x0E
  | .unknown => 0x0F

/-- A port that may be absent: 0 absent (10.9). -/
def portCode : Option Port → Nat
  | none => 0
  | some p => p.number

/-- A trip cause: 0 TRIP0, 1 TRIP1, 2 DISARM, 3 ESCALATED (10.9). -/
def Cause.code : Cause → Nat
  | .trip0 => 0
  | .trip1 => 1
  | .disarm => 2
  | .escalated => 3

/-- A set of trip causes, bit n for cause n (10.9). -/
def Causes.mask (c : Causes) : Byte :=
  bitByte c.trip0 ||| bitByte c.trip1 <<< 1 ||| bitByte c.disarm <<< 2
    ||| bitByte c.escalated <<< 3

/-- An end reason (10.9). -/
def EndReason.code : EndReason → Nat
  | .length => 0
  | .condition => 1
  | .successor => 2
  | .cut => 3
  | .lease => 4

/-- A reason of LEASE_LOST: 1 EXPIRED, 2 SEIZED (10.9). -/
def LossReason.code : LossReason → Nat
  | .expired => 1
  | .seized => 2

/-- A channel direction: 0 NONE, 1 UP, 2 DOWN (10.9). -/
def Direction.code : Direction → Nat
  | .none => 0
  | .up => 1
  | .down => 2

/-- A channel mode (10.9). -/
def ChanMode.code : ChanMode → Nat
  | .off => 0
  | .quad => 1
  | .stepDir => 2
  | .upDown => 3
  | .capture => 4

/-- A filter width (10.9). -/
def FilterWidth.code : FilterWidth → Nat
  | .w0 => 0
  | .w4 => 1
  | .w8 => 2
  | .w16 => 3

/-- An index use (10.9). -/
def IndexUse.code : IndexUse → Nat
  | .off => 0
  | .latch => 1
  | .latchAndZero => 2

/-- An active edge (10.9). -/
def ActiveEdge.code : ActiveEdge → Nat
  | .rising => 0
  | .falling => 1

/-- A capture state, by its place in R128. -/
def CaptureState.code : CaptureState → Nat
  | .waitFirst => 0
  | .measuring => 1

/-- A pattern: 0 FLOAT, 1 LOW (10.9). -/
def Pattern.code : Pattern → Nat
  | .float => 0
  | .low => 1

/-- A TRIP0 response: 0 LATCH, 1 CYCLE (10.9). -/
def Trip0Response.code : Trip0Response → Nat
  | .latch => 0
  | .cycle => 1

/-- A role, by its place in R157. -/
def Role.code : Role → Nat
  | .control => 0
  | .supervisor => 1

/-- A lease state, by its place in R73. -/
def LeasePhase.code : LeasePhase → Nat
  | .free => 0
  | .held _ _ _ _ => 1
  | .releasing => 2

/-- A leg state: 0 IDLE, 1 RUNNING, 2 HOLDING, 3 TRIPPED (10.9, R6). -/
def LegPhase.code : LegPhase → Nat
  | .idle => 0
  | .running _ => 1
  | .holding _ => 2
  | .tripped _ => 3

/-- A cut request, by its place in R4. -/
def CutRequest.code : CutRequest → Nat
  | .none => 0
  | .host => 1
  | .lease => 2

/-- A run state, by its place in R26. -/
def RunState.code : RunState → Nat
  | .stopped => 0
  | .running => 1

/-- A carrier mode: 0 CENTER, 1 EDGE (10.9). -/
def CarrierMode.code : CarrierMode → Nat
  | .center => 0
  | .edge => 1

/-- A slope: 0 FALLING, 1 RISING (R26, and bit 1 of snapshot byte 2 in 10.9). -/
def Slope.code : Slope → Nat
  | .falling => 0
  | .rising => 1

/-- A set of notice classes: bit 0 SEGMENT, 1 LEASE, 2 TRIP, 3 SYNC (10.9). -/
def Classes.mask (c : Classes) : Byte :=
  bitByte c.segment ||| bitByte c.lease <<< 1 ||| bitByte c.trip <<< 2 ||| bitByte c.sync <<< 3

/-- A set of channel notice kinds: bit 0 DIRECTION, 1 STALL, 2 INDEX, 3 PHASE_ERROR, 4 CAPTURE. -/
def Kinds.mask (k : Kinds) : Byte :=
  bitByte k.direction ||| bitByte k.stall <<< 1 ||| bitByte k.index <<< 2
    ||| bitByte k.phaseError <<< 3 ||| bitByte k.capture <<< 4

/-! ### Response frames (R166) -/

/-- The bytes of a response frame: LEN, SEQ, CODE, RESULT, data, CRC (10.9). -/
def Response.bytes (r : Response) : List Byte :=
  withCrc (BitVec.ofNat 8 (3 + r.data.length) :: r.seq :: r.code :: r.result.code :: r.data)

/-! ### Notice frames (R168) -/

/-- The code of a notice kind (10.9). -/
def NoticeBody.code : NoticeBody → Byte
  | .segmentStart _ _ => 0x01
  | .segmentEnd _ _ _ => 0x02
  | .underrun _ => 0x03
  | .syncBroken _ _ _ => 0x04
  | .leaseGranted _ _ => 0x05
  | .leaseLost _ _ _ => 0x06
  | .leaseLow _ _ _ => 0x07
  | .tripped _ _ _ => 0x08
  | .rearmed _ _ => 0x09
  | .limitStart _ => 0x0A
  | .direction _ _ => 0x10
  | .stall _ _ => 0x11
  | .index _ _ => 0x12
  | .phaseError _ _ => 0x13
  | .capture _ _ => 0x14
  | .lost _ => 0x1F

/-- The detail bytes of a notice kind, in the order of 10.9. -/
def NoticeBody.detail : NoticeBody → List Byte
  | .segmentStart g n => be16 g ++ item1 n
  | .segmentEnd g r e => be16 g ++ item1 r.code ++ item2 e
  | .underrun g => be16 g
  | .syncBroken m g n => item1 m.number ++ be16 g ++ item1 n
  | .leaseGranted g i => be16 g ++ item2 i
  | .leaseLost r g h => item1 r.code ++ be16 g ++ item1 (portCode h)
  | .leaseLow g r i => be16 g ++ item2 r ++ item2 i
  | .tripped c k n => item1 c.code ++ item1 k ++ item1 n
  | .rearmed c k => item1 c.code ++ item1 k
  | .limitStart l => item1 l
  | .direction d p => item1 d.code ++ item2 p
  | .stall m p => item1 m.code ++ item2 p
  | .index l r => item2 l ++ be16 r
  | .phaseError f p => item1 f ++ item2 p
  | .capture w p => item2 w ++ item2 p
  | .lost n => item1 n

/-- The SUBJECT byte: the leg, the resource code, the channel, or 0 (10.9). -/
def Subject.number : Subject → Nat
  | .leg n => n.number
  | .resource r => r.number
  | .chan c => c.number
  | .none => 0

/-- The bytes of a notice frame: LEN, KIND, SUBJECT, FLAGS, TAG, PERIOD, detail, CRC (10.9). -/
def Notice.bytes (n : Notice) : List Byte :=
  withCrc (BitVec.ofNat 8 (6 + n.body.detail.length) :: n.body.code
    :: BitVec.ofNat 8 n.subject.number :: bitByte n.tag.isSome :: n.tag.getD 0
    :: (be16 n.period ++ n.body.detail))

end Sys2Proof.Machine
end

