-- ==== Sys2Proof/Machine/Flags.lean ====
section
/-! DEFINITION. The flags of the part that are computed: the status bytes of a transaction, the
sticky flags, and the attention output. -/

namespace Sys2Proof.Machine

open Sys2Proof

/-- The level on the pin of a side: as the last sample left it while the side is demanded, and off at once
when it is not (R57, R63). Whatever changes the demand between two samples, a side that was on and is
demanded at the second stays on (R65, R69). -/
def SideState.on (side : SideState) : Bool := side.demand && side.driven

/-- The count of a side: as the last sample left it while the side is demanded, and 0 when it is not
(R62). -/
def SideState.counted (side : SideState) : Nat := if side.demand then side.count else 0

/-- Status byte 1: free command slots in bits 7–4, responses waiting in bits 3–0 (R160, 10.9). -/
def PortEngine.status1 (e : PortEngine) : Byte :=
  BitVec.ofNat 8 (16 * (4 - e.commands.length) + e.responses.length)

/-- Status byte 2: NOTICE, LOST, DROPPED, CRC_FAULT and FRAMING in bits 7 to 3 (R160, 10.9). -/
def PortEngine.status2 (e : PortEngine) : Byte :=
  bitByte (!e.notices.isEmpty) <<< 7 ||| bitByte (decide (0 < e.lost)) <<< 6
    ||| bitByte e.sticky.dropped <<< 5 ||| bitByte e.sticky.crcFault <<< 4
    ||| bitByte e.sticky.framing <<< 3

/-- The sticky flags with those that were shown cleared (R161). -/
def Sticky.clearShown (now shown : Sticky) : Sticky :=
  ⟨now.dropped && !shown.dropped, now.crcFault && !shown.crcFault, now.framing && !shown.framing⟩

/-- The sticky flags after the rise of CSNx: those shown are cleared if slot 1 was completed
(R161). -/
def Transaction.clears (t : Transaction) (slots : Nat) (now : Sticky) : Sticky :=
  if 2 ≤ slots then now.clearShown t.shown else now

/-- The attention output of a port: high while presence is high and the response or the notice queue
is not empty; low during part reset (R170). -/
def State.attention (s : State) (p : Port) : Bool :=
  !s.rst.inReset && (s.port p).presence.level
    && (!(s.port p).responses.isEmpty || !(s.port p).notices.isEmpty)

/-- The gate outputs GHn and GLn: the driven levels, low during part reset (R57, R70, R177). -/
def State.gateHigh (s : State) (n : Leg) : Bool := !s.rst.inReset && (s.leg n).stage.high.on

def State.gateLow (s : State) (n : Leg) : Bool := !s.rst.inReset && (s.leg n).stage.low.on

/-- What the part drives on SDOx in a slot of the transaction in progress: the status bytes in slots
0 and 1, then the frame of a fetch, then 0x00 (R158, R159, R167). `none` is high impedance, as in an ignored
transaction (R158). -/
def State.sdoByte (s : State) (p : Port) (slot : Nat) : Option Byte :=
  if s.rst.inReset ∨ (s.port p).presence.level = false ∨ (s.port p).ignoring = true then none
  else (s.port p).txn.map fun t =>
    if slot = 0 then t.status1
    else if slot = 1 then t.status2
    else match t.fixed with
      | some (.frame bytes) => bytes.getD (slot - 2) 0
      | some .marker | none => 0

end Sys2Proof.Machine
end

