-- ==== Sys2Proof/Machine/Ops.lean ====
section
/-! DEFINITION. The operations that every block shares: changing one block, choosing among orders
that the spec leaves open, filters, and posting notices to ports. -/

namespace Sys2Proof.Machine

open Sys2Proof

/-! ### Changing one block -/

def State.updPort (s : State) (p : Port) (f : PortEngine → PortEngine) : State :=
  s.setPort p (f (s.port p))

def State.updLeg (s : State) (n : Leg) (f : LegUnit → LegUnit) : State := s.setLeg n (f (s.leg n))

def State.updLease (s : State) (r : Resource) (f : Lease → Lease) : State :=
  s.setLease r (f (s.lease r))

def State.updChan (s : State) (c : Chan) (f : Channel → Channel) : State :=
  s.setChan c (f (s.chan c))

/-! ### Filters (R110, R130, R171) -/

/-- Whether a filter of the given width accepts its pin at the next sample: a width of 0 takes every
sample; otherwise the sample is the width-th consecutive one at the new level. -/
def Filter.accepts (width : Nat) (f : Filter) : Bool :=
  f.pin != f.level && decide (width ≤ f.count + 1)

/-- A sample at which the filter accepts nothing: the count restarts at the accepted level and
rises at the other (with width 0 it stays at 0). -/
def Filter.wait (width : Nat) (f : Filter) : Filter :=
  if f.pin = f.level then { f with count := 0 }
  else if f.accepts width then f
  else { f with count := f.count + 1 }

/-! ### Dividers (R27, R87, R139) -/

/-- A divider that starts afresh, or has just given its tick, at the sample in progress: its next tick comes
`n` samples after this one. -/
def Divider.start (n : Nat) : Divider := ⟨n, true⟩

/-- Whether a divider gives a tick at the sample in progress. -/
def Divider.due (d : Divider) : Bool := !d.fresh && decide (d.toTick ≤ 1)

/-- A divider at the end of a sample: it counts the sample, and starts again with `reload` samples where the
tick came at it. -/
def Divider.pass (reload : Nat) (d : Divider) : Divider :=
  if d.fresh then ⟨d.toTick, false⟩
  else if d.toTick ≤ 1 then ⟨reload, false⟩
  else ⟨d.toTick - 1, false⟩

/-- The samples that end before the sample of a divider's next tick. -/
def Divider.left (d : Divider) : Nat := d.toTick - 1 + if d.fresh then 1 else 0

/-! ### Open choices -/

/-- The next open choice among `n` alternatives (log entry 7). -/
def State.choose (s : State) (n : Nat) : Nat := Config.pick s.choices n

/-- The state after one more open choice. -/
def State.chosen (s : State) : State := s.setChoices (s.choices + 1)

/-- A free order of a list: at each place one of the elements left is taken. -/
def shuffle {α : Type} (k : Nat) : (fuel : Nat) → List α → List α
  | 0, _ => []
  | _ + 1, [] => []
  | fuel + 1, x :: xs =>
    let i := Config.pick k (x :: xs).length
    ((x :: xs).getD i x) :: shuffle (k + 1) fuel ((x :: xs).eraseIdx i)

/-! ### Notices (R168) -/

/-- The low 16 bits of the period number of the last boundary taken (R32). -/
def State.periodLow (s : State) : Half := s.carrier.period.setWidth 16

/-- Whether the class mask of a port admits a notice; channel notices and LOST have no class
(R168, 10.9). -/
def Classes.admits (c : Classes) : NoticeBody → Bool
  | .segmentStart _ _ | .segmentEnd _ _ _ | .underrun _ => c.segment
  | .syncBroken _ _ _ => c.sync
  | .leaseGranted _ _ | .leaseLost _ _ _ | .leaseLow _ _ _ => c.lease
  | .tripped _ _ _ | .rearmed _ _ | .limitStart _ => c.trip
  | .direction _ _ | .stall _ _ | .index _ _ | .phaseError _ _ | .capture _ _ | .lost _ => true

/-- A port engine decides on its copy of a notice: presence, class mask, room, in that order
(R168). -/
def PortEngine.receiveCopy (e : PortEngine) (n : Notice) : PortEngine :=
  if e.presence.level = false then e
  else if e.mask.admits n.body = false then e
  else if 16 ≤ e.notices.length then { e with lost := min 255 (e.lost + 1) }
  else { e with notices := e.notices ++ [n] }

/-- Raise a notice to those ports of a list whose presence is high at that moment (R168, R171). The copies
reach the port engines together with all that the same sample, command or event raises (`deliver`). -/
def State.post (s : State) (source : Source) (ports : List Port) (n : Notice) : State :=
  s.setOutbox (s.outbox ++
    (ports.filter fun p => (s.port p).presence.level).map fun p => ⟨source, p, n⟩)

/-- Every source of notices. -/
def Source.all : List Source := Resource.all.map .resource ++ Chan.all.map .chan

/-- The sources of the copies in a list, each once. -/
def sourcesOf (out : List Outgoing) : List Source :=
  Source.all.filter fun r => out.any fun o => o.source == r

/-- Take the first copy of a source out of a list. -/
def takeFrom (r : Source) (out : List Outgoing) : Option (Outgoing × List Outgoing) :=
  match out with
  | [] => none
  | o :: rest =>
    if o.source = r then some (o, rest)
    else (takeFrom r rest).map fun (x, xs) => (x, o :: xs)

/-- The copies that one sample, command or event raises, in the order in which they reach the ports: those
of one source in the order in which they were raised, those of different sources in a free order, copy by
copy (R56, R93, R112, R143, R156; log entries 7 and 17). -/
def interleave (k : Nat) : (fuel : Nat) → List Outgoing → List Outgoing
  | 0, _ => []
  | fuel + 1, out =>
    let sources := sourcesOf out
    match sources[Config.pick k sources.length]? with
    | none => []
    | some r =>
      match takeFrom r out with
      | none => []
      | some (o, rest) => o :: interleave (k + 1) fuel rest

/-- One copy reaches its port. -/
def State.admitCopy (s : State) (o : Outgoing) : State := s.updPort o.port fun e => e.receiveCopy o.notice

/-- The copies on their way reach their ports. -/
def State.deliver (s : State) : State :=
  let copies := interleave s.choices s.outbox.length s.outbox
  copies.foldl State.admitCopy ((s.setOutbox []).setChoices (s.choices + s.outbox.length))

/-! ### Who holds a resource, and who is told -/

/-- The holder of a lease, if it is HELD (R73). -/
def Lease.holder? (l : Lease) : Option Port :=
  match l.phase with
  | .held p _ _ _ => some p
  | .free | .releasing => none

/-- The holder of a resource as a list of addressees: nobody when it is FREE or RELEASING (R12). -/
def State.holderPorts (s : State) (r : Resource) : List Port := (s.lease r).holder?.toList

/-- The holder of a leg and every SUPERVISOR port, each once (R115, R122). -/
def State.tripPorts (s : State) (n : Leg) : List Port :=
  Port.all.filter fun p => (s.lease (.leg n)).holder? == some p || (s.port p).role == .supervisor

end Sys2Proof.Machine
end

