-- ==== Sys2Proof/Machine/Stage.lean ====
section
/-! DEFINITION. The output stage of a leg (chapter 4): the demands of a source, the turning off of
sides, and the dead-time rule at a sample. -/

namespace Sys2Proof

/-- The demanded levels of the high and the low side for a segment or held output: by R60 while the
cycle cut is clear, by R61 while it is set (high off, low as if the reference were off). -/
def Drive.demands (d : Drive) (reference cut : Bool) : Bool × Bool :=
  match d with
  | .modulate _ .both => (reference && !cut, !reference || cut)
  | .modulate _ .highOnly => (reference && !cut, false)
  | .modulate _ .lowOnly => (false, !reference || cut)
  | .fixedHigh => (!cut, false)
  | .fixedLow => (false, true)
  | .float => (false, false)

/-- The reference of a source: on while the counter is below the duty of a MODULATE source, off for
every other (R59). -/
def Drive.reference (d : Drive) (counter : Nat) : Bool :=
  match d with
  | .modulate duty _ => decide (counter < duty.toNat)
  | .fixedHigh | .fixedLow | .float => false

end Sys2Proof

namespace Sys2Proof.Machine

open Sys2Proof

/-- The demanded levels of an idle or trip pattern (R60). -/
def Pattern.demands : Pattern → Bool × Bool
  | .low => (false, true)
  | .float => (false, false)

/-- What an output stage is driving (R58): the drive of the active segment or of the held output, or
a pattern. -/
inductive Output where
  | drive (d : Drive)
  | pattern (p : Pattern)
  deriving DecidableEq, Repr

/-- The output source of a leg follows its state (R58). -/
def LegUnit.output (u : LegUnit) : Output :=
  match u.phase with
  | .idle => .pattern u.config.idlePattern
  | .running a => .drive a.seg.drive
  | .holding (.segment d) => .drive d
  | .holding .idlePattern => .pattern u.config.idlePattern
  | .tripped _ => .pattern u.config.tripPattern

/-- The reference that a leg's source has at a carrier count (R59). -/
def LegUnit.referenceAt (u : LegUnit) (counter : Nat) : Bool :=
  match u.output with
  | .drive d => d.reference counter
  | .pattern _ => false

/-- The demands that a leg's source has at a carrier count (R60, R61). -/
def LegUnit.demandsAt (u : LegUnit) (counter : Nat) : Bool × Bool :=
  match u.output with
  | .drive d => d.demands (d.reference counter) u.stage.cycleCut
  | .pattern p => p.demands

/-- The stage recomputes its reference and demands, and what is no longer demanded is off (R58, R59,
R63). -/
def LegUnit.settle (u : LegUnit) (counter : Nat) : LegUnit :=
  let (high, low) := u.demandsAt counter
  { u with stage :=
      { u.stage with
        reference := u.referenceAt counter
        high := { u.stage.high with demand := high }
        low := { u.stage.low with demand := low } } }

/-- One side at one sample, with the other side's level at that sample (R62). -/
def SideState.sample (side : SideState) (other : Bool) (deadTime : Nat) : SideState :=
  if side.demand = false then ⟨false, false, 0⟩
  else if other then ⟨true, false, 0⟩
  else ⟨true, side.driven || decide (deadTime ≤ side.count), min 255 (side.count + 1)⟩

/-- Both sides of a leg at one sample: what is no longer demanded is off before the other side is
judged (R62, R63). -/
def LegUnit.sample (u : LegUnit) : LegUnit :=
  let high := u.stage.high.sample u.stage.low.on u.config.deadTime
  let low := u.stage.low.sample high.driven u.config.deadTime
  { u with stage := { u.stage with high := high, low := low } }

/-- One of the two sides of a stage (R57). -/
def Stage.side (g : Stage) : Side → SideState
  | .high => g.high
  | .low => g.low

/-- The dead-time rule at every stage: one sample of the four stages (R62). -/
def State.sampleStages (s : State) : State := s.setLegs (.ofFn fun n => (s.leg n).sample)

/-- Change a leg and let its stage follow at once (R58). -/
def State.changeLeg (s : State) (n : Leg) (f : LegUnit → LegUnit) : State :=
  s.updLeg n fun u => (f u).settle s.carrier.counter

/-- Every stage compares against the counter as it stands (R59, R68). -/
def State.settleAll (s : State) : State :=
  s.setLegs (.ofFn fun n => (s.leg n).settle s.carrier.counter)

end Sys2Proof.Machine
end

