-- ==== Sys2Proof/Machine/Leases.lean ====
section
/-! DEFINITION. The Lease Table (chapters 5 and 6): grants, ends of leases, flush-and-cut with the
leg's report, the fencing checks, and what the lease clock does at a tick. -/

namespace Sys2Proof.Machine

open Sys2Proof

/-- The next generation in the cycle 1 to 65535 (R76). -/
def nextGen (g : Half) : Half := if g = 0xFFFF then 1 else g + 1

/-- The record of a grant (R83, R99, R106): HELD by the port with a full interval, the generation
advanced, and the port's own waiter entry removed (R75). -/
def Lease.grant (l : Lease) (p : Port) (interval : Nat) : Lease :=
  ⟨.held p interval interval false, nextGen l.gen, l.waiters.filter fun w => w.port != p⟩

/-- The waiter list without a port. -/
def Lease.dropWaiter (l : Lease) (p : Port) : Lease :=
  { l with waiters := l.waiters.filter fun w => w.port != p }

/-- The notice LEASE_GRANTED for a record just granted (R100). That of a leg keeps its order with the leg's own
notices (R115; log entry 17). -/
def State.postGranted (s : State) (r : Resource) (p : Port) (interval : Nat) : State :=
  s.post (.resource r) [p] ⟨.leaseGranted (s.lease r).gen interval, .resource r, none, s.periodLow⟩

/-- A resource that may be granted passes to its head waiter, or becomes FREE (R98, R99, R103). -/
def State.passOn (s : State) (r : Resource) : State :=
  match (s.lease r).waiters with
  | [] => s.updLease r fun l => { l with phase := .free }
  | w :: ws =>
    (s.updLease r fun l => Lease.grant { l with waiters := ws } w.port w.interval).postGranted r
      w.port w.interval

/-- The leg's report of IDLE or TRIPPED: it ends RELEASING, and has no effect on a HELD or FREE lease
(R21, R98). -/
def State.legReport (s : State) (n : Leg) : State :=
  match (s.lease (.leg n)).phase with
  | .releasing => s.passOn (.leg n)
  | .free | .held _ _ _ _ => s

/-- The Sync Unit removes a leg from the holding-leg set of its mark; no wait count changes (R51,
R53). -/
def State.unhold (s : State) (n : Leg) : State :=
  s.setSync (.ofFn fun m => { s.mark m with holding := (s.mark m).holding.set n false })

/-- Every pending segment of a leg is removed. A HOLDING leg that loses its head leaves the
holding-leg set of its mark (R3, R51). -/
def State.flushQueue (s : State) (n : Leg) : State :=
  let s' := s.updLeg n fun u => { u with queue := [] }
  match (s.leg n).phase, (s.leg n).queue with
  | .holding _, _ :: _ => s'.unhold n
  | _, _ => s'

/-- Raise the cut request of the active segment to LEASE (R4, R20). -/
def LegUnit.cutForLease (u : LegUnit) : LegUnit :=
  match u.phase with
  | .running a => { u with phase := .running { a with cut := .lease } }
  | .idle | .holding _ | .tripped _ => u

/-- Whether a leg is IDLE or TRIPPED. -/
def LegUnit.atRest (u : LegUnit) : Bool :=
  match u.phase with
  | .idle | .tripped _ => true
  | .running _ | .holding _ => false

/-- Flush-and-cut from the Lease Table, with the report that an IDLE or TRIPPED leg makes at once
(R20, R21). -/
def State.flushAndCut (s : State) (n : Leg) : State :=
  let s' := (s.flushQueue n).updLeg n LegUnit.cutForLease
  if (s.leg n).atRest then s'.legReport n else s'

/-- A HELD lease ends by RELEASE, expiry or presence fall (R95): a leg lease is RELEASING and its leg
is flushed and cut; a CARRIER or CHAN lease passes on at the same moment (R103). -/
def State.endLease (s : State) (r : Resource) : State :=
  match r with
  | .leg n => (s.updLease r fun l => { l with phase := .releasing }).flushAndCut n
  | .carrier | .chan _ => s.passOn r

/-- The holder and generation checks of a leased command (R78, R79): the refusal with its data, or
none when both pass. -/
def State.fence (s : State) (r : Resource) (p : Port) (g : Half) : Option (Result × List Byte) :=
  let l := s.lease r
  if l.holder? = some p then
    if g = l.gen then none else some (.stale, be16 l.gen)
  else some (.notHolder, item1 l.phase.code ++ item1 (portCode l.holder?))

/-- The warning threshold of an interval (R89). -/
def warnAt (interval : Nat) : Nat := max 1 (interval / 4)

/-- A HELD lease whose remaining count reached 0 ends, and the former holder is told (R101). -/
def State.expire (s : State) (r : Resource) (p : Port) : State :=
  let s' := s.endLease r
  s'.post (.resource r) [p]
    ⟨.leaseLost .expired (s.lease r).gen (s'.lease r).holder?, .resource r, none, s.periodLow⟩

/-- One lease record at a lease tick: a HELD lease counts down, expires at 0, and warns once at or
below its threshold (R88, R89). -/
def State.leaseCount (s : State) (r : Resource) : State :=
  match (s.lease r).phase with
  | .free | .releasing => s
  | .held p interval remaining warned =>
    if remaining ≤ 1 then s.expire r p
    else if remaining - 1 ≤ warnAt interval ∧ warned = false then
      (s.updLease r fun l => { l with phase := .held p interval (remaining - 1) true }).post (.resource r) [p]
        ⟨.leaseLow (s.lease r).gen (remaining - 1) interval, .resource r, none, s.periodLow⟩
    else s.updLease r fun l => { l with phase := .held p interval (remaining - 1) warned }

/-- The samples between lease ticks (R87). -/
def leaseTickSamples : Nat := 6000

/-- A lease tick: it reaches all seven records at the same moment, and the tick number rises (R87,
R88, R175). -/
def State.leaseTickAll (s : State) : State :=
  Resource.all.foldl State.leaseCount
    (s.setLeaseClock { s.leaseClock with number := s.leaseClock.number + 1 })

end Sys2Proof.Machine
end

