-- ==== Sys2Proof/Machine/Legs.lean ====
section
/-! DEFINITION. The Leg Unit at a period boundary (chapter 1): the end test, the end reason, what
follows an ended segment, and the segment notices. The Sync Unit's answer comes as an argument
(chapter 3). -/

namespace Sys2Proof.Machine

open Sys2Proof

/-- The answer of the Sync Unit to an offer (R45). -/
inductive SyncAnswer where
  | advance | hold | brk
  deriving DecidableEq, Repr

/-- Post a notice about a leg to the holder of its lease as the lease stands (R12). -/
def State.postLeg (s : State) (n : Leg) (body : NoticeBody) (tag : Option Byte) : State :=
  s.post (.resource (.leg n)) (s.holderPorts (.leg n)) ⟨body, .leg n, tag, s.periodLow⟩

/-- The elapsed count rises by one at a boundary, stopping at 4095 (R4, R7). -/
def Active.age (a : Active) : Active := { a with elapsed := min 4095 (a.elapsed + 1) }

/-- The end test with the end reason: the first that applies of LEASE, CUT, CONDITION, LENGTH and
SUCCESSOR; none when the segment stays active (R7, R8). The elapsed count is the one raised by this
boundary. -/
def Active.endReason (a : Active) (pendingCount : Nat) : Option EndReason :=
  match a.cut with
  | .lease => some .lease
  | .host => some .cut
  | .none =>
    if a.latch then some .condition
    else match a.seg.length with
      | some n => if n ≤ a.elapsed then some .length else none
      | none => if a.seg.condition = none ∧ 1 ≤ pendingCount then some .successor else none

/-- Whether a notify field asks for SEGMENT_START (R1). -/
def asksStart : Notify → Bool
  | .start | .both => true
  | .none | .finish => false

/-- Whether a notify field asks for SEGMENT_END (R1). -/
def asksEnd : Notify → Bool
  | .finish | .both => true
  | .none | .start => false

/-- The head of a queue becomes the active segment (R5). -/
def State.activate (s : State) (n : Leg) (head : Segment) (rest : List Segment) : State :=
  let s' := s.changeLeg n fun u =>
    { u with phase := .running ⟨head, 0, false, .none⟩, queue := rest }
  if asksStart head.notify then
    s'.postLeg n (.segmentStart head.gen rest.length) (some head.tag)
  else s'

/-- A leg enters IDLE: the cycle cut and the limit counters are cleared (R117, R118). -/
def LegUnit.toIdle (u : LegUnit) : LegUnit :=
  { u with phase := .idle, limited := false, runCount := 0, stage := { u.stage with cycleCut := false } }

/-- The notice SEGMENT_END of an ended segment, if its notify field asks for it (R8, R12). -/
def State.postEnd (s : State) (n : Leg) (a : Active) (reason : EndReason) : State :=
  if asksEnd a.seg.notify then
    s.postLeg n (.segmentEnd a.seg.gen reason a.elapsed) (some a.seg.tag)
  else s

/-- The held output of a leg that goes HOLDING (R47). -/
def heldAfter : LegPhase → Held
  | .running a => .segment a.seg.drive
  | .holding h => h
  | .idle | .tripped _ => .idlePattern

/-- Whether a leg in this phase reports to the Lease Table on entering IDLE (R21). -/
def reportsIdle : LegPhase → Bool
  | .running _ | .holding _ => true
  | .idle | .tripped _ => false

/-- A leg enters IDLE at a boundary, and reports if it comes from RUNNING or HOLDING (R9, R11,
R21, R49). -/
def State.goIdle (s : State) (n : Leg) : State :=
  let s' := s.changeLeg n LegUnit.toIdle
  if reportsIdle (s.leg n).phase then s'.legReport n else s'

/-- A group breaks: the queue is flushed, the leg goes IDLE, and SYNC_BROKEN is posted with no
UNDERRUN (R49, R56). -/
def State.breakLeg (s : State) (n : Leg) (head : Segment) (f : SyncField) : State :=
  ((s.updLeg n fun u => { u with queue := [] }).postLeg n
    (.syncBroken f.mark head.gen (s.leg n).queue.length) (some head.tag)).goIdle n

/-- What the head of the queue decides for a leg that has no active segment going on: R9 after an
ended segment, R10 from IDLE, R11 from HOLDING. `ended` is the segment that ended here, with its
reason. -/
def State.follow (s : State) (n : Leg) (ended : Option (Active × EndReason))
    (answer : Option SyncAnswer) : State :=
  match (s.leg n).queue with
  | [] =>
    match ended with
    | some (a, reason) =>
      if a.seg.final = true ∨ reason = .lease then s.goIdle n
      else (s.postLeg n (.underrun a.seg.gen) (some a.seg.tag)).goIdle n
    | none => if reportsIdle (s.leg n).phase then s.goIdle n else s
  | head :: rest =>
    match head.sync, answer with
    | none, _ | some _, some .advance => s.activate n head rest
    | some _, some .hold =>
      s.changeLeg n fun u => { u with phase := .holding (heldAfter u.phase) }
    | some f, some .brk => s.breakLeg n head f
    | some _, none => s

/-- A Leg Unit takes a period boundary with the Sync Unit's answer to its offer (R7, R9, R10, R11). A
TRIPPED leg does nothing (R116). -/
def State.takeBoundary (s : State) (n : Leg) (answer : Option SyncAnswer) : State :=
  match (s.leg n).phase with
  | .tripped _ => s
  | .running a =>
    let s' := s.updLeg n fun u => { u with phase := .running a.age }
    match a.age.endReason (s.leg n).queue.length with
    | none => s'
    | some reason => (s'.postEnd n a.age reason).follow n (some (a.age, reason)) answer
  | .idle | .holding _ => s.follow n none answer

end Sys2Proof.Machine
end

