-- ==== Sys2Proof/Machine/Sync.lean ====
section
/-! DEFINITION. The Sync Unit (chapter 3): offers, complete groups, answers, wait counts. -/

namespace Sys2Proof.Machine

open Sys2Proof

/-- The sync field of the head of a leg's queue. -/
def LegUnit.headSync (u : LegUnit) : Option SyncField := u.queue.head?.bind Segment.sync

/-- What a leg offers at a boundary: the sync field of its head if the leg is ready for it (R44,
R45). -/
def LegUnit.offer (u : LegUnit) : Option SyncField :=
  match u.phase with
  | .idle | .holding _ => u.headSync
  | .running a => if (a.age.endReason u.queue.length).isSome then u.headSync else none
  | .tripped _ => none

/-- A group is complete when every leg of its set offers it (R46). -/
def groupComplete (offers : PerLeg (Option SyncField)) (f : SyncField) : Bool :=
  Leg.all.all fun k => !f.legs.get k || offers.get k == some f

/-- The answer of the Sync Unit to one leg's offer (R46, R47): ADVANCE in a complete group, else HOLD
while the wait count of the mark is below the sync limit, else BREAK. -/
def State.syncAnswer (s : State) (offers : PerLeg (Option SyncField)) (n : Leg) :
    Option SyncAnswer :=
  (offers.get n).map fun f =>
    if groupComplete offers f then .advance
    else if (s.mark f.mark).wait < s.carrier.syncLimit then .hold
    else .brk

/-- The legs whose offers on a mark are incomplete at a boundary (R47). -/
def incompleteLegs (offers : PerLeg (Option SyncField)) (m : Mark) : PerLeg Bool :=
  .ofFn fun n => match offers.get n with
    | some f => f.mark == m && !groupComplete offers f
    | none => false

/-- What becomes of a mark at a boundary (R48). -/
def MarkState.atBoundary (t : MarkState) (incomplete : PerLeg Bool) (limit : Nat) : MarkState :=
  if legCount incomplete = 0 then .reset
  else if t.wait < limit then ⟨t.wait + 1, incomplete⟩
  else .reset

/-- The Sync Unit's own state after a boundary (R48). -/
def State.syncBoundary (s : State) (offers : PerLeg (Option SyncField)) : State :=
  s.setSync (.ofFn fun m =>
    (s.mark m).atBoundary (incompleteLegs offers m) s.carrier.syncLimit)

/-- Whether a boundary would break mark `m`: an incomplete offer on it and its wait count at or above
the sync limit (R47, R49). The offers are those before any escalation. R120 lets an escalation of the same
boundary be taken first, which can take an offer away and so make a group incomplete or an incomplete offer
disappear; where only that order breaks the mark, the row SYNC_BREAK changes nothing, and where only the
other order does, it runs the boundary in whichever order that takes. DESIGN CHOICE (log entry 5). -/
def State.breaksAt (s : State) (m : Mark) : Bool :=
  let offers : PerLeg (Option SyncField) := .ofFn fun n => (s.leg n).offer
  decide (legCount (incompleteLegs offers m) ≠ 0) && decide (s.carrier.syncLimit ≤ (s.mark m).wait)

end Sys2Proof.Machine
end

