-- ==== Sys2Proof/Machine/Trips.lean ====
section
/-! DEFINITION. The Trip Unit (chapter 7): latched trips and further causes, cycle cutting and the
limit counters, escalation, and rearm. -/

namespace Sys2Proof.Machine

open Sys2Proof

/-- A cause joins a set of causes (R114). -/
def Causes.add (c : Causes) : Cause → Causes
  | .trip0 => { c with trip0 := true }
  | .trip1 => { c with trip1 := true }
  | .disarm => { c with disarm := true }
  | .escalated => { c with escalated := true }

/-- The tag of the active segment, absent in every state but RUNNING (R113, R119). -/
def LegPhase.activeTag : LegPhase → Option Byte
  | .running a => some a.seg.tag
  | .idle | .holding _ | .tripped _ => none

/-- A counter that stops at 255 rises by one (R113, R118). -/
def count255 (n : Nat) : Nat := min 255 (n + 1)

/-- A leg in IDLE, RUNNING or HOLDING trips (R112, R113, R115). -/
def State.latchTrip (s : State) (n : Leg) (c : Cause) : State :=
  let u := s.leg n
  let s1 := match u.phase with
    | .holding _ => s.unhold n
    | .idle | .running _ | .tripped _ => s
  let s2 := s1.changeLeg n fun u =>
    { u with
      phase := .tripped ⟨c, s.carrier.period, u.phase.activeTag, .empty, false⟩
      queue := []
      tripCount := count255 u.tripCount
      limited := false
      stage := { u.stage with cycleCut := false } }
  let s3 := s2.legReport n
  s3.post (.resource (.leg n)) (s3.tripPorts n)
    ⟨.tripped c (count255 u.tripCount) u.queue.length, .leg n, u.phase.activeTag, s.periodLow⟩

/-- A trip cause arises for a leg (R111): it latches a trip, or joins the further causes of a TRIPPED
leg and cancels a pending rearm (R112, R114, R123). -/
def State.causeArises (s : State) (n : Leg) (c : Cause) : State :=
  match (s.leg n).phase with
  | .tripped r =>
    s.updLeg n fun u => { u with phase := .tripped { r with further := r.further.add c, rearm := false } }
  | .idle | .running _ | .holding _ => s.latchTrip n c

/-- The notice LIMIT_START (R119). -/
def State.postLimitStart (s : State) (n : Leg) : State :=
  s.postLeg n (.limitStart (s.leg n).config.escalation) (s.leg n).phase.activeTag

/-- The cycle cut of a RUNNING or HOLDING leg is set, with its limited mark, and LIMIT_START is posted
when this is the first limited period of a run (R117, R118, R119). -/
def State.setCut (s : State) (n : Leg) : State :=
  let s' := s.changeLeg n fun u =>
    { u with limited := true, stage := { u.stage with cycleCut := true } }
  if (s.leg n).limited = false ∧ (s.leg n).runCount = 0 then s'.postLimitStart n else s'

/-- What TRIP0 accepted active does to one leg (R111, R117). -/
def State.trip0Reaches (s : State) (n : Leg) : State :=
  let u := s.leg n
  match u.phase, u.config.response with
  | .tripped r, .cycle => if r.first = .escalated then s.causeArises n .trip0 else s
  | .tripped _, .latch => s.causeArises n .trip0
  | .idle, .latch | .running _, .latch | .holding _, .latch => s.causeArises n .trip0
  | .running _, .cycle | .holding _, .cycle => s.setCut n
  | .idle, .cycle => s

/-- The blocking causes of a REARM accepted active now (R121): TRIP1 active; ARM low; TRIP0 active
with the response LATCH, or with the first cause ESCALATED. -/
def State.blocking (s : State) (n : Leg) : Causes :=
  let escalated := match (s.leg n).phase with
    | .tripped r => decide (r.first = .escalated)
    | .idle | .running _ | .holding _ => false
  { trip0 := s.trip.trip0.level && (decide ((s.leg n).config.response = .latch) || escalated)
    trip1 := s.trip.trip1.level
    disarm := !s.trip.arm.level
    escalated := false }

/-- A rearm completes: the leg is IDLE with its record cleared, and REARMED is posted (R122, R124). -/
def State.completeRearm (s : State) (n : Leg) : State :=
  match (s.leg n).phase with
  | .tripped r =>
    (s.changeLeg n LegUnit.toIdle).post (.resource (.leg n)) (s.tripPorts n)
      ⟨.rearmed r.first (s.leg n).tripCount, .leg n, none, s.periodLow⟩
  | .idle | .running _ | .holding _ => s

/-- Whether a rearm is pending on a leg (R121). -/
def LegPhase.rearmPending : LegPhase → Bool
  | .tripped r => r.rearm
  | .idle | .running _ | .holding _ => false

/-- A pending rearm completes, if there is one (R122, R124). -/
def State.completeIfPending (s : State) (n : Leg) : State :=
  if (s.leg n).phase.rearmPending then s.completeRearm n else s

/-- Whether a leg is RUNNING or HOLDING. -/
def LegPhase.driving : LegPhase → Bool
  | .running _ | .holding _ => true
  | .idle | .tripped _ => false

/-- The run count that closing the period in progress gives (R118). -/
def LegUnit.closedRun (u : LegUnit) : Nat := if u.limited then count255 u.runCount else 0

/-- Whether closing the period in progress brings the run count to the escalation limit (R120). -/
def LegUnit.escalates (u : LegUnit) : Bool :=
  u.phase.driving && u.limited && u.config.escalation != 0
    && decide (u.config.escalation ≤ u.closedRun)

/-- A leg escalates: its run count is kept and it trips (R120). -/
def State.escalate (s : State) (n : Leg) (run : Nat) : State :=
  (s.updLeg n fun u => { u with runCount := run }).causeArises n .escalated

/-- The Trip Unit closes a leg's period at a boundary that the Leg Unit has taken (R117, R118, R120,
R122). `before` is the leg as the boundary found it: its limited mark and run count are those of the
period that ends; a leg that enters RUNNING or HOLDING from IDLE while TRIP0 is active starts the new
period cut, if its response is CYCLE. Its LIMIT_START (R119) is raised after the SEGMENT_START that the leg has
raised at the same boundary, for which the spec gives no order (DESIGN CHOICE, log entry 17). -/
def State.closePeriod (s : State) (n : Leg) (before : LegUnit) : State :=
  let u := s.leg n
  match u.phase with
  | .tripped _ => s.completeIfPending n
  | .idle => s.changeLeg n LegUnit.toIdle
  | .running _ | .holding _ =>
    if before.escalates then s.escalate n before.closedRun
    else
      let entering := decide (before.phase = .idle) && decide (u.config.response = .cycle)
      let cut := s.trip.trip0.level && (u.stage.cycleCut || entering)
      let s' := s.changeLeg n fun u =>
        { u with limited := cut, runCount := before.closedRun,
                 stage := { u.stage with cycleCut := cut } }
      if cut = true ∧ before.limited = false ∧ before.closedRun = 0 then s'.postLimitStart n else s'

end Sys2Proof.Machine
end

