-- ==== Sys2Proof/Machine/Boundary.lean ====
section
/-! DEFINITION. The Carrier Timer's count (chapter 2) and the period boundary, which the Carrier
Timer, the four Leg Units, the Sync Unit and the Trip Unit all take (R31). -/

namespace Sys2Proof.Machine

open Sys2Proof

/-- Whether the next tick ends the period or lead-in: EDGE after the counter has held P (R28), CENTER
when the rising counter takes P (R29). -/
def Carrier.boundaryDue (t : Carrier) : Bool :=
  match t.mode, t.slope with
  | .edge, _ => decide (t.active ≤ t.counter)
  | .center, .rising => decide (t.active ≤ t.counter + 1)
  | .center, .falling => false

/-- A tick that is no boundary (R28, R29, R30). A CENTER lead-in holds 0 for P + 1 ticks before it
rises. -/
def Carrier.count (t : Carrier) : Carrier :=
  match t.mode, t.slope with
  | .edge, _ | .center, .rising => { t with counter := t.counter + 1 }
  | .center, .falling =>
    if t.counter ≠ 0 then { t with counter := t.counter - 1 }
    else if t.leadIn = true ∧ t.dwell < t.active then { t with dwell := t.dwell + 1 }
    else { t with counter := 1, slope := .rising }

/-- The ticks that come before the one that is the next boundary (R28, R29, R30). -/
def Carrier.ticksLeft (t : Carrier) : Nat :=
  match t.mode, t.slope with
  | .edge, _ => t.active - t.counter
  | .center, .rising => t.active - (t.counter + 1)
  | .center, .falling => t.counter + (if t.leadIn then t.active - t.dwell else 0) + 1 + (t.active - 2)

/-- The samples that end before the sample of the next boundary (R27). -/
def Carrier.toBoundary (t : Carrier) : Nat :=
  t.divider.left + t.ticksLeft * prescaleSamples t.prescale

/-- The Carrier Timer's own work at a boundary (R31, R32). -/
def Carrier.boundary (t : Carrier) : Carrier :=
  { t with
    active := t.preload
    counter := match t.mode with | .edge => 0 | .center => t.preload
    slope := match t.mode with | .edge => .rising | .center => .falling
    leadIn := false
    dwell := 0
    period := t.period + 1 }

/-- The Carrier Timer at the count's start: counter 0, the slope of the mode, the divider afresh, and
a lead-in if the carrier runs (R30, R35, R36). -/
def Carrier.restart (t : Carrier) : Carrier :=
  { t with
    divider := .start (prescaleSamples t.prescale)
    counter := 0
    slope := match t.mode with | .edge => .rising | .center => .falling
    leadIn := decide (t.run = .running)
    dwell := 0 }

/-- Which legs' escalations are taken before the Leg Unit takes the boundary. Either order is allowed
(R120): a free choice for each leg that escalates (log entry 7). -/
def State.escalateFirst (s : State) (n : Leg) : Bool :=
  (s.leg n).escalates && Config.pick (s.choices + n.number) 2 == 1

/-- The escalations that `first` names, taken before the legs take the boundary (R120). -/
def State.escalateEarly (s : State) (first : PerLeg Bool) : State :=
  Leg.all.foldl
    (fun s n => if first.get n then s.escalate n (s.leg n).closedRun else s) s

/-- The four Leg Units take a boundary with the Sync Unit's answers (R45). -/
def State.legsTake (s : State) (answers : PerLeg (Option SyncAnswer)) : State :=
  Leg.all.foldl (fun s n => s.takeBoundary n (answers.get n)) s

/-- The Trip Unit takes a boundary (R118, R122). -/
def State.tripUnitTakes (s : State) (before : PerLeg LegUnit) : State :=
  Leg.all.foldl (fun s n => s.closePeriod n (before.get n)) s

/-- A period boundary, with the legs whose escalation is taken first (R31). -/
def State.boundaryWith (s : State) (first : PerLeg Bool) : State :=
  let s1 := (s.setCarrier s.carrier.boundary).escalateEarly first
  let offers : PerLeg (Option SyncField) := .ofFn fun n => (s1.leg n).offer
  let s2 := s1.legsTake (.ofFn fun n => s1.syncAnswer offers n)
  ((s2.syncBoundary offers).tripUnitTakes s.legs).settleAll

/-- A period boundary (R31), with a free order between escalations and the legs. -/
def State.boundary (s : State) : State :=
  (s.setChoices (s.choices + 4)).boundaryWith (.ofFn s.escalateFirst)

/-- One tick of the carrier counter while RUNNING: the boundary when the period or lead-in ends here,
and the next count otherwise, against which every stage compares again (R27, R28, R29, R59). -/
def State.carrierTicks (s : State) : State :=
  match s.carrier.run with
  | .stopped => s
  | .running =>
    if s.carrier.boundaryDue then s.boundary
    else (s.setCarrier s.carrier.count).settleAll

end Sys2Proof.Machine
end

