-- ==== Sys2Proof/Machine/Channels.lean ====
section
/-! DEFINITION. The Position Channels (chapters 8 and 9): counted steps and conditions, index and
capture edges, the interval timer, and channel notices. -/

namespace Sys2Proof.Machine

open Sys2Proof

/-- The phase that the accepted levels of X and Y give (R132). -/
def phaseOf (x y : Bool) : Nat :=
  match x, y with
  | false, false => 0
  | true, false => 1
  | true, true => 2
  | false, true => 3

/-- QUAD, STEP_DIR and UP_DOWN are the counting modes (R128). -/
def ChanMode.counting : ChanMode → Bool
  | .quad | .stepDir | .upDown => true
  | .off | .capture => false

/-- Whether a subscription includes a channel notice (R143, R154). -/
def Kinds.include (k : Kinds) : NoticeBody → Bool
  | .direction _ _ => k.direction
  | .stall _ _ => k.stall
  | .index _ _ => k.index
  | .phaseError _ _ => k.phaseError
  | .capture _ _ => k.capture
  | .segmentStart _ _ | .segmentEnd _ _ _ | .underrun _ | .syncBroken _ _ _ | .leaseGranted _ _
  | .leaseLost _ _ _ | .leaseLow _ _ _ | .tripped _ _ _ | .rearmed _ _ | .limitStart _
  | .lost _ => false

/-- A channel raises a notice to the ports that subscribe to its kind, as a source of its own, which keeps no
order with the lease notices of the same channel (R143, R156). -/
def State.postChan (s : State) (c : Chan) (body : NoticeBody) : State :=
  s.post (.chan c) (Port.all.filter fun p => ((s.chan c).subscribers.get p).include body)
    ⟨body, .chan c, none, s.periodLow⟩

/-! ### Counted steps -/

/-- Position and revolutions after a counted step (R136). -/
def Channel.step (ch : Channel) (up : Bool) : Nat × Half :=
  if up then
    if ch.position + 1 < ch.config.modulus then (ch.position + 1, ch.revolutions)
    else (0, ch.revolutions + 1)
  else
    if 0 < ch.position then (ch.position - 1, ch.revolutions)
    else (ch.config.modulus - 1, ch.revolutions - 1)

/-- The sign of a step as a direction (R137). -/
def stepDirection (up : Bool) : Direction := if up then .up else .down

/-- A channel after a counted step: position, revolutions and direction (R136, R137); the interval
latch takes the timer, which restarts, and the stall is cleared (R139, R140). -/
def Channel.counted (ch : Channel) (up : Bool) : Channel :=
  { ch with
    position := (ch.step up).1
    revolutions := (ch.step up).2
    direction := stepDirection up
    intervalLatch := ch.timer
    timer := 0
    stall := false }

/-- Whether the sign of a step matches the direction of a condition (R148). -/
def CondDir.matches : CondDir → Bool → Bool
  | .up, up => up
  | .down, up => !up
  | .either, _ => true

/-- Whether a step of channel `c` to `position` meets a condition (R148). -/
def condMet (cond : Condition) (c : Chan) (position : Nat) (up : Bool) : Bool :=
  decide (cond.chan = c) && decide (cond.target.toNat = position) && CondDir.matches cond.dir up

/-- A Leg Unit examines its active segment at a counted step (R148). -/
def LegUnit.examine (u : LegUnit) (c : Chan) (position : Nat) (up : Bool) : LegUnit :=
  match u.phase with
  | .running a =>
    match a.seg.condition with
    | some cond =>
      if condMet cond c position up then { u with phase := .running { a with latch := true } } else u
    | none => u
  | .idle | .holding _ | .tripped _ => u

/-- A counted step of a channel, handed to the four Leg Units, with its DIRECTION notice (R136, R137,
R148). -/
def State.countStep (s : State) (c : Chan) (up : Bool) : State :=
  let ch := s.chan c
  let s' := (s.setChan c (ch.counted up)).setLegs
    (.ofFn fun n => (s.leg n).examine c (ch.step up).1 up)
  if ch.direction = stepDirection up then s'
  else s'.postChan c (.direction (stepDirection up) (ch.step up).1)

/-! ### What a change of accepted levels does -/

/-- Whether a change of one level is the channel's active edge (R134, R135, R141). -/
def activeEdge (edge : ActiveEdge) (old new : Bool) : Bool :=
  match edge with
  | .rising => !old && new
  | .falling => old && !new

/-- What the newly accepted levels of X and Y do in a counting mode. -/
inductive CountEvent where
  | none
  | step (up : Bool)
  | phaseError
  deriving DecidableEq, Repr

/-- What a change of X and Y counts (R132, R133, R134, R135). -/
def Channel.countEvent (ch : Channel) (x y : Bool) : CountEvent :=
  match ch.config.mode with
  | .quad =>
    if ch.x.level = x ∧ ch.y.level = y then .none
    else if ch.x.level ≠ x ∧ ch.y.level ≠ y then .phaseError
    else .step (decide (phaseOf x y = (phaseOf ch.x.level ch.y.level + 1) % 4))
  | .stepDir => if activeEdge ch.config.edge ch.x.level x then .step (!ch.y.level) else .none
  | .upDown =>
    match activeEdge ch.config.edge ch.x.level x, activeEdge ch.config.edge ch.y.level y with
    | true, false => .step true
    | false, true => .step false
    | true, true | false, false => .none
  | .off | .capture => .none

/-- Whether a change of Z is an index edge (R138). -/
def Channel.indexEvent (ch : Channel) (z : Bool) : Bool :=
  ch.config.mode.counting && decide (ch.config.indexUse ≠ .off) && !ch.z.level && z

/-- Whether a change of X is an edge that CAPTURE looks at (R141). -/
def Channel.captureEvent (ch : Channel) (x : Bool) : Bool :=
  decide (ch.config.mode = .capture) && (ch.x.level != x)

/-- The channel with newly accepted levels, and the phase that follows them (R130, R132). A filter
that accepted a change has its count at 0. -/
def Channel.withLevels (ch : Channel) (x y z : Bool) : Channel :=
  { ch with
    x := if ch.x.level = x then ch.x else .settled x
    y := if ch.y.level = y then ch.y else .settled y
    z := if ch.z.level = z then ch.z else .settled z
    phase := phaseOf x y }

/-- An index edge (R138). -/
def State.indexEdge (s : State) (c : Chan) : State :=
  let ch := s.chan c
  (s.setChan c { ch with
    indexLatch := ch.position
    position := if ch.config.indexUse = .latchAndZero then 0 else ch.position }).postChan c
    (.index ch.position ch.revolutions)

/-- An edge of X in CAPTURE (R141). `x` is its new level. -/
def State.captureEdge (s : State) (c : Chan) (x : Bool) : State :=
  let ch := s.chan c
  match ch.capture, activeEdge ch.config.edge (!x) x with
  | .waitFirst, true =>
    s.setChan c { ch with timer := 0, stall := false, widthTaken := false, capture := .measuring }
  | .waitFirst, false => s
  | .measuring, false => s.setChan c { ch with widthLatch := ch.timer, widthTaken := true }
  | .measuring, true =>
    (s.setChan c { ch with periodLatch := ch.timer, timer := 0, widthTaken := false }).postChan c
      (.capture ch.widthLatch ch.timer)

/-- A channel takes the levels accepted at one sample: the step, phase error or capture edge first,
then the index edge (R132 to R138, R141). -/
def State.acceptLevels (s : State) (c : Chan) (x y z : Bool) : State :=
  let ch := s.chan c
  let s1 := s.setChan c (ch.withLevels x y z)
  let s2 := match ch.countEvent x y with
    | .none => s1
    | .step up => s1.countStep c up
    | .phaseError => s1.postChan c (.phaseError (phaseOf x y) ch.position)
  let s3 := if ch.captureEvent x then s2.captureEdge c x else s2
  if ch.indexEvent z then s3.indexEdge c else s3

/-! ### The interval timer (R139, R140, R142) -/

/-- The largest count of the interval timer. -/
def timerMax : Nat := 65535

/-- Whether interval ticks raise the timer (R139). -/
def Channel.timerRuns (ch : Channel) : Bool :=
  ch.config.mode.counting || (decide (ch.config.mode = .capture) && decide (ch.capture = .measuring))

/-- The interval timer after a tick (R139). -/
def Channel.raised (ch : Channel) : Channel :=
  if ch.timerRuns ∧ ch.timer < timerMax then { ch with timer := ch.timer + 1 } else ch

/-- The timer of a channel in a counting mode saturates (R140). -/
def State.stallChan (s : State) (c : Chan) : State :=
  let ch := s.chan c
  (s.setChan c { ch with timer := timerMax, stall := true, intervalLatch := timerMax }).postChan c
    (.stall ch.config.mode ch.position)

/-- The timer saturates while MEASURING in CAPTURE (R142). Width taken reads no in WAIT_FIRST, as the
table of 8.10 shows (DEDUCED, log entry 22). -/
def State.saturateCapture (s : State) (c : Chan) : State :=
  let ch := s.chan c
  (s.setChan c { ch with
    periodLatch := timerMax
    widthLatch := if ch.widthTaken then ch.widthLatch else timerMax
    widthTaken := false
    stall := true
    timer := 0
    capture := .waitFirst }).postChan c (.stall .capture 0)

/-- The saturation that a tick has just brought about, if any (R140, R142). `before` is the timer
before the tick. -/
def State.saturate (s : State) (c : Chan) (before : Nat) : State :=
  let ch := s.chan c
  if ch.timerRuns = true ∧ before < timerMax ∧ ch.timer = timerMax then
    if ch.config.mode.counting then s.stallChan c else s.saturateCapture c
  else s

/-- An interval tick with no input change at its sample (R139, R140, R142). -/
def State.intervalTicks (s : State) (c : Chan) : State :=
  let ch := s.chan c
  (s.setChan c ch.raised).saturate c ch.timer

/-- An interval tick and newly accepted levels at one sample: the tick comes first, with the saturation it
brings about (R139 to R142). A counted step at that sample takes the place of a saturation in a counting
mode (R139, R140); an edge in CAPTURE does not (R142), and finds WAIT_FIRST. That a phase error or an index
edge comes after the saturation is DEDUCED (log entry 16). -/
def State.tickAndAccept (s : State) (c : Chan) (x y z : Bool) : State :=
  let ch := s.chan c
  let s1 := s.setChan c ch.raised
  match ch.countEvent x y with
  | .step _ => s1.acceptLevels c x y z
  | .none | .phaseError => (s1.saturate c ch.timer).acceptLevels c x y z

/-- A channel takes the levels accepted at one sample, after the interval tick if one comes at it. -/
def State.chanTakes (s : State) (c : Chan) (tick : Bool) (x y z : Bool) : State :=
  if tick then s.tickAndAccept c x y z else s.acceptLevels c x y z

/-- The interval divider of a channel, whose tick is given before the end of its sample. -/
def State.tickGiven (s : State) (c : Chan) : State :=
  s.updChan c fun ch => { ch with divider := .start (prescaleSamples ch.config.prescale) }

end Sys2Proof.Machine
end

