-- ==== Sys2Proof/Machine/Ports.lean ====
section
/-! DEFINITION. The port engine's handling of a command (chapter 10): the answer that a block gives,
the response it becomes, and a host command on its way into the command queue. -/

namespace Sys2Proof.Machine

open Sys2Proof

/-- What the owning block answers to a command: the state it leaves, the result and the data of the
answer (R164, R166). -/
structure Answer where
  state  : State
  result : Result
  data   : List Byte

/-- A command that fails a check changes nothing (R165). -/
def State.refuse (s : State) (result : Result) (data : List Byte) : Answer := ⟨s, result, data⟩

/-- The response of a command is appended to the response queue of its port, after the notices of
the command have been offered to the ports (R164, R168). -/
def respond (p : Port) (f : Frame) (a : Answer) : State :=
  a.state.deliver.updPort p fun e =>
    { e with responses := e.responses ++ [⟨f.seq, f.code, a.result, a.data⟩] }

/-- Whether a port takes transactions: the part is out of reset and the port's presence is high
(R171, R176). -/
def State.portLive (s : State) (p : Port) : Bool :=
  !s.rst.inReset && (s.port p).presence.level

/-- Whether the engine takes a command that joins its queue at once: nothing waits in front of it and
the response queue has room (R164). -/
def PortEngine.takesAtOnce (e : PortEngine) : Bool :=
  e.commands.isEmpty && decide (e.responses.length < 4)

/-- A checked frame joins the tail of the command queue, or is dropped with DROPPED when the queue
holds 4 (R163, check 3). -/
def PortEngine.enqueue (e : PortEngine) (f : Frame) : PortEngine :=
  if 4 ≤ e.commands.length then { e with sticky := { e.sticky with dropped := true } }
  else { e with commands := e.commands ++ [f] }

/-- A host command of the opcode table reaches its port as a frame that passed the frame check. The
engine takes it at once, or the frame waits, or is dropped for want of room (R163, R164). At a port
that takes no transactions it is ignored (R171, R176). `effect` is what the owning block does
(log entry 3). -/
def State.submit (s : State) (i : Instr) (effect : State → Answer) : State :=
  match encodeFrame i with
  | none => s
  | some (p, f) =>
    if s.portLive p then
      if (s.port p).takesAtOnce then respond p f (effect s) else s.updPort p fun e => e.enqueue f
    else s

/-- An event of the part: nothing happens while the part is in reset (R176). -/
def State.event (s : State) (effect : State → State) : State := if s.rst.inReset then s else effect s

end Sys2Proof.Machine
end

