-- ==== Sys2Proof/Machine/InputEvents.lean ====
section
/-! DEFINITION. The accepted changes of the trip inputs: TRIP0_ACTIVE to ARM_HIGH (R110, R111, R117). An accepted
change to the level that is already accepted cannot arise, and changes nothing (log entry 6). -/

namespace Sys2Proof.Machine

open Sys2Proof

/-- TRIP0 accepted active reaches every leg (R111, R117). -/
def State.trip0Rises (s : State) : State :=
  Leg.all.foldl State.trip0Reaches (s.setTrip { s.trip with trip0 := .settled true })

/-- TRIP0 accepted inactive raises no cause; the next boundary ends cycle cutting (R111, R117). -/
def State.trip0Falls (s : State) : State := s.setTrip { s.trip with trip0 := .settled false }

/-- TRIP1 accepted active is a cause on all four legs (R111). -/
def State.trip1Rises (s : State) : State :=
  Leg.all.foldl (fun s n => s.causeArises n .trip1) (s.setTrip { s.trip with trip1 := .settled true })

/-- TRIP1 accepted inactive raises no cause (R111). -/
def State.trip1Falls (s : State) : State := s.setTrip { s.trip with trip1 := .settled false }

/-- ARM accepted low is a cause on all four legs (R111). -/
def State.armFalls (s : State) : State :=
  Leg.all.foldl (fun s n => s.causeArises n .disarm) (s.setTrip { s.trip with arm := .settled false })

/-- ARM accepted high raises no cause (R111). -/
def State.armRises (s : State) : State := s.setTrip { s.trip with arm := .settled true }

/-- TRIP0_ACTIVE (R111). -/
def execTrip0Active (s : State) : Host.Outcome State Fault Refusal :=
  .next (s.event fun s => if s.trip.trip0.level then s else s.trip0Rises.deliver)

/-- TRIP0_INACTIVE (R117). -/
def execTrip0Inactive (s : State) : Host.Outcome State Fault Refusal :=
  .next (s.event fun s => if s.trip.trip0.level then s.trip0Falls else s)

/-- TRIP1_ACTIVE (R111). -/
def execTrip1Active (s : State) : Host.Outcome State Fault Refusal :=
  .next (s.event fun s => if s.trip.trip1.level then s else s.trip1Rises.deliver)

/-- TRIP1_INACTIVE (R111). -/
def execTrip1Inactive (s : State) : Host.Outcome State Fault Refusal :=
  .next (s.event fun s => if s.trip.trip1.level then s.trip1Falls else s)

/-- DISARM (R111). -/
def execDisarm (s : State) : Host.Outcome State Fault Refusal :=
  .next (s.event fun s => if s.trip.arm.level then s.armFalls.deliver else s)

/-- ARM_HIGH (R111). -/
def execArmHigh (s : State) : Host.Outcome State Fault Refusal :=
  .next (s.event fun s => if s.trip.arm.level then s else s.armRises)

end Sys2Proof.Machine
end

