-- ==== Sys2Proof/Machine/Resets.lean ====
section
/-! DEFINITION. Presence of the hosts and part reset (R102, R127, R129, R154, R171, R176):
PRESENCE_FALL, PRESENCE_RISE, RESET_ASSERT and RESET_RELEASE. -/

namespace Sys2Proof.Machine

open Sys2Proof

/-! ### Presence -/

/-- Whether CSNx of a port is low, in a transaction in progress or in one that is ignored. -/
def PortEngine.chipLow (e : PortEngine) : Bool := e.txn.isSome || e.ignoring

/-- The port engine at a presence fall: the accepted level is low, the transaction is abandoned and ignored
from then on to its end (R158), the queues are empty, and the counts, flags and mask are at their reset
values (R171). -/
def PortEngine.fall (e : PortEngine) : PortEngine :=
  { e with
    presence := .settled false
    commands := []
    responses := []
    notices := []
    lost := 0
    sticky := .clear
    mask := .all
    txn := none
    ignoring := e.chipLow }

/-- Each waiter entry of a port is removed, on every resource (R102). -/
def State.dropWaiters (s : State) (p : Port) : State :=
  Resource.all.foldl (fun s r => s.updLease r fun l => l.dropWaiter p) s

/-- A lease that the port holds ends as by a RELEASE (R102). -/
def State.endIfHeld (s : State) (p : Port) (r : Resource) : State :=
  if (s.lease r).holder? = some p then s.endLease r else s

/-- The port's subscriptions on both channels are emptied (R154). -/
def State.unsubscribe (s : State) (p : Port) : State :=
  s.setChans (.ofFn fun c =>
    { s.chan c with subscribers := (s.chan c).subscribers.set p .empty })

/-- A presence fall reaches the port engine, the Lease Table and both channels (R102, R154, R171). -/
def State.presenceFalls (s : State) (p : Port) : State :=
  Resource.all.foldl (fun s r => s.endIfHeld p r)
    (((s.updPort p PortEngine.fall).unsubscribe p).dropWaiters p)

/-- A presence rise changes nothing but the accepted level (R171). -/
def State.presenceRises (s : State) (p : Port) : State :=
  s.updPort p fun e => { e with presence := .settled true }

/-- PRESENCE_FALL (R171). A fall from an accepted low level cannot arise (log entry 6). -/
def execPresenceFall (p : Port) (s : State) : Host.Outcome State Fault Refusal :=
  .next (s.event fun s => if (s.port p).presence.level then (s.presenceFalls p).deliver else s)

/-- PRESENCE_RISE (R171). -/
def execPresenceRise (p : Port) (s : State) : Host.Outcome State Fault Refusal :=
  .next (s.event fun s => if (s.port p).presence.level then s else s.presenceRises p)

/-! ### Part reset (R176) -/

/-- A filter that is held: its accepted level stays and its count is 0 (R110, R129, R176). -/
def Filter.held (f : Filter) : Filter := { f with count := 0 }

/-- A port engine while the part is in reset: at its reset values, with the role and presence it had,
which the release takes anew (R157, R176). A transaction in progress is ignored to its end (R177). -/
def PortEngine.inReset (e : PortEngine) : PortEngine :=
  { PortEngine.reset ⟨e.presence.pin, e.strap⟩ with
    role := e.role, presence := e.presence.held, ignoring := e.chipLow }

/-- A channel while the part is in reset: at its reset values, its filters held (R129). -/
def Channel.inReset (ch : Channel) : Channel :=
  { Channel.reset with
    x := ch.x.held
    y := ch.y.held
    z := ch.z.held
    phase := ch.phase }

/-- Every block at its reset value while reset is asserted: whatever was in progress is abandoned,
with no notice, no flush-and-cut and no report, and the gates are low (R70, R176, R177). -/
def State.abandon (s : State) (rst : ResetUnit) : State where
  rst := rst
  ports := .ofFn fun p => (s.port p).inReset
  leases := PerResource.all Lease.reset
  leaseClock := .reset
  carrier := .reset
  legs := .ofFn fun _ => LegUnit.reset
  sync := .ofFn fun _ => MarkState.reset
  trip := ⟨s.trip.trip0.held, s.trip.trip1.held, s.trip.arm.held⟩
  chans := .ofFn fun c => (s.chan c).inReset
  outbox := []
  choices := s.choices
  pending := s.pending

/-- A source asserts reset and holds it for its number of samples; the stretch starts again when both
sources have let go (R176). -/
def ResetUnit.assert (r : ResetUnit) : ResetSource → ResetUnit
  | .rstPin samples => ⟨true, max r.rstLow samples, r.porHold, 0⟩
  | .powerOn samples => ⟨true, r.rstLow, max r.porHold samples, 0⟩

/-- The samples of the stretch (R176). -/
def stretchSamples : Nat := 60

/-- Whether a source still asserts reset (R176). -/
def ResetUnit.held (r : ResetUnit) : Bool := decide (0 < r.rstLow) || decide (0 < r.porHold)

/-- Whether the next sample is the end of the stretch, which is the release (R176). -/
def ResetUnit.ends (r : ResetUnit) : Bool :=
  r.inReset && !r.held && decide (stretchSamples ≤ r.stretch + 1)

/-- One sample in reset: each source that asserts comes nearer to letting go, and once both have let go the
stretch runs (R176). -/
def ResetUnit.pass (r : ResetUnit) : ResetUnit :=
  if r.held then { r with rstLow := r.rstLow - 1, porHold := r.porHold - 1 }
  else { r with stretch := r.stretch + 1 }

/-- A channel at the release of reset: its accepted levels and phase from the pins (R129). -/
def Channel.released (pins : ChanPins) : Channel :=
  { Channel.reset with
    x := .settled pins.x
    y := .settled pins.y
    z := .settled pins.z
    phase := phaseOf pins.x pins.y }

/-- Every block at the values its chapter gives at the release of reset (R25, R41, R43, R57, R77,
R127, R129, R157, R171, R173, R176). A transaction whose CSNx fell before stays ignored to its end
(R177). -/
def State.released (s : State) (pins : Pins) : State where
  rst := ⟨false, 0, 0, 0⟩
  ports := .ofFn fun p =>
    { PortEngine.reset (pins.ports.get p) with ignoring := (s.port p).chipLow }
  leases := PerResource.all Lease.reset
  leaseClock := .reset
  carrier := .reset
  legs := .ofFn fun _ => LegUnit.reset
  sync := .ofFn fun _ => MarkState.reset
  trip := ⟨.settled pins.trip0, .settled pins.trip1, .settled pins.arm⟩
  chans := .ofFn fun c => Channel.released (pins.chans.get c)
  outbox := []
  choices := s.choices
  pending := s.pending

/-- A cause arises on all four legs (R111). -/
def State.causeOnAll (s : State) (c : Cause) : State := Leg.all.foldl (fun s n => s.causeArises n c) s

/-- The Trip Unit evaluates the accepted levels at the release: ARM low first, then TRIP1 high, then
TRIP0 high (R127). -/
def State.evaluateAtRelease (s : State) : State :=
  let s1 := if s.trip.arm.level then s else s.causeOnAll .disarm
  let s2 := if s.trip.trip1.level then s1.causeOnAll .trip1 else s1
  if s.trip.trip0.level then s2.causeOnAll .trip0 else s2

/-- The release of reset with the levels on the pins at that moment (R127, R176). -/
def State.release (s : State) (pins : Pins) : State := (s.released pins).evaluateAtRelease.deliver

/-- RESET_ASSERT (R176). -/
def execResetAssert (source : ResetSource) (s : State) : Host.Outcome State Fault Refusal :=
  .next (s.abandon (s.rst.assert source))

/-- RESET_RELEASE (R176): the end of the stretch. While a source asserts, before the last sample of the
stretch, and out of reset there is none (log entry 6). -/
def execResetRelease (pins : Pins) (s : State) : Host.Outcome State Fault Refusal :=
  .next (if s.rst.ends then s.release pins else s)

end Sys2Proof.Machine
end

