-- ==== Sys2Proof/Machine/Clock.lean ====
section
/-! DEFINITION. One sample of the core clock, which passes when no command or event waits, and before an
event of the part's own clocks (log entries 2, 4 and 21): the input filters, the dividers, what falls due at
the sample, and the dead-time rule at each output stage (R27, R62, R87, R110, R130, R139, R171, R176). The row
SIDE_TURN_ON, which names what comes about inside a sample, runs that whole sample (log entry 5). -/

namespace Sys2Proof.Machine

open Sys2Proof

/-- The filter widths of the trip inputs and of PRESx (R110, R171). -/
def trip0Width : Nat := 8
def slowWidth : Nat := 64

/-- What can fall due at one sample. -/
inductive Due where
  | trip0 | trip1 | arm
  | presence (p : Port)
  | chan (c : Chan)
  | carrier | lease
  deriving DecidableEq, Repr

/-- The level that a filter has after a sample: the pin's if it accepts, else the accepted one. -/
def Filter.after (width : Nat) (f : Filter) : Bool := if f.accepts width then f.pin else f.level

/-- Whether one of a channel's filters accepts a change at this sample (R130). -/
def Channel.accepting (ch : Channel) : Bool :=
  let w := ch.config.filter.samples
  ch.x.accepts w || ch.y.accepts w || ch.z.accepts w

/-- What falls due at this sample. -/
def State.due (s : State) : List Due :=
  (if s.trip.trip0.accepts trip0Width then [.trip0] else [])
    ++ (if s.trip.trip1.accepts slowWidth then [.trip1] else [])
    ++ (if s.trip.arm.accepts slowWidth then [.arm] else [])
    ++ ((Port.all.filter fun p => (s.port p).presence.accepts slowWidth).map .presence)
    ++ ((Chan.all.filter fun c =>
          (s.chan c).accepting || ((s.chan c).divider.due && (s.chan c).timerRuns)).map .chan)
    ++ (if s.carrier.run = .running ∧ s.carrier.divider.due = true then [.carrier] else [])
    ++ (if s.leaseClock.divider.due then [.lease] else [])

/-- A channel's filter counts and divider at a sample (R130, R139). -/
def Channel.pass (ch : Channel) : Channel :=
  let w := ch.config.filter.samples
  { ch with
    x := ch.x.wait w
    y := ch.y.wait w
    z := ch.z.wait w
    divider := ch.divider.pass (prescaleSamples ch.config.prescale) }

/-- The filter counts and dividers of the whole part at a sample. The carrier's divider does not run
while STOPPED (R27). -/
def State.pass (s : State) : State :=
  { s with
    ports := .ofFn fun p => { s.port p with presence := (s.port p).presence.wait slowWidth }
    trip := ⟨s.trip.trip0.wait trip0Width, s.trip.trip1.wait slowWidth, s.trip.arm.wait slowWidth⟩
    chans := .ofFn fun c => (s.chan c).pass
    carrier := match s.carrier.run with
      | .running =>
        { s.carrier with
          divider := s.carrier.divider.pass (prescaleSamples s.carrier.prescale) }
      | .stopped => s.carrier
    leaseClock := ⟨s.leaseClock.divider.pass leaseTickSamples, s.leaseClock.number⟩ }

/-- A channel takes the tick and the changes that fall due at one sample; `before` is the channel as
the sample found it. -/
def State.chanFallsDue (s : State) (c : Chan) (before : Channel) : State :=
  let w := before.config.filter.samples
  s.chanTakes c before.divider.due (before.x.after w) (before.y.after w) (before.z.after w)

/-- One of the things that fall due at a sample is taken. `before` is the part as the sample found
it. -/
def State.take (before s : State) : Due → State
  | .trip0 => if before.trip.trip0.pin then s.trip0Rises else s.trip0Falls
  | .trip1 => if before.trip.trip1.pin then s.trip1Rises else s.trip1Falls
  | .arm => if before.trip.arm.pin then s.armRises else s.armFalls
  | .presence p => if (before.port p).presence.pin then s.presenceRises p else s.presenceFalls p
  | .chan c => s.chanFallsDue c (before.chan c)
  | .carrier => s.carrierTicks
  | .lease => s.leaseTickAll

/-- The pins as they stand, for a release that comes with the end of the stretch (R176). -/
def State.pins (s : State) : Pins where
  ports := .ofFn fun p => ⟨(s.port p).presence.pin, (s.port p).strap⟩
  chans := .ofFn fun c => ⟨(s.chan c).x.pin, (s.chan c).y.pin, (s.chan c).z.pin⟩
  trip0 := s.trip.trip0.pin
  trip1 := s.trip.trip1.pin
  arm := s.trip.arm.pin

/-- One sample in reset: the stretch runs once both sources have let go, and its end is the release
(R176). -/
def State.resetSample (s : State) : State :=
  if s.rst.ends then s.release s.pins else s.setRst s.rst.pass

/-- One sample of a part that is out of reset: what falls due is taken in a free order (log entries 7
and 21), the dead-time rule is judged after it, and the copies of all notices that the sample raises reach the
ports last, those of different sources in any order among themselves (R143, R156; log entry 17). -/
def State.liveSample (s : State) : State :=
  let due := s.due
  let order := shuffle s.choices due.length due
  (order.foldl (State.take s) (s.pass.setChoices (s.choices + due.length))).sampleStages.deliver

/-- One sample of the core clock (log entry 2). -/
def State.sample (s : State) : State := if s.rst.inReset then s.resetSample else s.liveSample

/-- A number of samples that pass one after the other. -/
def State.samples : Nat → State → State
  | 0, s => s
  | k + 1, s => State.samples k s.sample

/-- Whether a side that the last sample left off is on after a sample (R62). -/
def LegUnit.turnsOn (u u' : LegUnit) (side : Side) : Bool :=
  !(u.stage.side side).driven && (u'.stage.side side).driven

/-- SIDE_TURN_ON (R62): the sample at which the side turns on, for the whole part (log entry 5). Where the
sample does not turn the side on, the event cannot arise, and nothing changes (log entry 6). -/
def execSideTurnOn (n : Leg) (side : Side) (s : State) : Host.Outcome State Fault Refusal :=
  .next (s.event fun s => if (s.leg n).turnsOn (s.liveSample.leg n) side then s.liveSample else s)

end Sys2Proof.Machine
end

