-- ==== Sys2Proof/Machine/ChannelEvents.lean ====
section
/-! DEFINITION. The events of the Position Channels: the accepted changes of their inputs, QUAD_INPUT_CHANGE to
ACCEPTED_LEVEL_CHANGE (R130 to R141), and the ticks of their interval dividers, INTERVAL_TICK, STALL and
CAPTURE_SATURATION (R139, R140, R142). A change that cannot arise changes nothing (log entry 6). A tick comes
when the channel's divider brings it (log entry 4). A saturation and a counted step of one channel never share
a sample (R139, R143): a row that would make them lies at the next sample (log entry 16). A counted step and an
index edge of one sample are two rows that stand next to each other (log entry 23). -/

namespace Sys2Proof.Machine

open Sys2Proof

/-! ### One sample for a saturation or a counted step, and never for both (R139, R143) -/

/-- Whether newly accepted levels of X and Y are a counted step (R132, R134, R135). -/
def Channel.counts (ch : Channel) (x y : Bool) : Bool :=
  match ch.countEvent x y with
  | .step _ => true
  | .none | .phaseError => false

/-- Whether the filters of a channel accept a counted step at the sample in progress (R130). -/
def Channel.stepFallsDue (ch : Channel) : Bool :=
  let w := ch.config.filter.samples
  ch.counts (ch.x.after w) (ch.y.after w)

/-- Whether the tick of the sample in progress brings the timer to its end beside a counted step that the
filters accept at that sample, so that it makes no saturation (R139). -/
def Channel.tickJoinsStep (ch : Channel) : Bool :=
  ch.divider.due && decide (ch.timer + 1 = timerMax) && ch.stepFallsDue

/-- Whether a row has given the tick of the sample in progress to a channel that is stalled after it, so that
no counted step is taken at that sample any more (R139, R140, R143; log entry 16). -/
def Channel.stalledNow (ch : Channel) : Bool :=
  ch.stall && decide (ch.timer = timerMax) && ch.divider.fresh

/-- Whether a change to these levels of X and Y can lie at the sample in progress: a counted step where no tick
of the sample left the channel stalled, any other change where the sample does not bring a counted step with
its last tick (R139, R143; log entry 16). -/
def Channel.fits (ch : Channel) (x y : Bool) : Bool :=
  if ch.counts x y then !ch.stalledNow else !ch.tickJoinsStep

/-! ### Channel inputs -/

/-- Whether the accepted levels of a channel differ from those given. -/
def Channel.levelsDiffer (ch : Channel) (x y z : Bool) : Bool :=
  ch.x.level != x || ch.y.level != y || ch.z.level != z

/-- Newly accepted levels of X, Y and Z. -/
structure Levels where
  x : Bool
  y : Bool
  z : Bool
  deriving DecidableEq, Repr

/-- Newly accepted levels, with the notices they raise (R130, R143). Where the interval divider gives a tick
at the sample in progress, that tick comes first (R139), and is given. -/
def State.inputsChange (s : State) (c : Chan) (l : Levels) : State :=
  let tick := (s.chan c).divider.due
  ((if tick then s.tickGiven c else s).chanTakes c tick l.x l.y l.z).deliver

/-- A row of a channel's inputs. `change` gives the newly accepted levels, where the change can arise in the
channel. Where it cannot lie at the sample in progress, it lies at the next, if it can still arise there (log
entry 16). -/
def State.changeRow (s : State) (c : Chan) (change : Channel → Option Levels) : State :=
  match change (s.chan c) with
  | none => s
  | some l =>
    if (s.chan c).fits l.x l.y then s.inputsChange c l
    else match change (s.sample.chan c) with
      | none => s
      | some l => s.sample.inputsChange c l

/-- QUAD_INPUT_CHANGE (R132, R133): Z stays as accepted. -/
def execQuadInputChange (ch : Chan) (x y : Bool) (s : State) : Host.Outcome State Fault Refusal :=
  .next (s.event fun s => s.changeRow ch fun c =>
    if c.config.mode = .quad ∧ c.levelsDiffer x y c.z.level = true then some ⟨x, y, c.z.level⟩
    else none)

/-- STEP_DIR_EDGE (R134): X changes by its active edge; Y is as it is accepted at that sample; Z stays as
accepted. -/
def execStepDirEdge (ch : Chan) (y : Bool) (s : State) : Host.Outcome State Fault Refusal :=
  .next (s.event fun s => s.changeRow ch fun c =>
    if c.config.mode = .stepDir ∧ activeEdge c.config.edge c.x.level (!c.x.level) = true then
      some ⟨!c.x.level, y, c.z.level⟩
    else none)

/-- UP_DOWN_EDGE (R135): an active edge of X, of Y, or of both; Z stays as accepted. -/
def execUpDownEdge (ch : Chan) (x y : Bool) (s : State) : Host.Outcome State Fault Refusal :=
  .next (s.event fun s => s.changeRow ch fun c =>
    if c.config.mode = .upDown
        ∧ (activeEdge c.config.edge c.x.level x = true ∨ activeEdge c.config.edge c.y.level y = true)
    then some ⟨x, y, c.z.level⟩
    else none)

/-- INDEX_EDGE (R138): Z rises in a counting mode whose index use is not OFF. The index edge of a sample at
which a counted step is accepted is the row that follows the row of that step (log entry 23). -/
def execIndexEdge (ch : Chan) (s : State) : Host.Outcome State Fault Refusal :=
  .next (s.event fun s => s.changeRow ch fun c =>
    if c.indexEvent true then some ⟨c.x.level, c.y.level, true⟩ else none)

/-- CAPTURE_EDGE (R141): X changes in CAPTURE. -/
def execCaptureEdge (ch : Chan) (s : State) : Host.Outcome State Fault Refusal :=
  .next (s.event fun s => s.changeRow ch fun c =>
    if c.config.mode = .capture then some ⟨!c.x.level, c.y.level, c.z.level⟩ else none)

/-- ACCEPTED_LEVEL_CHANGE (R130): a change that neither counts, latches nor measures. -/
def execAcceptedLevelChange (ch : Chan) (x y z : Bool) (s : State) :
    Host.Outcome State Fault Refusal :=
  .next (s.event fun s => s.changeRow ch fun c =>
    if c.levelsDiffer x y z = true ∧ c.countEvent x y = .none ∧ c.captureEvent x = false
        ∧ c.indexEvent z = false then
      some ⟨x, y, z⟩
    else none)

/-! ### The interval timers -/

/-- The interval tick of the sample in progress, given before its end (R139, R140, R142). Where it comes with a
counted step that takes the place of its saturation, the whole sample passes, which takes both (R139; log
entry 16). -/
def State.intervalTickGiven (s : State) (c : Chan) : State :=
  if (s.chan c).tickJoinsStep then s.sample else ((s.tickGiven c).intervalTicks c).deliver

/-- INTERVAL_TICK (R139): a tick that brings the timer to its end saturates it (R140, R142). -/
def execIntervalTick (ch : Chan) (s : State) : Host.Outcome State Fault Refusal :=
  .next (s.event fun s => (s.samples (s.chan ch).divider.left).intervalTickGiven ch)

/-- The samples that end before the sample of the interval tick that brings a timer to its end, if no counted
step and no edge of X in CAPTURE comes before. -/
def Channel.toSaturation (ch : Channel) : Nat :=
  ch.divider.left + (timerMax - 1 - ch.timer) * prescaleSamples ch.config.prescale

/-- The interval tick that saturates the timer of a channel, in a mode that `mode` names; nothing where no
such tick comes without a step or an edge before it, or a step beside it (R139, R140, R142). -/
def State.nextSaturation (s : State) (c : Chan) (mode : Channel → Bool) : State :=
  if mode (s.chan c) then
    let t := s.samples (s.chan c).toSaturation
    let ch := t.chan c
    if mode ch = true ∧ ch.timer + 1 = timerMax ∧ ch.tickJoinsStep = false then t.intervalTickGiven c
    else s
  else s

/-- STALL (R140): the timer of a counting channel reaches its end. -/
def execStall (ch : Chan) (s : State) : Host.Outcome State Fault Refusal :=
  .next (s.event fun s => s.nextSaturation ch fun c => c.config.mode.counting)

/-- CAPTURE_SATURATION (R142): the timer reaches its end while MEASURING. -/
def execCaptureSaturation (ch : Chan) (s : State) : Host.Outcome State Fault Refusal :=
  .next (s.event fun s => s.nextSaturation ch fun c =>
    decide (c.config.mode = .capture) && decide (c.capture = .measuring))

end Sys2Proof.Machine
end

