-- ==== Sys2Proof/Machine/TimedEvents.lean ====
section
/-! DEFINITION. The events of the carrier's and the lease clock's dividers and of what comes about at a boundary
or a lease tick: CARRIER_TICK, PERIOD_BOUNDARY, SEGMENT_LENGTH_EXPIRY, SYNC_BREAK, ESCALATION, REARM_COMPLETION,
LEASE_TICK and LEASE_EXPIRY. Each comes when the part's own dividers bring it: the samples before its sample
pass first, and then the event is taken at that sample, whose end is left to the next sample that passes (log
entries 4 and 21). A row that names what comes about inside a boundary or a tick runs that whole boundary or
tick where its event is due there, and changes nothing where it is not (log entries 5 and 6). -/

namespace Sys2Proof.Machine

open Sys2Proof

/-! ### The carrier -/

/-- The divider of the carrier gives its tick before the end of the sample in progress (R27). -/
def State.carrierTickGiven (s : State) : State :=
  s.setCarrier { s.carrier with divider := .start (prescaleSamples s.carrier.prescale) }

/-- What a row does at the next boundary of a RUNNING carrier, which it finds at the sample of that boundary;
where it does nothing there (`none`), and while STOPPED, when there are no boundaries (R40), nothing
changes. -/
def State.atBoundary (s : State) (act : State → Option State) : State :=
  match s.carrier.run with
  | .stopped => s
  | .running =>
    match act (s.samples s.carrier.toBoundary).carrierTickGiven with
    | some t => t.deliver
    | none => s

/-- The next tick of a RUNNING carrier (R27). -/
def State.nextTick (s : State) : State :=
  match s.carrier.run with
  | .stopped => s
  | .running => (s.samples s.carrier.divider.left).carrierTickGiven.carrierTicks.deliver

/-- Whether the next boundary brings the elapsed count of a leg's active segment to its length
(R7). -/
def State.lengthDue (s : State) (n : Leg) : Bool :=
  match (s.leg n).phase with
  | .running a => match a.seg.length with
    | some len => decide (len ≤ a.age.elapsed)
    | none => false
  | .idle | .holding _ | .tripped _ => false

/-- A boundary at which a leg escalates: in the order the boundary happens to take; where in that order
the leg takes the boundary first and goes IDLE, so that it would not escalate, the escalation is taken
first (R120). -/
def State.escalationBoundary (s : State) (n : Leg) : State :=
  if (s.boundary.leg n).phase = .idle then
    (s.setChoices (s.choices + 4)).boundaryWith ((PerLeg.ofFn s.escalateFirst).set n true)
  else s.boundary

/-- CARRIER_TICK (R27). -/
def execCarrierTick (s : State) : Host.Outcome State Fault Refusal := .next (s.event State.nextTick)

/-- PERIOD_BOUNDARY (R31). -/
def execPeriodBoundary (s : State) : Host.Outcome State Fault Refusal :=
  .next (s.event fun s => s.atBoundary fun t => some t.boundary)

/-- SEGMENT_LENGTH_EXPIRY (R7). -/
def execSegmentLengthExpiry (n : Leg) (s : State) : Host.Outcome State Fault Refusal :=
  .next (s.event fun s => s.atBoundary fun t => if t.lengthDue n then some t.boundary else none)

/-- SYNC_BREAK (R49). -/
def execSyncBreak (m : Mark) (s : State) : Host.Outcome State Fault Refusal :=
  .next (s.event fun s => s.atBoundary fun t => if t.breaksAt m then some t.boundary else none)

/-- ESCALATION (R120). -/
def execEscalation (n : Leg) (s : State) : Host.Outcome State Fault Refusal :=
  .next (s.event fun s => s.atBoundary fun t =>
    if (t.leg n).escalates then some (t.escalationBoundary n) else none)

/-- REARM_COMPLETION: at the next boundary (R122), and while STOPPED at once (R124). -/
def execRearmCompletion (n : Leg) (s : State) : Host.Outcome State Fault Refusal :=
  .next (s.event fun s =>
    match s.carrier.run with
    | .running =>
      s.atBoundary fun t => if (t.leg n).phase.rearmPending then some t.boundary else none
    | .stopped => if (s.leg n).phase.rearmPending then (s.completeRearm n).deliver else s)

/-! ### The lease clock -/

/-- Whether the next lease tick ends a lease: HELD with at most one tick left (R88). -/
def Lease.expiring (l : Lease) : Bool :=
  match l.phase with
  | .held _ _ remaining _ => decide (remaining ≤ 1)
  | .free | .releasing => false

/-- The state at the sample of the next lease tick (R87). -/
def State.toLeaseTick (s : State) : State := s.samples s.leaseClock.divider.left

/-- The lease tick of the sample in progress, given before its end (R87, R88). -/
def State.leaseTicks (s : State) : State :=
  (s.setLeaseClock { s.leaseClock with divider := .start leaseTickSamples }).leaseTickAll.deliver

/-- LEASE_TICK (R88). -/
def execLeaseTick (s : State) : Host.Outcome State Fault Refusal :=
  .next (s.event fun s => s.toLeaseTick.leaseTicks)

/-- LEASE_EXPIRY (R101). -/
def execLeaseExpiry (r : Resource) (s : State) : Host.Outcome State Fault Refusal :=
  .next (s.event fun s => if (s.toLeaseTick.lease r).expiring then s.toLeaseTick.leaseTicks else s)

end Sys2Proof.Machine
end

