-- ==== Sys2Proof/Machine/CarrierCommands.lean ====
section
/-! DEFINITION. The commands that the Carrier Timer and the Sync Unit own: SET_PERIOD, SET_CARRIER,
START, STOP, SET_SYNC_LIMIT, QUERY_CARRIER, QUERY_SYNC (chapters 2 and 3). -/

namespace Sys2Proof.Machine

open Sys2Proof

/-- The holder and generation checks of a carrier command (R78, R79). -/
def State.onCarrier (s : State) (p : Port) (g : Half) (act : Answer) : Answer :=
  match s.fence .carrier p g with
  | some (result, data) => s.refuse result data
  | none => act

/-- SET_PERIOD: the preload, and while STOPPED the active period too (R34). -/
def Carrier.setPeriod (t : Carrier) (period : Nat) : Carrier :=
  match t.run with
  | .running => { t with preload := period }
  | .stopped => { t with preload := period, active := period }

/-- SET_PERIOD (R34). -/
def doSetPeriod (p : Port) (g period : Half) (s : State) : Answer :=
  match periodOf period with
  | none => s.refuse .badArg []
  | some n => s.onCarrier p g ⟨s.setCarrier (s.carrier.setPeriod n), .ok, []⟩

/-- Whether a leg is RUNNING or HOLDING (R35, R37). -/
def State.anyDriving (s : State) : Bool := Leg.all.any fun n => (s.leg n).phase.driving

/-- SET_CARRIER (R35): the mode and prescale, and the counter restarts. -/
def doSetCarrier (p : Port) (g : Half) (mode prescale : Byte) (s : State) : Answer :=
  match carrierModeOf mode, prescaleOf prescale with
  | some mode, some prescale =>
    s.onCarrier p g
      (if s.anyDriving then s.refuse .busy []
      else
        ⟨(s.setCarrier { s.carrier with mode := mode, prescale := prescale }.restart).settleAll, .ok,
          []⟩)
  | _, _ => s.refuse .badArg []

/-- START (R36). -/
def doStart (p : Port) (g : Half) (s : State) : Answer :=
  s.onCarrier p g
    (match s.carrier.run with
    | .running => s.refuse .busy []
    | .stopped =>
      ⟨(s.setCarrier { s.carrier with run := .running, period := 0 }.restart).settleAll, .ok, []⟩)

/-- The timer stops where it stands (R37). -/
def Carrier.halt (t : Carrier) : Carrier :=
  { t with run := .stopped, active := t.preload, leadIn := false }

/-- STOP (R37). A rearm pending on a leg completes at that moment (R124). -/
def doStop (p : Port) (g : Half) (s : State) : Answer :=
  s.onCarrier p g
    (match s.carrier.run with
    | .stopped => ⟨s, .ok, []⟩
    | .running =>
      if s.anyDriving then s.refuse .busy []
      else ⟨Leg.all.foldl State.completeIfPending (s.setCarrier s.carrier.halt), .ok, []⟩)

/-- SET_SYNC_LIMIT (R38). -/
def doSetSyncLimit (p : Port) (g limit : Half) (s : State) : Answer :=
  match syncLimitOf limit with
  | none => s.refuse .badArg []
  | some n => s.onCarrier p g ⟨s.setCarrier { s.carrier with syncLimit := n }, .ok, []⟩

/-- The items of the Carrier Timer, in the order of R39. -/
def Carrier.bytes (t : Carrier) : List Byte :=
  item1 t.run.code ++ itemBool t.leadIn ++ item1 t.mode.code ++ item1 t.prescale.val
    ++ item2 t.active ++ item2 t.preload ++ item2 t.counter ++ item1 t.slope.code ++ be32 t.period
    ++ item2 t.syncLimit

/-- QUERY_CARRIER (R39). -/
def doQueryCarrier (s : State) : Answer := ⟨s, .ok, s.carrier.bytes⟩

/-- QUERY_SYNC: the sync limit, then the wait count and the holding-leg set of each mark (R55). -/
def doQuerySync (s : State) : Answer :=
  ⟨s, .ok, item2 s.carrier.syncLimit
    ++ Mark.all.flatMap fun m => item2 (s.mark m).wait ++ [maskOfLegs (s.mark m).holding]⟩

def execSetPeriod (p : Port) (seq : Byte) (g period : Half) (s : State) :
    Host.Outcome State Fault Refusal :=
  .next (s.submit (.setPeriod p seq g period) (doSetPeriod p g period))

def execSetCarrier (p : Port) (seq : Byte) (g : Half) (mode prescale : Byte) (s : State) :
    Host.Outcome State Fault Refusal :=
  .next (s.submit (.setCarrier p seq g mode prescale) (doSetCarrier p g mode prescale))

def execStart (p : Port) (seq : Byte) (g : Half) (s : State) : Host.Outcome State Fault Refusal :=
  .next (s.submit (.start p seq g) (doStart p g))

def execStop (p : Port) (seq : Byte) (g : Half) (s : State) : Host.Outcome State Fault Refusal :=
  .next (s.submit (.stop p seq g) (doStop p g))

def execSetSyncLimit (p : Port) (seq : Byte) (g limit : Half) (s : State) :
    Host.Outcome State Fault Refusal :=
  .next (s.submit (.setSyncLimit p seq g limit) (doSetSyncLimit p g limit))

def execQueryCarrier (p : Port) (seq : Byte) (s : State) : Host.Outcome State Fault Refusal :=
  .next (s.submit (.queryCarrier p seq) doQueryCarrier)

def execQuerySync (p : Port) (seq : Byte) (s : State) : Host.Outcome State Fault Refusal :=
  .next (s.submit (.querySync p seq) doQuerySync)

end Sys2Proof.Machine
end

