-- ==== Sys2Proof/Machine/ChannelCommands.lean ====
section
/-! DEFINITION. The commands that a Position Channel owns: SET_CHANNEL, SET_POSITION, QUERY_CHANNEL,
SUBSCRIBE, and READ_SNAPSHOT, which reads every block (chapters 8 and 9). -/

namespace Sys2Proof.Machine

open Sys2Proof

/-- The holder and generation checks of a channel command (R78, R79). -/
def State.onChan (s : State) (c : Chan) (p : Port) (g : Half) (act : Answer) : Answer :=
  match s.fence (.chan c) p g with
  | some (result, data) => s.refuse result data
  | none => act

/-- A channel takes a configuration: counts, latches and stall are cleared, the filter counts are 0, the
divider starts afresh, so that no tick comes at this sample (R145); accepted levels, phase and subscribers are
kept (R144). -/
def Channel.configure (ch : Channel) (cfg : ChanConfig) : Channel :=
  { ch with
    config := cfg
    divider := .start (prescaleSamples cfg.prescale)
    x := { ch.x with count := 0 }
    y := { ch.y with count := 0 }
    z := { ch.z with count := 0 }
    position := 0
    revolutions := 0
    direction := .none
    timer := 0
    intervalLatch := 0
    indexLatch := 0
    capture := .waitFirst
    widthTaken := false
    widthLatch := 0
    periodLatch := 0
    stall := false }

/-- SET_CHANNEL (R144). -/
def doSetChannel (p : Port) (ch : Byte) (g : Half) (mode filter : Byte) (modulus : Half)
    (indexEdge prescale : Byte) (s : State) : Answer :=
  match chanOf ch, chanConfigOf mode filter modulus indexEdge prescale with
  | some c, some cfg => s.onChan c p g ⟨s.updChan c fun ch => ch.configure cfg, .ok, []⟩
  | _, _ => s.refuse .badArg []

/-- SET_POSITION (R146). -/
def doSetPosition (p : Port) (ch : Byte) (g value : Half) (s : State) : Answer :=
  match chanOf ch with
  | none => s.refuse .badArg []
  | some c =>
    if value.toNat < (s.chan c).config.modulus then
      s.onChan c p g ⟨s.updChan c fun ch => { ch with position := value.toNat }, .ok, []⟩
    else s.refuse .badArg []

/-- The items of a channel, in the order of R147. -/
def Channel.bytes (ch : Channel) : List Byte :=
  item1 ch.config.mode.code ++ item1 ch.config.filter.code ++ item2 (ch.config.modulus - 1)
    ++ item1 ch.config.indexUse.code ++ item1 ch.config.edge.code ++ item1 ch.config.prescale.val
    ++ itemBool ch.x.level ++ itemBool ch.y.level ++ itemBool ch.z.level ++ item1 ch.phase
    ++ item2 ch.position ++ be16 ch.revolutions ++ item1 ch.direction.code
    ++ item2 ch.timer ++ item2 ch.intervalLatch ++ item2 ch.indexLatch
    ++ item1 ch.capture.code ++ itemBool ch.widthTaken ++ item2 ch.widthLatch ++ item2 ch.periodLatch
    ++ itemBool ch.stall
    ++ [ch.subscribers.a.mask, ch.subscribers.b.mask, ch.subscribers.c.mask]

/-- QUERY_CHANNEL (R147). -/
def doQueryChannel (ch : Byte) (s : State) : Answer :=
  match chanOf ch with
  | none => s.refuse .badArg []
  | some c => ⟨s, .ok, (s.chan c).bytes⟩

/-- SUBSCRIBE answers with the set now in force and the set it replaced (R155). -/
def doSubscribe (p : Port) (ch kinds : Byte) (s : State) : Answer :=
  match chanOf ch, kindsOf kinds with
  | some c, some k =>
    ⟨s.updChan c fun ch => { ch with subscribers := ch.subscribers.set p k }, .ok,
      [k.mask, ((s.chan c).subscribers.get p).mask]⟩
  | _, _ => s.refuse .badArg []

/-- The first latch that a snapshot reports (R152). -/
def Channel.firstLatch (ch : Channel) : Nat :=
  if ch.config.mode = .capture then ch.widthLatch else ch.intervalLatch

/-- The second latch that a snapshot reports (R152). -/
def Channel.secondLatch (ch : Channel) : Nat :=
  if ch.config.mode = .capture then ch.periodLatch else ch.indexLatch

/-- A channel in a snapshot: bits 2–0 mode, bits 4–3 direction, bit 5 stall; position, revolutions and
the two latches (10.9). -/
def Channel.snapshot (ch : Channel) : List Byte :=
  item1 (ch.config.mode.code + 8 * ch.direction.code + 32 * (bitByte ch.stall).toNat)
    ++ item2 ch.position ++ be16 ch.revolutions ++ item2 ch.firstLatch ++ item2 ch.secondLatch

/-- A leg in a snapshot: bits 1–0 state, bit 2 tag present, bits 6–3 pending count; active tag
(10.9). -/
def LegUnit.snapshot (u : LegUnit) : List Byte :=
  item1 (u.phase.code + 4 * (bitByte u.phase.activeTag.isSome).toNat + 8 * u.queue.length)
    ++ [u.phase.activeTag.getD 0]

/-- The carrier in a snapshot: counter; bit 0 run state, bit 1 slope; period number (10.9). -/
def Carrier.snapshot (t : Carrier) : List Byte :=
  item2 t.counter ++ item1 (t.run.code + 2 * t.slope.code) ++ be32 t.period

/-- READ_SNAPSHOT (R152, R153). -/
def doReadSnapshot (s : State) : Answer :=
  ⟨s, .ok,
    s.carrier.snapshot ++ (s.chan .c0).snapshot ++ (s.chan .c1).snapshot
      ++ Leg.all.flatMap fun n => (s.leg n).snapshot⟩

def execSetChannel (p : Port) (seq ch : Byte) (g : Half) (mode filter : Byte) (modulus : Half)
    (indexEdge prescale : Byte) (s : State) : Host.Outcome State Fault Refusal :=
  .next (s.submit (.setChannel p seq ch g mode filter modulus indexEdge prescale)
    (doSetChannel p ch g mode filter modulus indexEdge prescale))

def execSetPosition (p : Port) (seq ch : Byte) (g value : Half) (s : State) :
    Host.Outcome State Fault Refusal :=
  .next (s.submit (.setPosition p seq ch g value) (doSetPosition p ch g value))

def execQueryChannel (p : Port) (seq ch : Byte) (s : State) : Host.Outcome State Fault Refusal :=
  .next (s.submit (.queryChannel p seq ch) (doQueryChannel ch))

def execSubscribe (p : Port) (seq ch kinds : Byte) (s : State) : Host.Outcome State Fault Refusal :=
  .next (s.submit (.subscribe p seq ch kinds) (doSubscribe p ch kinds))

def execReadSnapshot (p : Port) (seq : Byte) (s : State) : Host.Outcome State Fault Refusal :=
  .next (s.submit (.readSnapshot p seq) doReadSnapshot)

end Sys2Proof.Machine
end

