-- ==== Sys2Proof/Machine/LeaseCommands.lean ====
section
/-! DEFINITION. The commands that the Lease Table owns: CLAIM, RELEASE, RENEW, RENEW_ALL, SEIZE,
CANCEL_WAIT, QUERY_LEASE (chapters 5 and 6). -/

namespace Sys2Proof.Machine

open Sys2Proof

/-- A grant to the port that asks for it, by CLAIM on a FREE resource or by SEIZE (R83, R105). -/
def State.grantTo (s : State) (r : Resource) (p : Port) (interval : Nat) : State :=
  s.updLease r fun l => l.grant p interval

/-- The position of a port in a waiter list, from 1. -/
def waiterPosition (p : Port) : List Waiter → Option Nat
  | [] => none
  | w :: ws => if w.port = p then some 1 else (waiterPosition p ws).map (· + 1)

/-- A CLAIM with the wait flag that cannot be granted (R82). -/
def State.joinWaiters (s : State) (r : Resource) (p : Port) (interval : Nat) : Answer :=
  let ws := (s.lease r).waiters
  match waiterPosition p ws with
  | some k =>
    ⟨s.updLease r fun l => { l with
        waiters := l.waiters.map fun w => if w.port = p then ⟨p, interval⟩ else w },
      .queued, item1 k⟩
  | none =>
    if ws.length < 2 then
      ⟨s.updLease r fun l => { l with waiters := l.waiters ++ [⟨p, interval⟩] }, .queued,
        item1 (ws.length + 1)⟩
    else s.refuse .full []

/-- CLAIM (R81, R82, R83). -/
def doClaim (p : Port) (r : Byte) (interval : Half) (wait : Byte) (s : State) : Answer :=
  match resourceOf r, intervalOf interval, flagOf wait with
  | some r, some n, some wait =>
    match (s.lease r).phase with
    | .free => ⟨s.grantTo r p n, .ok, be16 (nextGen (s.lease r).gen) ++ item2 n⟩
    | .held holder _ remaining _ =>
      if holder = p then s.refuse .alreadyHeld (be16 (s.lease r).gen ++ item2 remaining)
      else if wait then s.joinWaiters r p n
      else s.refuse .held (item1 holder.number ++ item1 (s.lease r).waiters.length)
    | .releasing =>
      if wait then s.joinWaiters r p n
      else s.refuse .held (item1 (portCode none) ++ item1 (s.lease r).waiters.length)
  | _, _, _ => s.refuse .badArg []

/-- What the lease became at a RELEASE (R96): the state, with the waiter count when RELEASING, and the
new holder and generation when granted. -/
def Lease.outcome (l : Lease) : List Byte :=
  match l.phase with
  | .releasing => item1 l.phase.code ++ item1 l.waiters.length
  | .held holder _ _ _ => item1 l.phase.code ++ item1 holder.number ++ be16 l.gen
  | .free => item1 l.phase.code

/-- RELEASE (R96). -/
def doRelease (p : Port) (r : Byte) (g : Half) (s : State) : Answer :=
  match resourceOf r with
  | none => s.refuse .badArg []
  | some r =>
    match s.fence r p g with
    | some (result, data) => s.refuse result data
    | none => ⟨s.endLease r, .ok, ((s.endLease r).lease r).outcome⟩

/-- A HELD lease is renewed: its remaining count is its interval again and the low warning is cleared
(R90). -/
def Lease.renew (l : Lease) : Lease :=
  match l.phase with
  | .held p interval _ _ => { l with phase := .held p interval interval false }
  | .free | .releasing => l

/-- The interval of a HELD lease, 0 otherwise. -/
def Lease.interval (l : Lease) : Nat :=
  match l.phase with
  | .held _ interval _ _ => interval
  | .free | .releasing => 0

/-- RENEW (R90). -/
def doRenew (p : Port) (r : Byte) (g : Half) (s : State) : Answer :=
  match resourceOf r with
  | none => s.refuse .badArg []
  | some r =>
    match s.fence r p g with
    | some (result, data) => s.refuse result data
    | none => ⟨s.updLease r Lease.renew, .ok, item2 (s.lease r).interval⟩

/-- The resources that a port holds, in the order of their codes. -/
def State.heldBy (s : State) (p : Port) : List Resource :=
  Resource.all.filter fun r => (s.lease r).holder? == some p

/-- A set of resources as a byte, bit n for resource code n (R166). -/
def resourceMask (rs : List Resource) : Byte :=
  rs.foldl (fun b r => b ||| (1 : Byte) <<< r.number) 0

/-- RENEW_ALL (R91). -/
def doRenewAll (p : Port) (s : State) : Answer :=
  let rs := s.heldBy p
  ⟨rs.foldl (fun s r => s.updLease r Lease.renew) s, .ok, item1 rs.length ++ [resourceMask rs]⟩

/-- The plan of the lost holder is taken off a seized leg; the lease is already the seizer's, so the
leg's report has no effect on it (R106, R107). -/
def State.clearSeized (s : State) (r : Resource) : State :=
  match r with
  | .leg n => s.flushAndCut n
  | .carrier | .chan _ => s

/-- The answer to a seizure: new generation, interval, previous state and previous holder
(R105, R106, R107). -/
def seizeData (l : Lease) (interval : Nat) : List Byte :=
  be16 (nextGen l.gen) ++ item2 interval ++ item1 l.phase.code ++ item1 (portCode l.holder?)

/-- SEIZE (R104 to R107). -/
def doSeize (p : Port) (r : Byte) (interval : Half) (s : State) : Answer :=
  match resourceOf r, intervalOf interval with
  | some r, some n =>
    if (s.port p).role = .control then s.refuse .notPermitted []
    else
      let l := s.lease r
      let data := seizeData l n
      match l.phase with
      | .free => ⟨s.grantTo r p n, .ok, data⟩
      | .releasing => ⟨(s.grantTo r p n).clearSeized r, .ok, data⟩
      | .held holder _ remaining _ =>
        if holder = p then s.refuse .alreadyHeld (be16 l.gen ++ item2 remaining)
        else if (s.port holder).role = .supervisor then s.refuse .notPermitted []
        else
          ⟨((s.grantTo r p n).clearSeized r).post (.resource r) [holder]
              ⟨.leaseLost .seized l.gen (some p), .resource r, none, s.periodLow⟩,
            .ok, data⟩
  | _, _ => s.refuse .badArg []

/-- CANCEL_WAIT (R85). -/
def doCancelWait (p : Port) (r : Byte) (s : State) : Answer :=
  match resourceOf r with
  | none => s.refuse .badArg []
  | some r =>
    match waiterPosition p (s.lease r).waiters with
    | none => s.refuse .notWaiting []
    | some _ => ⟨s.updLease r fun l => l.dropWaiter p, .ok, []⟩

/-- The items of a lease record, in the order of R92. -/
def Lease.bytes (l : Lease) : List Byte :=
  let (interval, remaining, warned) : Option Nat × Nat × Bool := match l.phase with
    | .held _ interval remaining warned => (some interval, remaining, warned)
    | .free | .releasing => (none, 0, false)
  item1 l.phase.code ++ item1 (portCode l.holder?) ++ be16 l.gen
    ++ itemOption 2 (interval.map item2) ++ item2 remaining ++ itemBool warned
    ++ item1 l.waiters.length
    ++ l.waiters.flatMap fun w => item1 w.port.number ++ item2 w.interval

/-- QUERY_LEASE (R92). -/
def doQueryLease (r : Byte) (s : State) : Answer :=
  match resourceOf r with
  | none => s.refuse .badArg []
  | some r => ⟨s, .ok, item1 r.number ++ (s.lease r).bytes⟩

def execClaim (p : Port) (seq r : Byte) (interval : Half) (wait : Byte) (s : State) :
    Host.Outcome State Fault Refusal :=
  .next (s.submit (.claim p seq r interval wait) (doClaim p r interval wait))

def execRelease (p : Port) (seq r : Byte) (g : Half) (s : State) :
    Host.Outcome State Fault Refusal :=
  .next (s.submit (.release p seq r g) (doRelease p r g))

def execRenew (p : Port) (seq r : Byte) (g : Half) (s : State) :
    Host.Outcome State Fault Refusal :=
  .next (s.submit (.renew p seq r g) (doRenew p r g))

def execRenewAll (p : Port) (seq : Byte) (s : State) : Host.Outcome State Fault Refusal :=
  .next (s.submit (.renewAll p seq) (doRenewAll p))

def execSeize (p : Port) (seq r : Byte) (interval : Half) (s : State) :
    Host.Outcome State Fault Refusal :=
  .next (s.submit (.seize p seq r interval) (doSeize p r interval))

def execCancelWait (p : Port) (seq r : Byte) (s : State) : Host.Outcome State Fault Refusal :=
  .next (s.submit (.cancelWait p seq r) (doCancelWait p r))

def execQueryLease (p : Port) (seq r : Byte) (s : State) : Host.Outcome State Fault Refusal :=
  .next (s.submit (.queryLease p seq r) (doQueryLease r))

end Sys2Proof.Machine
end

