-- ==== Sys2Proof/Machine/PortCommands.lean ====
section
/-! DEFINITION. The commands that the port engine owns: NOP, QUERY_PORT, SET_NOTICE_MASK, UNKNOWN
(R165, R174, R175). -/

namespace Sys2Proof.Machine

open Sys2Proof

/-- NOP is answered OK with no data (R175). -/
def doNop (s : State) : Answer := ⟨s, .ok, []⟩

/-- Role and presence of one port (R175). -/
def PortEngine.roleBytes (e : PortEngine) : List Byte :=
  item1 e.role.code ++ itemBool e.presence.level

/-- QUERY_PORT (R175). The command itself has left the queue, so the entries behind it are those the
queue still holds. -/
def doQueryPort (p : Port) (s : State) : Answer :=
  let e := s.port p
  ⟨s, .ok,
    item1 p.number ++ (s.port .a).roleBytes ++ (s.port .b).roleBytes ++ (s.port .c).roleBytes
      ++ [e.mask.mask] ++ item1 e.notices.length ++ item1 e.lost ++ item1 e.commands.length
      ++ be32 s.leaseClock.number ++ item2 s.leaseClock.divider.toTick⟩

/-- SET_NOTICE_MASK answers with the mask it replaced (R174). -/
def doSetNoticeMask (p : Port) (classes : Byte) (s : State) : Answer :=
  match classesOf classes with
  | none => s.refuse .badArg []
  | some k => ⟨s.updPort p fun e => { e with mask := k }, .ok, [(s.port p).mask.mask]⟩

/-- A CODE that names no command is answered UNKNOWN with no data (R165). -/
def doUnknown (s : State) : Answer := s.refuse .unknown []

def execNop (p : Port) (seq : Byte) (s : State) : Host.Outcome State Fault Refusal :=
  .next (s.submit (.nop p seq) doNop)

def execQueryPort (p : Port) (seq : Byte) (s : State) : Host.Outcome State Fault Refusal :=
  .next (s.submit (.queryPort p seq) (doQueryPort p))

def execSetNoticeMask (p : Port) (seq classes : Byte) (s : State) :
    Host.Outcome State Fault Refusal :=
  .next (s.submit (.setNoticeMask p seq classes) (doSetNoticeMask p classes))

/-- UNKNOWN: a frame whose CODE names no command. A CODE that does name one is no such frame, and
nothing comes about (log entry 6). -/
def execUnknown (p : Port) (seq code : Byte) (args : List Byte) (s : State) :
    Host.Outcome State Fault Refusal :=
  .next (if (opcodeOf code).isSome then s else s.submit (.unknown p seq code args) doUnknown)

end Sys2Proof.Machine
end

