-- ==== Sys2Proof/Machine/LegCommands.lean ====
section
/-! DEFINITION. The commands that a Leg Unit owns: APPEND, REPLACE, FLUSH, CUT, SET_LEG, QUERY_LEG,
QUERY_OUTPUT (chapters 1 and 4). -/

namespace Sys2Proof.Machine

open Sys2Proof

/-- The legs of a sync set that the port does not hold (R14, check 1). -/
def State.unheldLegs (s : State) (p : Port) (f : SyncField) : List Leg :=
  Leg.all.filter fun k => f.legs.get k && (s.lease (.leg k)).holder? != some p

/-- The holder check of R14 on every leg of a sync set. The answer carries the lease state and holder
of a leg that fails it (R78); which, when several fail, the spec does not say: a free choice (log
entry 15). -/
def State.checkSyncSet (s : State) (p : Port) (seg : Segment) : Option (Result × List Byte) :=
  match seg.sync with
  | none => none
  | some f =>
    match s.unheldLegs p f with
    | [] => none
    | k :: ks =>
      let l := s.lease (.leg ((k :: ks).getD (s.choose (k :: ks).length) k))
      some (.notHolder, item1 l.phase.code ++ item1 (portCode l.holder?))

/-- The acceptance check of a condition: the channel is in a counting mode and the target is below its
modulus (R151). The answer names the mode and the modulus found. -/
def State.checkCondition (s : State) (seg : Segment) : Option (Result × List Byte) :=
  match seg.condition with
  | none => none
  | some cond =>
    let cfg := (s.chan cond.chan).config
    if cfg.mode.counting = true ∧ cond.target.toNat < cfg.modulus then none
    else some (.badCondition, item1 cfg.mode.code ++ item2 (cfg.modulus - 1))

/-- Whether a leg is TRIPPED. -/
def LegPhase.isTripped : LegPhase → Bool
  | .tripped _ => true
  | .idle | .running _ | .holding _ => false

/-- The checks that APPEND and REPLACE share after the argument check, in their order: holder,
generation, sync set, condition, TRIPPED (R14, R16). -/
def State.checkSegment (s : State) (n : Leg) (p : Port) (g : Half) (seg : Segment) :
    Option (Result × List Byte) :=
  (s.fence (.leg n) p g).orElse fun _ =>
  (s.checkSyncSet p seg).orElse fun _ =>
  (s.checkCondition seg).orElse fun _ =>
  if (s.leg n).phase.isTripped then some (.tripped, []) else none

/-- The state after a refusal of `checkSegment`: where the sync-set check had a choice of failing legs
to report, the choice counts as made. -/
def State.afterCheck (s : State) (n : Leg) (p : Port) (g : Half) (seg : Segment) : State :=
  match s.fence (.leg n) p g, seg.sync with
  | none, some f => if 2 ≤ (s.unheldLegs p f).length then s.chosen else s
  | none, none | some _, _ => s

/-- APPEND (R14). -/
def doAppend (p : Port) (leg : Byte) (g : Half) (segment : List Byte) (s : State) : Answer :=
  match legOf leg with
  | none => s.refuse .badArg []
  | some n =>
    match parseSegment n g segment with
    | none => s.refuse .badArg []
    | some seg =>
      match s.checkSegment n p g seg with
      | some (result, data) => (s.afterCheck n p g seg).refuse result data
      | none =>
        if 8 ≤ (s.leg n).queue.length then s.refuse .full []
        else
          ⟨s.updLeg n fun u => { u with queue := u.queue ++ [seg] }, .ok,
            item1 ((s.leg n).queue.length + 1)⟩

/-- The cut request of a REPLACE at once or a CUT: HOST where it was NONE (R17, R19). -/
def LegUnit.cutByHost (u : LegUnit) : LegUnit :=
  match u.phase with
  | .running a =>
    if a.cut = .none then { u with phase := .running { a with cut := .host } } else u
  | .idle | .holding _ | .tripped _ => u

/-- REPLACE (R16, R17). -/
def doReplace (p : Port) (leg : Byte) (g : Half) (atOnce : Byte) (segment : List Byte) (s : State) :
    Answer :=
  match legOf leg, flagOf atOnce with
  | some n, some atOnce =>
    match parseSegment n g segment with
    | none => s.refuse .badArg []
    | some seg =>
      match s.checkSegment n p g seg with
      | some (result, data) => (s.afterCheck n p g seg).refuse result data
      | none =>
        let s' := (s.flushQueue n).updLeg n fun u => { u with queue := [seg] }
        ⟨if atOnce then s'.updLeg n LegUnit.cutByHost else s', .ok, item1 (s.leg n).queue.length⟩
  | _, _ => s.refuse .badArg []

/-- A leased command on a leg: the leg number, then the holder and generation checks (R78, R79,
R165). -/
def State.onLeg (s : State) (leg : Byte) (p : Port) (g : Half) (act : Leg → Answer) : Answer :=
  match legOf leg with
  | none => s.refuse .badArg []
  | some n =>
    match s.fence (.leg n) p g with
    | some (result, data) => s.refuse result data
    | none => act n

/-- FLUSH (R18). -/
def doFlush (p : Port) (leg : Byte) (g : Half) (s : State) : Answer :=
  s.onLeg leg p g fun n => ⟨s.flushQueue n, .ok, item1 (s.leg n).queue.length⟩

/-- CUT (R19). -/
def doCut (p : Port) (leg : Byte) (g : Half) (s : State) : Answer :=
  s.onLeg leg p g fun n =>
    match (s.leg n).phase with
    | .running _ => ⟨s.updLeg n LegUnit.cutByHost, .ok, []⟩
    | .idle | .holding _ | .tripped _ => s.refuse .noActive []

/-- SET_LEG (R24). A change of the TRIP0 response to LATCH while TRIP0 is accepted active is a trip
cause (R111). -/
def doSetLeg (p : Port) (leg : Byte) (g : Half) (deadTime patterns escalation : Byte) (s : State) :
    Answer :=
  match legConfigOf deadTime patterns escalation with
  | none => s.refuse .badArg []
  | some cfg =>
    s.onLeg leg p g fun n =>
      if (s.leg n).phase.driving then s.refuse .busy []
      else
        let s' := s.changeLeg n fun u => { u with config := cfg }
        if (s.leg n).config.response = .cycle ∧ cfg.response = .latch ∧ s.trip.trip0.level = true then
          ⟨s'.causeArises n .trip0, .ok, []⟩
        else ⟨s', .ok, []⟩

/-- The items of a trip record (R113). -/
def TripRecord.bytes (r : TripRecord) : List Byte :=
  item1 r.first.code ++ be32 r.period ++ itemOption 1 (r.tag.map fun t => [t]) ++ [r.further.mask]
    ++ itemBool r.rearm

/-- The active segment of a leg, if it has one. -/
def LegPhase.active? : LegPhase → Option Active
  | .running a => some a
  | .idle | .holding _ | .tripped _ => none

/-- The trip record of a leg, if it is TRIPPED. -/
def LegPhase.record? : LegPhase → Option TripRecord
  | .tripped r => some r
  | .idle | .running _ | .holding _ => none

/-- The held source in HOLDING: 0 SEGMENT, 1 IDLE_PATTERN; absent otherwise (R22). -/
def LegPhase.heldSource : LegPhase → Option Nat
  | .holding (.segment _) => some 0
  | .holding .idlePattern => some 1
  | .idle | .running _ | .tripped _ => none

/-- The five settings of a leg in the order of R23. -/
def LegConfig.bytes (c : LegConfig) : List Byte :=
  item1 c.deadTime ++ item1 c.idlePattern.code ++ item1 c.tripPattern.code ++ item1 c.response.code
    ++ item1 c.escalation

/-- The items of a leg, in the order of R22 (log entry 12). -/
def LegUnit.bytes (u : LegUnit) : List Byte :=
  let a := u.phase.active?
  item1 u.phase.code
    ++ itemOption 1 (a.map fun a => [a.seg.tag])
    ++ itemOption 2 (a.map fun a => be16 a.seg.gen)
    ++ item2 ((a.map Active.elapsed).getD 0)
    ++ itemBool ((a.map Active.latch).getD false)
    ++ item1 ((a.map fun a => a.cut.code).getD 0)
    ++ itemOption 1 (u.phase.heldSource.map item1)
    ++ item1 u.queue.length ++ u.queue.map Segment.tag
    ++ u.config.bytes
    ++ itemOption 9 (u.phase.record?.map TripRecord.bytes) ++ item1 u.tripCount

/-- QUERY_LEG (R22). -/
def doQueryLeg (leg : Byte) (s : State) : Answer :=
  match legOf leg with
  | none => s.refuse .badArg []
  | some n => ⟨s, .ok, (s.leg n).bytes⟩

/-- The output source: 0 SEGMENT, 1 HELD, 2 IDLE_PATTERN, 3 TRIP_PATTERN (R57, R58). -/
def LegPhase.sourceCode : LegPhase → Nat
  | .running _ => 0
  | .holding _ => 1
  | .idle => 2
  | .tripped _ => 3

/-- The kind item of an output: the kind of a drive, or FLOAT or LOW for a pattern (R71; for a held
idle pattern see log entry 13). -/
def Output.kindBytes : Output → List Byte
  | .drive d => [d.kindCode]
  | .pattern p => item1 p.code

/-- The duty and sides items of an output: present for MODULATE (R71). -/
def Output.dutyBytes : Output → List Byte
  | .drive (.modulate d sides) => itemOption 2 (some (be16 d)) ++ itemOption 1 (some [sides.code])
  | .drive .fixedHigh | .drive .fixedLow | .drive .float | .pattern _ =>
    itemOption 2 none ++ itemOption 1 none

/-- The items of an output stage, in the order of R71. -/
def LegUnit.outputBytes (u : LegUnit) : List Byte :=
  item1 u.phase.sourceCode ++ u.output.kindBytes ++ u.output.dutyBytes
    ++ itemBool u.stage.reference ++ itemBool u.stage.cycleCut
    ++ itemBool u.stage.high.demand ++ itemBool u.stage.low.demand
    ++ itemBool u.stage.high.on ++ itemBool u.stage.low.on
    ++ item1 u.stage.high.counted ++ item1 u.stage.low.counted ++ item1 u.config.deadTime

/-- QUERY_OUTPUT (R71). -/
def doQueryOutput (leg : Byte) (s : State) : Answer :=
  match legOf leg with
  | none => s.refuse .badArg []
  | some n => ⟨s, .ok, (s.leg n).outputBytes⟩

def execAppend (p : Port) (seq leg : Byte) (g : Half) (segment : List Byte) (s : State) :
    Host.Outcome State Fault Refusal :=
  .next (s.submit (.append p seq leg g segment) (doAppend p leg g segment))

def execReplace (p : Port) (seq leg : Byte) (g : Half) (atOnce : Byte) (segment : List Byte)
    (s : State) : Host.Outcome State Fault Refusal :=
  .next (s.submit (.replace p seq leg g atOnce segment) (doReplace p leg g atOnce segment))

def execFlush (p : Port) (seq leg : Byte) (g : Half) (s : State) :
    Host.Outcome State Fault Refusal :=
  .next (s.submit (.flush p seq leg g) (doFlush p leg g))

def execCut (p : Port) (seq leg : Byte) (g : Half) (s : State) :
    Host.Outcome State Fault Refusal :=
  .next (s.submit (.cut p seq leg g) (doCut p leg g))

def execSetLeg (p : Port) (seq leg : Byte) (g : Half) (deadTime patterns escalation : Byte)
    (s : State) : Host.Outcome State Fault Refusal :=
  .next (s.submit (.setLeg p seq leg g deadTime patterns escalation)
    (doSetLeg p leg g deadTime patterns escalation))

def execQueryLeg (p : Port) (seq leg : Byte) (s : State) : Host.Outcome State Fault Refusal :=
  .next (s.submit (.queryLeg p seq leg) (doQueryLeg leg))

def execQueryOutput (p : Port) (seq leg : Byte) (s : State) : Host.Outcome State Fault Refusal :=
  .next (s.submit (.queryOutput p seq leg) (doQueryOutput leg))

end Sys2Proof.Machine
end

