-- ==== Sys2Proof/Machine/TripCommands.lean ====
section
/-! DEFINITION. The commands that the Trip Unit owns: REARM and QUERY_TRIP (chapter 7). -/

namespace Sys2Proof.Machine

open Sys2Proof

/-- The rearm of a TRIPPED leg is set pending (R121). -/
def LegUnit.setRearm (u : LegUnit) : LegUnit :=
  match u.phase with
  | .tripped r => { u with phase := .tripped { r with rearm := true } }
  | .idle | .running _ | .holding _ => u

/-- REARM (R121, R124). The answer detail is 0 PENDING, 1 COMPLETED. -/
def doRearm (p : Port) (leg : Byte) (g : Half) (s : State) : Answer :=
  s.onLeg leg p g fun n =>
    if (s.leg n).phase.isTripped = false then s.refuse .busy []
    else if s.blocking n ≠ .empty then s.refuse .tripActive [(s.blocking n).mask]
    else
      match s.carrier.run with
      | .running => ⟨s.updLeg n LegUnit.setRearm, .ok, item1 0⟩
      | .stopped => ⟨s.completeRearm n, .ok, item1 1⟩

/-- The items that QUERY_TRIP gives for every leg (R126). -/
def LegUnit.tripBytes (u : LegUnit) : List Byte :=
  item1 u.phase.code ++ item1 u.config.response.code ++ item1 u.config.escalation
    ++ itemBool u.stage.cycleCut ++ itemBool u.limited ++ item1 u.runCount ++ item1 u.tripCount

/-- QUERY_TRIP (R126): the accepted levels, the state of each leg, then for each TRIPPED leg its
record, then for each TRIPPED leg its blocking causes. -/
def doQueryTrip (s : State) : Answer :=
  let trippedLegs := Leg.all.filter fun n => (s.leg n).phase.isTripped
  ⟨s, .ok,
    itemBool s.trip.trip0.level ++ itemBool s.trip.trip1.level ++ itemBool s.trip.arm.level
      ++ (Leg.all.flatMap fun n => (s.leg n).tripBytes)
      ++ (trippedLegs.flatMap fun n => ((s.leg n).phase.record?.map TripRecord.bytes).getD [])
      ++ trippedLegs.map fun n => (s.blocking n).mask⟩

def execRearm (p : Port) (seq leg : Byte) (g : Half) (s : State) :
    Host.Outcome State Fault Refusal :=
  .next (s.submit (.rearm p seq leg g) (doRearm p leg g))

def execQueryTrip (p : Port) (seq : Byte) (s : State) : Host.Outcome State Fault Refusal :=
  .next (s.submit (.queryTrip p seq) doQueryTrip)

end Sys2Proof.Machine
end

