-- ==== Sys2Proof/Machine/Engine.lean ====
section
/-! DEFINITION. How the port engine takes the commands that wait in its queue (R164): the block that
owns each code, and the loop that takes commands while the response queue has room. -/

namespace Sys2Proof.Machine

open Sys2Proof

/-- What the owning block answers to a host command (10.9 gives the owner of each code). An event of
the part is no command of a queue. -/
def answer (i : Instr) (s : State) : Answer :=
  match i with
  | .nop _ _ => doNop s
  | .queryPort p _ => doQueryPort p s
  | .setNoticeMask p _ classes => doSetNoticeMask p classes s
  | .claim p _ r interval wait => doClaim p r interval wait s
  | .release p _ r g => doRelease p r g s
  | .renew p _ r g => doRenew p r g s
  | .renewAll p _ => doRenewAll p s
  | .seize p _ r interval => doSeize p r interval s
  | .cancelWait p _ r => doCancelWait p r s
  | .queryLease _ _ r => doQueryLease r s
  | .append p _ leg g segment => doAppend p leg g segment s
  | .replace p _ leg g atOnce segment => doReplace p leg g atOnce segment s
  | .flush p _ leg g => doFlush p leg g s
  | .cut p _ leg g => doCut p leg g s
  | .setLeg p _ leg g deadTime patterns escalation =>
    doSetLeg p leg g deadTime patterns escalation s
  | .queryLeg _ _ leg => doQueryLeg leg s
  | .queryOutput _ _ leg => doQueryOutput leg s
  | .rearm p _ leg g => doRearm p leg g s
  | .queryTrip _ _ => doQueryTrip s
  | .setPeriod p _ g period => doSetPeriod p g period s
  | .setCarrier p _ g mode prescale => doSetCarrier p g mode prescale s
  | .start p _ g => doStart p g s
  | .stop p _ g => doStop p g s
  | .setSyncLimit p _ g limit => doSetSyncLimit p g limit s
  | .queryCarrier _ _ => doQueryCarrier s
  | .querySync _ _ => doQuerySync s
  | .setChannel p _ ch g mode filter modulus indexEdge prescale =>
    doSetChannel p ch g mode filter modulus indexEdge prescale s
  | .setPosition p _ ch g value => doSetPosition p ch g value s
  | .queryChannel _ _ ch => doQueryChannel ch s
  | .subscribe p _ ch kinds => doSubscribe p ch kinds s
  | .readSnapshot _ _ => doReadSnapshot s
  | .unknown _ _ _ _ => doUnknown s
  | .statusCapture _ | .commandTransaction _ _ _ | .fetchResponse _ _ | .fetchNotice _ _
  | .framingFault _ _ | .presenceFall _ | .presenceRise _ | .resetAssert _ | .resetRelease _
  | .carrierTick | .periodBoundary | .segmentLengthExpiry _ | .syncBreak _ | .escalation _
  | .rearmCompletion _ | .leaseTick | .leaseExpiry _ | .trip0Active | .trip0Inactive
  | .trip1Active | .trip1Inactive | .disarm | .armHigh | .sideTurnOn _ _ | .quadInputChange _ _ _
  | .stepDirEdge _ _ | .upDownEdge _ _ _ | .indexEdge _ | .captureEdge _ | .intervalTick _
  | .stall _ | .captureSaturation _ | .acceptedLevelChange _ _ _ _ | .fetchFrameFixed _ _ =>
    s.refuse .unknown []

/-- The answer to a queued frame: the code and argument-count checks come first (R165), then the
owning block acts. -/
def answerFrame (p : Port) (f : Frame) (s : State) : Answer :=
  match decodeFrame p f with
  | none => s.refuse .badArg []
  | some i => answer i s

/-- The engine takes the command at the head of its queue when its response queue has room (R164). -/
def State.takeNext (s : State) (p : Port) : State :=
  match (s.port p).commands with
  | [] => s
  | f :: rest =>
    if (s.port p).responses.length < 4 then
      respond p f (answerFrame p f (s.updPort p fun e => { e with commands := rest }))
    else s

/-- Commands are taken one after the other while there is one and the response queue has room. The
response queue has room for at most 4 (R157, R164). -/
def State.takeWaiting (s : State) (p : Port) : State :=
  (((s.takeNext p).takeNext p).takeNext p).takeNext p

end Sys2Proof.Machine
end

