-- ==== Sys2Proof/Machine/Transactions.lean ====
section
/-! DEFINITION. The ends of an SPI transaction and the moments inside it (R158 to R163, R167, R169):
STATUS_CAPTURE, FETCH_FRAME_FIXED, COMMAND_TRANSACTION, FETCH_RESPONSE, FETCH_NOTICE and
FRAMING_FAULT. -/

namespace Sys2Proof.Machine

open Sys2Proof

/-- The opener of a fetch (10.9). -/
def fetchOpener : FetchQueue → Byte
  | .responses => 0xC3
  | .notices => 0x5A

/-- The opener of a command (10.9). -/
def commandOpener : Byte := 0x3C

/-- The kinds of transaction (R159). -/
inductive TransactionKind where
  | command
  | fetch (q : FetchQueue)
  | fault
  deriving DecidableEq, Repr

/-- The kind that an opener selects; any other value is a framing fault (R159). -/
def kindOfOpener (opener : Byte) : TransactionKind :=
  if opener = commandOpener then .command
  else if opener = fetchOpener .responses then .fetch .responses
  else if opener = fetchOpener .notices then .fetch .notices
  else .fault

/-- The kind of a transaction from the whole bytes that the host sent: the byte of slot 0 selects it, and a
transaction that ends before slot 0 is complete is a framing fault (R159). -/
def transactionKind : List Byte → TransactionKind
  | [] => .fault
  | opener :: _ => kindOfOpener opener

/-- The frames that a port has ready in the named queue, oldest first. -/
def PortEngine.ready (e : PortEngine) (q : FetchQueue) : List (List Byte) :=
  match q with
  | .responses => e.responses.map Response.bytes
  | .notices => e.notices.map Notice.bytes

/-- The fall of CSNx: a transaction begins, and both status bytes are captured together (R158,
R160). -/
def PortEngine.beginTransaction (e : PortEngine) : PortEngine :=
  { e with txn := some ⟨e.status1, e.status2, e.sticky, none, 0, none⟩, ignoring := false }

/-- The fall of CSNx at a port that takes no transactions: it is ignored to its end (R158, R171, R177). -/
def PortEngine.ignoreTransaction (e : PortEngine) : PortEngine := { e with txn := none, ignoring := true }

/-- The end of slot 1 of a fetch: the frame to be sent is the head of the named queue as it stands,
or the empty marker (R167). -/
def Transaction.fix (t : Transaction) (e : PortEngine) (q : FetchQueue) : Transaction :=
  { t with
    opener := some (fetchOpener q)
    bytes := 2
    fixed := some (match (e.ready q).head? with | some bytes => .frame bytes | none => .marker) }

/-- The transaction that an event of its port belongs to: the one in progress; or, at a port that takes
transactions with CSNx high, one whose fall of CSNx comes at this moment, so that the row alone
stands for the whole transaction (log entry 19). -/
def PortEngine.current (e : PortEngine) : Option Transaction :=
  match e.txn with
  | some t => some t
  | none => if e.presence.level && !e.ignoring then e.beginTransaction.txn else none

/-- The transaction at the rise of CSNx of a fetch: where no FETCH_FRAME_FIXED came and slot 1 was
completed, its frame is the head of the queue as it stands now (R167; log entry 19). -/
def Transaction.settled (t : Transaction) (e : PortEngine) (q : FetchQueue) (slots : Nat) :
    Transaction :=
  match t.fixed with
  | some _ => t
  | none => if 2 ≤ slots then t.fix e q else t

/-- Whether every byte of the fixed frame was sent as a whole byte: it occupies slots 2 onward
(R167). -/
def Transaction.sentWhole (t : Transaction) (slots : Nat) : Bool :=
  match t.fixed with
  | some (.frame bytes) => decide (2 + bytes.length ≤ slots)
  | some .marker | none => false

/-- The rise of CSNx: the transaction ends, and the sticky flags that it showed are cleared (R161). -/
def PortEngine.endTransaction (e : PortEngine) (t : Transaction) (slots : Nat) : PortEngine :=
  { e with txn := none, sticky := t.clears slots e.sticky }

/-- The notice LOST of a port (R169). -/
def lostNotice (count : Nat) (period : Half) : Notice := ⟨.lost count, .none, none, period⟩

/-- The head of the notice queue is removed; LOST joins the tail while the lost count is above 0, and
the count returns to 0 (R169). -/
def PortEngine.removeNotice (e : PortEngine) (period : Half) : PortEngine :=
  if 0 < e.lost then
    { e with notices := e.notices.tail ++ [lostNotice e.lost period], lost := 0 }
  else { e with notices := e.notices.tail }

/-- The head of the response queue is removed. -/
def PortEngine.removeResponse (e : PortEngine) : PortEngine := { e with responses := e.responses.tail }

/-- Whether the transaction of a port can be of the kind that the bytes of its rise say: its opener is not
known yet, or is theirs. -/
def Transaction.couldBe (t : Transaction) (bytes : List Byte) : Bool :=
  t.opener == none || t.opener == bytes.head?

/-- The frame checks of R163 at the rise of CSNx, and the room check that follows them. -/
def PortEngine.receive (e : PortEngine) (bytes : List Byte) (ragged : Bool) : PortEngine :=
  match checkFrame bytes ragged with
  | .framing => { e with sticky := { e.sticky with framing := true } }
  | .crcFault => { e with sticky := { e.sticky with crcFault := true } }
  | .good f => e.enqueue f

/-- The rise of CSNx ending a transaction of kind `kind`, whose whole bytes are `bytes`. An ignored
transaction ends without any effect, in part reset too (R158, R171, R177). A rise of another kind than its
bytes select, or with no transaction to end, cannot arise (log entries 6 and 19). -/
def State.rise (s : State) (p : Port) (kind : TransactionKind) (bytes : List Byte)
    (act : State → Transaction → State) : State :=
  if (s.port p).ignoring then s.updPort p fun e => { e with ignoring := false }
  else s.event fun s =>
    match (s.port p).current with
    | some t => if transactionKind bytes = kind ∧ t.couldBe bytes = true then act s t else s
    | none => s

/-- STATUS_CAPTURE (R158, R160). At a port that takes no transactions the transaction that begins is ignored
to its end (R158, R171, R177). -/
def execStatusCapture (p : Port) (s : State) : Host.Outcome State Fault Refusal :=
  .next (s.updPort p
    (if s.portLive p then PortEngine.beginTransaction else PortEngine.ignoreTransaction))

/-- FETCH_FRAME_FIXED (R167), in a transaction whose kind is not known yet (log entries 6 and 19). -/
def execFetchFrameFixed (p : Port) (q : FetchQueue) (s : State) :
    Host.Outcome State Fault Refusal :=
  .next (s.event fun s =>
    match (s.port p).current with
    | some t =>
      if t.opener = none then s.updPort p fun e => { e with txn := some (t.fix e q) } else s
    | none => s)

/-- COMMAND_TRANSACTION (R163): the sticky flags shown are cleared, the frame, which starts in slot 1, is
checked and queued or dropped, and a command that can be taken is taken at once (R161, R164). -/
def execCommandTransaction (p : Port) (bytes : List Byte) (ragged : Bool) (s : State) :
    Host.Outcome State Fault Refusal :=
  .next (s.rise p .command bytes fun s t =>
    (s.updPort p fun e => (e.endTransaction t bytes.length).receive bytes.tail ragged).takeWaiting p)

/-- FETCH_RESPONSE (R167): a response wholly sent is removed, which may let waiting commands be taken
(R164). The host's bytes after slot 0 are ignored (R159). -/
def execFetchResponse (p : Port) (bytes : List Byte) (s : State) : Host.Outcome State Fault Refusal :=
  .next (s.rise p (.fetch .responses) bytes fun s t =>
    if (t.settled (s.port p) .responses bytes.length).sentWhole bytes.length then
      (s.updPort p fun e => (e.endTransaction t bytes.length).removeResponse).takeWaiting p
    else s.updPort p fun e => e.endTransaction t bytes.length)

/-- FETCH_NOTICE (R167, R169): a notice wholly sent is removed, and LOST joins if it is due. -/
def execFetchNotice (p : Port) (bytes : List Byte) (s : State) : Host.Outcome State Fault Refusal :=
  .next (s.rise p (.fetch .notices) bytes fun s t =>
    if (t.settled (s.port p) .notices bytes.length).sentWhole bytes.length then
      s.updPort p fun e => (e.endTransaction t bytes.length).removeNotice s.periodLow
    else s.updPort p fun e => e.endTransaction t bytes.length)

/-- FRAMING_FAULT (R159): the flags shown are cleared, FRAMING is set, and nothing else happens. -/
def execFramingFault (p : Port) (bytes : List Byte) (s : State) : Host.Outcome State Fault Refusal :=
  .next (s.rise p .fault bytes fun s t =>
    s.updPort p fun e =>
      { e.endTransaction t bytes.length with
        sticky := { t.clears bytes.length e.sticky with framing := true } })

end Sys2Proof.Machine
end

