-- ==== Sys2Proof/Machine/Dispatch.lean ====
section
/-! DEFINITION. The meaning of every row of the opcode table, one arm for each. -/

namespace Sys2Proof.Machine

open Sys2Proof

def exec (i : Instr) (s : State) : Host.Outcome State Fault Refusal :=
  match i with
  | .nop p seq => Sys2Proof.Machine.execNop p seq s
  | .queryPort p seq => Sys2Proof.Machine.execQueryPort p seq s
  | .setNoticeMask p seq classes => Sys2Proof.Machine.execSetNoticeMask p seq classes s
  | .claim p seq r interval wait => Sys2Proof.Machine.execClaim p seq r interval wait s
  | .release p seq r g => Sys2Proof.Machine.execRelease p seq r g s
  | .renew p seq r g => Sys2Proof.Machine.execRenew p seq r g s
  | .renewAll p seq => Sys2Proof.Machine.execRenewAll p seq s
  | .seize p seq r interval => Sys2Proof.Machine.execSeize p seq r interval s
  | .cancelWait p seq r => Sys2Proof.Machine.execCancelWait p seq r s
  | .queryLease p seq r => Sys2Proof.Machine.execQueryLease p seq r s
  | .append p seq leg g segment => Sys2Proof.Machine.execAppend p seq leg g segment s
  | .replace p seq leg g atOnce segment => Sys2Proof.Machine.execReplace p seq leg g atOnce segment s
  | .flush p seq leg g => Sys2Proof.Machine.execFlush p seq leg g s
  | .cut p seq leg g => Sys2Proof.Machine.execCut p seq leg g s
  | .setLeg p seq leg g deadTime patterns escalation => Sys2Proof.Machine.execSetLeg p seq leg g deadTime patterns escalation s
  | .queryLeg p seq leg => Sys2Proof.Machine.execQueryLeg p seq leg s
  | .queryOutput p seq leg => Sys2Proof.Machine.execQueryOutput p seq leg s
  | .rearm p seq leg g => Sys2Proof.Machine.execRearm p seq leg g s
  | .queryTrip p seq => Sys2Proof.Machine.execQueryTrip p seq s
  | .setPeriod p seq g period => Sys2Proof.Machine.execSetPeriod p seq g period s
  | .setCarrier p seq g mode prescale => Sys2Proof.Machine.execSetCarrier p seq g mode prescale s
  | .start p seq g => Sys2Proof.Machine.execStart p seq g s
  | .stop p seq g => Sys2Proof.Machine.execStop p seq g s
  | .setSyncLimit p seq g limit => Sys2Proof.Machine.execSetSyncLimit p seq g limit s
  | .queryCarrier p seq => Sys2Proof.Machine.execQueryCarrier p seq s
  | .querySync p seq => Sys2Proof.Machine.execQuerySync p seq s
  | .setChannel p seq ch g mode filter modulus indexEdge prescale => Sys2Proof.Machine.execSetChannel p seq ch g mode filter modulus indexEdge prescale s
  | .setPosition p seq ch g value => Sys2Proof.Machine.execSetPosition p seq ch g value s
  | .queryChannel p seq ch => Sys2Proof.Machine.execQueryChannel p seq ch s
  | .subscribe p seq ch kinds => Sys2Proof.Machine.execSubscribe p seq ch kinds s
  | .readSnapshot p seq => Sys2Proof.Machine.execReadSnapshot p seq s
  | .unknown p seq code args => Sys2Proof.Machine.execUnknown p seq code args s
  | .statusCapture p => Sys2Proof.Machine.execStatusCapture p s
  | .commandTransaction p bytes ragged => Sys2Proof.Machine.execCommandTransaction p bytes ragged s
  | .fetchResponse p bytes => Sys2Proof.Machine.execFetchResponse p bytes s
  | .fetchNotice p bytes => Sys2Proof.Machine.execFetchNotice p bytes s
  | .framingFault p bytes => Sys2Proof.Machine.execFramingFault p bytes s
  | .presenceFall p => Sys2Proof.Machine.execPresenceFall p s
  | .presenceRise p => Sys2Proof.Machine.execPresenceRise p s
  | .resetAssert source => Sys2Proof.Machine.execResetAssert source s
  | .resetRelease pins => Sys2Proof.Machine.execResetRelease pins s
  | .carrierTick => Sys2Proof.Machine.execCarrierTick s
  | .periodBoundary => Sys2Proof.Machine.execPeriodBoundary s
  | .segmentLengthExpiry n => Sys2Proof.Machine.execSegmentLengthExpiry n s
  | .syncBreak m => Sys2Proof.Machine.execSyncBreak m s
  | .escalation n => Sys2Proof.Machine.execEscalation n s
  | .rearmCompletion n => Sys2Proof.Machine.execRearmCompletion n s
  | .leaseTick => Sys2Proof.Machine.execLeaseTick s
  | .leaseExpiry r => Sys2Proof.Machine.execLeaseExpiry r s
  | .trip0Active => Sys2Proof.Machine.execTrip0Active s
  | .trip0Inactive => Sys2Proof.Machine.execTrip0Inactive s
  | .trip1Active => Sys2Proof.Machine.execTrip1Active s
  | .trip1Inactive => Sys2Proof.Machine.execTrip1Inactive s
  | .disarm => Sys2Proof.Machine.execDisarm s
  | .armHigh => Sys2Proof.Machine.execArmHigh s
  | .sideTurnOn n side => Sys2Proof.Machine.execSideTurnOn n side s
  | .quadInputChange ch x y => Sys2Proof.Machine.execQuadInputChange ch x y s
  | .stepDirEdge ch y => Sys2Proof.Machine.execStepDirEdge ch y s
  | .upDownEdge ch x y => Sys2Proof.Machine.execUpDownEdge ch x y s
  | .indexEdge ch => Sys2Proof.Machine.execIndexEdge ch s
  | .captureEdge ch => Sys2Proof.Machine.execCaptureEdge ch s
  | .intervalTick ch => Sys2Proof.Machine.execIntervalTick ch s
  | .stall ch => Sys2Proof.Machine.execStall ch s
  | .captureSaturation ch => Sys2Proof.Machine.execCaptureSaturation ch s
  | .acceptedLevelChange ch x y z => Sys2Proof.Machine.execAcceptedLevelChange ch x y z s
  | .fetchFrameFixed p q => Sys2Proof.Machine.execFetchFrameFixed p q s

end Sys2Proof.Machine
end

