-- ==== Sys2Proof/Machine/Step.lean ====
section
/-! DEFINITION. One step: the command at the front of the queue, or one sample of the core clock when
none waits; and the host's way of putting a command in front. -/

namespace Sys2Proof.Machine

open Sys2Proof

/-- One step (log entry 2): take the command or event at the front of `pending` and run it with the
rest of the queue; when none waits, one sample of the core clock passes. -/
def step (s : State) : Host.Outcome State Fault Refusal :=
  match s.pending with
  | [] => .next s.sample
  | i :: rest => exec i (s.setPending rest)

/-- The command that a word spells by the table's bits goes to the front of the queue. No row of the
table gives bits, so every word leaves the state as it is (log entry 18). -/
def State.withFetchWord (s : State) (nbits w : Nat) : State :=
  match decodeTableWord nbits w with
  | some i => s.setPending (i :: s.pending)
  | none => s

end Sys2Proof.Machine
end

