-- ==== Sys2Proof/WellFormed.lean ====
section
/-! DEFINITION. Which operands a row's fields may hold: the argument ranges and encodings that check
2 of R165 asks of each command. A command that is not well formed is still taken; it is answered
BAD_ARG. -/

namespace Sys2Proof

/-- A leg byte, 0 to 3. -/
def legByteOk (b : Byte) : Bool := b.toNat < 4

/-- A channel byte, 0 or 1. -/
def chanByteOk (b : Byte) : Bool := b.toNat < 2

/-- A resource byte, 0 to 6 (10.9). -/
def resourceByteOk (b : Byte) : Bool := b.toNat < 7

/-- A flag byte, 0 or 1 (10.9). -/
def flagByteOk (b : Byte) : Bool := b.toNat < 2

/-- A prescale exponent, 0 to 7 (10.9). -/
def prescaleByteOk (b : Byte) : Bool := b.toNat < 8

/-- A lease interval, 1 to 10000 lease ticks (R81, R104). -/
def intervalOk (h : Half) : Bool := 1 ≤ h.toNat && h.toNat ≤ 10000

/-- A patterns byte: bits 0 to 2, unused bits 0 (10.9, R165). -/
def patternsOk (b : Byte) : Bool := b.toNat < 8

/-- An index and edge byte: index use 0 to 2 in bits 1–0, edge in bit 2, unused bits 0 (10.9). -/
def indexEdgeOk (b : Byte) : Bool := b.toNat < 8 && b.toNat % 4 != 3

/-- How many bytes the presence bits of a segment's first byte call for after the length (10.9). -/
def segmentTail (b : Byte) : Nat :=
  (if b.getLsbD 2 then 3 else 0) + (if b.getLsbD 1 then 3 else 0) + (if b.getLsbD 0 then 2 else 0)

/-- The duty and sides bytes, when present: sides 0 to 2. -/
def dutyBytesOk (tail : List Byte) : Bool := (tail.getD 2 0).toNat < 3

/-- The condition bytes, when present: unused bits 0, direction 0 to 2. -/
def conditionBytesOk (tail : List Byte) : Bool :=
  (tail.getD 0 0).toNat % 128 < 3

/-- The sync bytes, when present: a mark 1 to 15, and a set of at least two legs that holds the own
leg (R2). -/
def syncBytesOk (own : Byte) (tail : List Byte) : Bool :=
  1 ≤ (tail.getD 0 0).toNat && (tail.getD 0 0).toNat ≤ 15 && (tail.getD 1 0).toNat < 16
    && (tail.getD 1 0).getLsbD own.toNat
    && 2 ≤ (Leg.all.filter fun n => (tail.getD 1 0).getLsbD n.number).length

/-- A well-formed segment argument for the leg of byte `own` (R2, 10.9). -/
def segmentOk (own : Byte) (bytes : List Byte) : Bool :=
  match bytes with
  | b :: _ :: lh :: ll :: tail =>
    let length := 256 * lh.toNat + ll.toNat
    (length == 65535 || (1 ≤ length && length ≤ 4095))
      && (b.toNat < 64) == b.getLsbD 2
      && tail.length == segmentTail b
      && (!b.getLsbD 2 || dutyBytesOk tail)
      && (!b.getLsbD 1 || conditionBytesOk (tail.drop (if b.getLsbD 2 then 3 else 0)))
      && (!b.getLsbD 0 ||
        syncBytesOk own (tail.drop ((if b.getLsbD 2 then 3 else 0) + (if b.getLsbD 1 then 3 else 0))))
  | _ => false

/-- Whether the operands of a row are within the encodings of 10.9 and the ranges of the owning
rule. What depends on the state of the part (a position below the modulus, a target below the
modulus, a generation) is not looked at here. -/
def Instr.wf : Instr → Bool
  | .nop _ _ | .queryPort _ _ | .renewAll _ _ | .queryTrip _ _ | .queryCarrier _ _
  | .querySync _ _ | .readSnapshot _ _ => true
  | .setNoticeMask _ _ k => k.toNat < 16
  | .claim _ _ r i w => resourceByteOk r && intervalOk i && flagByteOk w
  | .release _ _ r _ | .renew _ _ r _ => resourceByteOk r
  | .seize _ _ r i => resourceByteOk r && intervalOk i
  | .cancelWait _ _ r | .queryLease _ _ r => resourceByteOk r
  | .append _ _ n _ seg => legByteOk n && segmentOk n seg
  | .replace _ _ n _ o seg => legByteOk n && flagByteOk o && segmentOk n seg
  | .flush _ _ n _ | .cut _ _ n _ | .rearm _ _ n _ => legByteOk n
  | .setLeg _ _ n _ _ pat _ => legByteOk n && patternsOk pat
  | .queryLeg _ _ n | .queryOutput _ _ n => legByteOk n
  | .setPeriod _ _ _ v => 16 ≤ v.toNat
  | .setCarrier _ _ _ m e => m.toNat < 2 && prescaleByteOk e
  | .start _ _ _ | .stop _ _ _ => true
  | .setSyncLimit _ _ _ l => 1 ≤ l.toNat && l.toNat ≤ 1023
  | .setChannel _ _ c _ m fl md ie e =>
    chanByteOk c && m.toNat < 5 && fl.toNat < 4 && 1 ≤ md.toNat && indexEdgeOk ie
      && prescaleByteOk e
  | .setPosition _ _ c _ _ => chanByteOk c
  | .queryChannel _ _ c => chanByteOk c
  | .subscribe _ _ c k => chanByteOk c && k.toNat < 32
  | .unknown _ _ code args => (opcodeOf code).isNone && args.length ≤ 30
  | .statusCapture _ | .commandTransaction _ _ _ | .fetchResponse _ _ | .fetchNotice _ _
  | .framingFault _ _ | .presenceFall _ | .presenceRise _ | .resetAssert _ | .resetRelease _
  | .carrierTick | .periodBoundary | .segmentLengthExpiry _ | .syncBreak _ | .escalation _
  | .rearmCompletion _ | .leaseTick | .leaseExpiry _ | .trip0Active | .trip0Inactive
  | .trip1Active | .trip1Inactive | .disarm | .armHigh | .sideTurnOn _ _ | .quadInputChange _ _ _
  | .stepDirEdge _ _ | .upDownEdge _ _ _ | .indexEdge _ | .captureEdge _ | .intervalTick _
  | .stall _ | .captureSaturation _ | .acceptedLevelChange _ _ _ _ | .fetchFrameFixed _ _ => true

end Sys2Proof
end

