-- ==== Sys2Proof/Safety.lean ====
section
/-! DEFINITION. What counts as a safe state of the part, in the terms that claims use: the properties
that the rules state of every moment, block by block, and the conditions under which a command is
taken. -/

namespace Sys2Proof.Machine

open Sys2Proof

/-! ### Conditions under which a command is taken -/

/-- No copy of a notice is on its way: the model's own `outbox` is empty, as it is between steps (log
entry 8). -/
abbrev State.Quiet (s : State) : Prop := s.outbox = []

/-- A port that takes a command at once: out of reset, its host present, nothing waiting in front of
it, and room for the answer (R164, R171, R176). -/
abbrev State.Ready (s : State) (p : Port) : Prop :=
  s.rst.inReset = false ∧ (s.port p).presence.level = true ∧ (s.port p).commands = []
    ∧ (s.port p).responses.length < 4 ∧ s.Quiet

/-- The part is out of reset and no notice copy is on its way: the condition under which an event is
taken. -/
abbrev State.Awake (s : State) : Prop := s.rst.inReset = false ∧ s.Quiet

/-- The sample in progress brings the next boundary: the carrier is RUNNING, its divider gives a tick at this
sample, and the period or lead-in ends with that tick (R27 to R29). -/
abbrev State.BoundaryNow (s : State) : Prop :=
  s.carrier.run = .running ∧ s.carrier.divider.due = true
    ∧ ((s.carrier.mode = .edge ∧ s.carrier.active ≤ s.carrier.counter)
      ∨ (s.carrier.mode = .center ∧ s.carrier.slope = .rising ∧ s.carrier.active ≤ s.carrier.counter + 1))

/-- The port is the holder of a HELD lease on the resource, whose current generation is `g` (R78,
R79). -/
abbrev State.Holds (s : State) (p : Port) (r : Resource) (g : Half) : Prop :=
  (s.lease r).holder? = some p ∧ (s.lease r).gen = g

/-- The state with one more answer in a port's response queue. -/
def State.answered (s : State) (p : Port) (r : Response) : State :=
  s.updPort p fun e => { e with responses := e.responses ++ [r] }

/-- Whether the arguments of a command pass check 2 of R165: within their encodings and ranges, and
for SET_POSITION below the modulus of the channel as it stands (R146). -/
def State.argsOk (s : State) (i : Instr) : Bool :=
  i.wf && match i with
    | .setPosition _ _ ch _ value =>
      ((chanOf ch).map fun c => decide (value.toNat < (s.chan c).config.modulus)).getD false
    | _ => true

/-- The resource and the generation that a leased command names (R72); none for a command that is not
leased, and for a resource, leg or channel byte outside its range. -/
def leasedOn : Instr → Option (Resource × Half)
  | .release _ _ r g | .renew _ _ r g => (resourceOf r).map fun r => (r, g)
  | .append _ _ n g _ | .replace _ _ n g _ _ | .flush _ _ n g | .cut _ _ n g
  | .setLeg _ _ n g _ _ _ | .rearm _ _ n g => (legOf n).map fun n => (.leg n, g)
  | .setPeriod _ _ g _ | .setCarrier _ _ g _ _ | .start _ _ g | .stop _ _ g
  | .setSyncLimit _ _ g _ => some (.carrier, g)
  | .setChannel _ _ c g _ _ _ _ _ | .setPosition _ _ c g _ => (chanOf c).map fun c => (.chan c, g)
  | _ => none

/-- Two states of a port engine that differ at most in the notices kept and the notices lost. -/
def PortEngine.SameButNotices (e e' : PortEngine) : Prop :=
  e' = { e with notices := e'.notices, lost := e'.lost }

/-- What a command or event leaves alone: part reset, the lease clock, the accepted trip levels, the
waiting commands of the model's queue, and every leg, lease and channel but those named. -/
def State.Keeps (s t : State) (legs : Leg → Prop) (leases : Resource → Prop) (chans : Chan → Prop) :
    Prop :=
  t.rst = s.rst ∧ t.leaseClock = s.leaseClock ∧ t.trip = s.trip ∧ t.pending = s.pending
    ∧ (∀ n, ¬ legs n → t.leg n = s.leg n) ∧ (∀ r, ¬ leases r → t.lease r = s.lease r)
    ∧ ∀ c, ¬ chans c → t.chan c = s.chan c

/-- The answer of port `p` has joined its response queue, and no port engine changed otherwise but for
notices. -/
def State.AnsweredIn (s t : State) (p : Port) (r : Response) : Prop :=
  (t.port p).responses = (s.port p).responses ++ [r]
    ∧ ∀ q, ((s.port q).SameButNotices { t.port q with responses := (s.port q).responses })
        ∧ (q ≠ p → (t.port q).responses = (s.port q).responses)

/-- The part's engines leave no command waiting that could be taken: commands wait only behind a full
response queue (R164). -/
def State.EnginesBusy (s : State) : Prop :=
  ∀ p, (s.port p).commands ≠ [] → 4 ≤ (s.port p).responses.length

/-- The end test of R7, with the elapsed count as this boundary raises it: the segment has reached its
length, its condition latch is set, it is OPEN without a condition and a segment is pending, or it is
cut. -/
def Active.Ends (a : Active) (pendingCount : Nat) : Prop :=
  (∃ len, a.seg.length = some len ∧ len ≤ min 4095 (a.elapsed + 1)) ∨ a.latch = true
    ∨ (a.seg.length = none ∧ a.seg.condition = none ∧ 1 ≤ pendingCount) ∨ a.cut ≠ .none

/-- A leg has no active segment that goes on past the next boundary: it is IDLE or HOLDING, or its
active segment ends there. -/
def LegUnit.Free (u : LegUnit) : Prop :=
  match u.phase with
  | .idle | .holding _ => True
  | .running a => a.Ends u.queue.length
  | .tripped _ => False

/-- A leg is ready for a sync field at the next boundary (R44): its head carries it, and it has no
active segment that goes on. -/
def LegUnit.ReadyFor (u : LegUnit) (f : SyncField) : Prop := u.headSync = some f ∧ u.Free

/-- A HOLDING leg whose head is removed leaves the holding-leg set of its mark; no wait count changes
(R51). -/
def State.headLost (s : State) (n : Leg) : State :=
  match (s.leg n).phase, (s.leg n).queue with
  | .holding _, _ :: _ =>
    s.setSync (.ofFn fun m => { s.mark m with holding := (s.mark m).holding.set n false })
  | _, _ => s

/-- What a flush-and-cut leaves of a leg's plan, in each state of the leg (the table of R20): an empty
queue, and on a RUNNING leg a cut request of LEASE. -/
def State.planTaken (s : State) (n : Leg) : State :=
  match (s.leg n).phase with
  | .running a =>
    s.setLeg n { s.leg n with phase := .running { a with cut := .lease }, queue := [] }
  | .holding _ => (s.headLost n).setLeg n { s.leg n with queue := [] }
  | .idle | .tripped _ => s.setLeg n { s.leg n with queue := [] }

/-- Every port of a set decides on its copy of a notice. -/
def State.told (s : State) (who : Port → Bool) (n : Notice) : State :=
  { s with ports := .ofFn fun p => if who p then (s.port p).receiveCopy n else s.port p }

/-- The ports that TRIPPED and REARMED of a leg are addressed to: the holder of its lease and every
SUPERVISOR (R115, R122). -/
def State.hearsTrips (s : State) (n : Leg) (p : Port) : Bool :=
  (s.lease (.leg n)).holder? == some p || (s.port p).role == .supervisor

/-- The generation of the next grant: the next value of the cycle 1 to 65535 (R76). -/
def Lease.genAfter (l : Lease) : Half := if l.gen = 65535 then 1 else l.gen + 1

/-- The record that a grant to the head waiter leaves (R99). -/
def Lease.grantedTo (l : Lease) (w : Waiter) (rest : List Waiter) : Lease :=
  ⟨.held w.port w.interval w.interval false, l.genAfter, rest.filter fun x => x.port != w.port⟩

/-- The record that a lease leaves when it ends by RELEASE, expiry or presence fall and does not go
RELEASING: FREE, or granted to its head waiter (R98, R99, R103). -/
def Lease.passedOn (l : Lease) : Lease :=
  match l.waiters with
  | [] => { l with phase := .free }
  | w :: rest => l.grantedTo w rest

/-- The lease record of a leg after the report of a leg that trips or goes IDLE: a RELEASING one passes on, any
other stays (R21, R98). -/
def State.leaseReported (s : State) (n : Leg) : Lease :=
  if (s.lease (.leg n)).phase = .releasing then (s.lease (.leg n)).passedOn else s.lease (.leg n)

/-- The ports that TRIPPED of a leg that trips now is addressed to: the holder of its lease after the leg's
report and every SUPERVISOR (R115). -/
def State.hearsTripOf (s : State) (n : Leg) (p : Port) : Bool :=
  (s.leaseReported n).holder? == some p || (s.port p).role == .supervisor

/-- The leg of a resource, if it is a leg, is IDLE or TRIPPED, so that a lease that ends passes on at
once (R95, R98, R103). -/
def State.resourceAtRest (s : State) : Resource → Bool
  | .leg n => (s.leg n).atRest
  | .carrier | .chan _ => true

/-- The plan of a resource is taken from it, if it is a leg (R20, R103). -/
def State.resourceCleared (s : State) : Resource → State
  | .leg n => s.planTaken n
  | .carrier | .chan _ => s

/-- What a latched trip with cause `c` leaves of a leg (R112, R113): TRIPPED with a new record, an empty
queue, the count raised, the cycle cut and the limited mark cleared, the configuration and the run count
kept, and the high side off. -/
def LegUnit.TrippedFrom (u u' : LegUnit) (c : Cause) (period : Dword) (tag : Option Byte) : Prop :=
  u'.phase = .tripped ⟨c, period, tag, .empty, false⟩ ∧ u'.queue = []
    ∧ u'.config = u.config ∧ u'.tripCount = min 255 (u.tripCount + 1)
    ∧ u'.limited = false ∧ u'.runCount = u.runCount ∧ u'.stage.cycleCut = false
    ∧ u'.stage.high.on = false

/-- What the completion of a rearm leaves of its leg (R122): IDLE, the limit counters at no and 0, the cycle
cut clear, the trip count, the queue and the configuration kept, and the output following. -/
def LegUnit.rearmed (u : LegUnit) (counter : Nat) : LegUnit :=
  { u with
    phase := .idle, limited := false, runCount := 0
    stage := { u.stage with cycleCut := false } }.settle counter

/-- One side at one sample, by its own demand, level and count, under a source that demands at most one side
(R60, R62): without a demand it is off and its count is 0; with one it stays on, or turns on if its count is
at the dead time or above, and its count rises by one, up to 255. -/
def SideState.judged (side : SideState) (deadTime : Nat) : SideState :=
  if side.demand then
    ⟨true, side.driven || decide (deadTime ≤ side.count), min 255 (side.count + 1)⟩
  else ⟨false, false, 0⟩

/-- Both sides of a leg at one sample, under a source that demands at most one of them (R60, R62). -/
def LegUnit.judged (u : LegUnit) : LegUnit :=
  { u with
    stage := { u.stage with
      high := u.stage.high.judged u.config.deadTime
      low := u.stage.low.judged u.config.deadTime } }

/-- The channel as the interval tick of the sample in progress leaves it, where one comes there: the tick
given, and the timer raised by one where ticks raise it, up to 65535 (R139). -/
def Channel.ticked (ch : Channel) : Channel :=
  if ch.divider.due then
    { ch with
      divider := ⟨2 ^ ch.config.prescale.val, true⟩
      timer := if ch.timerRuns = true ∧ ch.timer < 65535 then ch.timer + 1 else ch.timer }
  else ch

/-- A counted step of a channel and all that it brings about: position and revolutions (R136), direction
(R137), the interval latch, which takes the timer as an interval tick of the same sample raised it, the timer
and the stall (R139, R140), the condition latches of the active segments (R148), and DIRECTION to the ports
that subscribe to it (R143, R156). The accepted levels and the phase are not looked at here. Nothing else
changes. -/
def State.CountedStep (s t : State) (c : Chan) (up : Bool) : Prop :=
  let ch := s.chan c
  let position :=
    if up then (if ch.position + 1 < ch.config.modulus then ch.position + 1 else 0)
    else (if 0 < ch.position then ch.position - 1 else ch.config.modulus - 1)
  let revolutions :=
    if up then (if ch.position + 1 < ch.config.modulus then ch.revolutions else ch.revolutions + 1)
    else (if 0 < ch.position then ch.revolutions else ch.revolutions - 1)
  let direction := if up then Direction.up else .down
  t.chan c =
      { ch with
        x := (t.chan c).x
        y := (t.chan c).y
        phase := (t.chan c).phase
        position := position
        revolutions := revolutions
        direction := direction
        divider := ch.ticked.divider
        intervalLatch := ch.ticked.timer
        timer := 0
        stall := false }
    ∧ (∀ n, t.leg n =
        match (s.leg n).phase with
        | .running a =>
          match a.seg.condition with
          | some cond =>
            if cond.chan = c ∧ cond.target.toNat = position
                ∧ (cond.dir = .either ∨ (cond.dir = .up ∧ up = true) ∨ (cond.dir = .down ∧ up = false))
            then { s.leg n with phase := .running { a with latch := true } } else s.leg n
          | none => s.leg n
        | _ => s.leg n)
    ∧ (∀ p, t.port p =
        if ch.direction ≠ direction ∧ (ch.subscribers.get p).direction = true then
          (s.port p).receiveCopy ⟨.direction direction position, .chan c, none, s.periodLow⟩
        else s.port p)
    ∧ t.rst = s.rst ∧ t.leases = s.leases ∧ t.leaseClock = s.leaseClock ∧ t.carrier = s.carrier
    ∧ t.sync = s.sync ∧ t.trip = s.trip ∧ t.pending = s.pending
    ∧ ∀ d, d ≠ c → t.chan d = s.chan d

/-- A change of accepted levels that counts, latches and measures nothing: the levels and the phase of the
channel follow, and nothing else changes (R130, R132). -/
def State.OnlyLevels (s t : State) (c : Chan) (x y z : Bool) : Prop :=
  ∃ fx fy fz : Filter, fx.level = x ∧ fy.level = y ∧ fz.level = z
    ∧ t = s.setChan c { s.chan c with x := fx, y := fy, z := fz, phase := phaseOf x y }

/-- A row whose event does not come, or cannot lie, at the sample in progress lets that sample pass: it does what
it does after it, and where it would change nothing then, it changes nothing now (log entries 4 and 16). -/
def LetsSamplePass (i : Instr) (s : State) : Prop :=
  (exec i s.sample ≠ .next s.sample → exec i s = exec i s.sample)
    ∧ (exec i s.sample = .next s.sample → exec i s = .next s)

/-- A change of a channel's inputs that counts no step, at a sample whose interval tick has not come yet: it
is taken after that tick (R139); at a sample whose tick belongs to a counted step that the filters accept there,
it lies at the next sample (log entry 16). -/
def TakenAfterTick (i : Instr) (c : Chan) (s : State) : Prop :=
  ((s.chan c).tickJoinsStep = false →
    ∃ t, exec (.intervalTick c) s = .next t ∧ (t.chan c).divider.due = false ∧ exec i s = exec i t)
  ∧ ((s.chan c).tickJoinsStep = true → LetsSamplePass i s)

/-- The row of a change that counts, latches and measures nothing: nothing but the levels changes, after the
interval tick of its sample if one comes there (R130, R132, R139). -/
def ChangesOnlyLevels (i : Instr) (c : Chan) (x y z : Bool) (s : State) : Prop :=
  ((s.chan c).divider.due = false → ∃ t, exec i s = .next t ∧ s.OnlyLevels t c x y z)
    ∧ ((s.chan c).divider.due = true → TakenAfterTick i c s)

/-! ### Port engines (R157, R171) -/

/-- The queues and counts of a port engine are within their bounds (R157). -/
def PortEngine.Bounded (e : PortEngine) : Prop :=
  e.commands.length ≤ 4 ∧ e.responses.length ≤ 4 ∧ e.notices.length ≤ 16 ∧ e.lost ≤ 255

/-- A port engine whose presence is low has empty queues, no lost notice, clear flags, a full mask and
no transaction but one that is ignored (R102, R158, R171, R172). -/
def PortEngine.AbsentEmpty (e : PortEngine) : Prop :=
  e.presence.level = false →
    e.commands = [] ∧ e.responses = [] ∧ e.notices = [] ∧ e.lost = 0 ∧ e.sticky = .clear
      ∧ e.mask = .all ∧ e.txn = none

/-- While CSNx of a port is low, its transaction is either in progress or ignored, not both (R158). -/
def PortEngine.OneTransaction (e : PortEngine) : Prop := e.ignoring = true → e.txn = none

/-- Every port engine is within its bounds, is empty while its presence is low, and has at most one
transaction. -/
def State.PortsOk (s : State) : Prop :=
  ∀ p, (s.port p).Bounded ∧ (s.port p).AbsentEmpty ∧ (s.port p).OneTransaction

/-- A port whose presence line is low holds no lease, has no waiter entry and no channel subscription
(R102, R154). -/
def State.AbsentHoldsNothing (s : State) : Prop :=
  ∀ p, (s.port p).presence.level = false →
    (∀ r, (s.lease r).holder? ≠ some p ∧ ∀ w ∈ (s.lease r).waiters, w.port ≠ p)
      ∧ ∀ c, (s.chan c).subscribers.get p = .empty

/-! ### The Lease Table (R73 to R76, R97, R105, R108) -/

/-- A lease record is as R73 and R75 allow: at most two waiters, at most one for each port, never the
holder; a HELD lease has a generation other than 0 and 1 ≤ remaining ≤ interval ≤ 10000; a FREE one
has no waiter. -/
def Lease.Ok (l : Lease) : Prop :=
  (l.waiters.map Waiter.port).Nodup ∧ l.waiters.length ≤ 2
    ∧ (∀ w ∈ l.waiters, 1 ≤ w.interval ∧ w.interval ≤ 10000)
    ∧ match l.phase with
      | .free => l.waiters = []
      | .held holder interval remaining _ =>
        (∀ w ∈ l.waiters, w.port ≠ holder) ∧ l.gen ≠ 0 ∧ 1 ≤ remaining ∧ remaining ≤ interval
          ∧ interval ≤ 10000
      | .releasing => l.gen ≠ 0

/-- RELEASING arises on the leg resources only (R74). -/
def State.LeasesOk (s : State) : Prop :=
  (∀ r, (s.lease r).Ok) ∧ (s.lease .carrier).phase ≠ .releasing
    ∧ ∀ c, (s.lease (.chan c)).phase ≠ .releasing

/-- A leg's plan belongs to its lease (R97, R105, R108): a FREE leg is IDLE or TRIPPED with an empty
queue; a RELEASING leg is RUNNING or HOLDING with an empty queue, and its active segment is cut by
LEASE; on a HELD leg every pending segment carries the current generation, and so does the active
segment unless it is cut by LEASE. -/
def planFenced (l : Lease) (u : LegUnit) : Prop :=
  match l.phase with
  | .free => u.atRest = true ∧ u.queue = []
  | .releasing => u.atRest = false ∧ u.queue = [] ∧ ∀ a, u.phase = .running a → a.cut = .lease
  | .held _ _ _ _ =>
    (∀ seg ∈ u.queue, seg.gen = l.gen)
      ∧ ∀ a, u.phase = .running a → a.seg.gen = l.gen ∨ a.cut = .lease

/-- Every leg's plan belongs to its lease (R108). -/
def State.PlansFenced (s : State) : Prop := ∀ n, planFenced (s.lease (.leg n)) (s.leg n)

/-! ### Leg Units and output stages (R3, R4, R6, R57, R62, R113, R117, R118) -/

/-- What a Leg Unit holds in each state: a pending queue of at most 8 segments, empty while TRIPPED;
an elapsed count of at most 4095; the cycle cut and the limited mark only while RUNNING or HOLDING,
and no limited run while IDLE; counts of one byte. -/
def LegUnit.Ok (u : LegUnit) : Prop :=
  u.queue.length ≤ 8
    ∧ (u.phase.isTripped = true → u.queue = [])
    ∧ (∀ a, u.phase = .running a → a.elapsed ≤ 4095)
    ∧ (u.phase.driving = false → u.stage.cycleCut = false ∧ u.limited = false)
    ∧ (u.phase = .idle → u.runCount = 0)
    ∧ u.tripCount ≤ 255 ∧ u.runCount ≤ 255
    ∧ u.config.deadTime ≤ 255 ∧ u.config.escalation ≤ 255

/-- Every Leg Unit is as its rules allow. -/
def State.LegsOk (s : State) : Prop := ∀ n, (s.leg n).Ok

/-- An output stage follows its leg: its reference and demands are those of its source at the carrier
count (R58 to R61), no sample left both its sides on (R62), and its counts fit a byte (R57). -/
def LegUnit.StageFollows (u : LegUnit) (counter : Nat) : Prop :=
  u.stage.reference = u.referenceAt counter
    ∧ (u.stage.high.demand, u.stage.low.demand) = u.demandsAt counter
    ∧ ¬ (u.stage.high.driven = true ∧ u.stage.low.driven = true)
    ∧ u.stage.high.count ≤ 255 ∧ u.stage.low.count ≤ 255

/-- Every output stage follows its leg. -/
def State.StagesFollow (s : State) : Prop := ∀ n, (s.leg n).StageFollows s.carrier.counter

/-- At no time are both gate outputs of a leg on (R62). -/
def State.NeverBothOn (s : State) : Prop := ∀ n, ¬ (s.gateHigh n = true ∧ s.gateLow n = true)

/-! ### The Carrier Timer (R26, R30, R34, R40) -/

/-- The Carrier Timer is within its ranges: periods 16 to 65535, sync limit 1 to 1023, slope RISING in
EDGE mode, active period equal to the preload and no lead-in while STOPPED, and the counter between 0
and the active period while RUNNING. -/
def Carrier.Ok (t : Carrier) : Prop :=
  16 ≤ t.active ∧ t.active ≤ 65535 ∧ 16 ≤ t.preload ∧ t.preload ≤ 65535
    ∧ 1 ≤ t.syncLimit ∧ t.syncLimit ≤ 1023 ∧ t.counter ≤ 65535
    ∧ (t.mode = .edge → t.slope = .rising)
    ∧ (t.run = .stopped → t.active = t.preload ∧ t.leadIn = false)
    ∧ (t.run = .running → t.counter ≤ t.active)

/-- The Carrier Timer is within its ranges, and no leg is RUNNING or HOLDING while it is STOPPED or in
a lead-in (R30, R40). -/
def State.CarrierOk (s : State) : Prop :=
  s.carrier.Ok
    ∧ (s.carrier.run = .stopped ∨ s.carrier.leadIn = true → ∀ n, (s.leg n).atRest = true)

/-! ### The Sync Unit (R43, R48) -/

/-- A wait count never exceeds 1023, and a leg in the holding-leg set of a mark is HOLDING with a head
that carries the mark (R43, R48). -/
def State.SyncOk (s : State) : Prop :=
  ∀ m, (s.mark m).wait ≤ 1023
    ∧ ∀ n, (s.mark m).holding.get n = true →
      (∃ h, (s.leg n).phase = .holding h) ∧ ∃ f, (s.leg n).headSync = some f ∧ f.mark = m

/-! ### Position Channels (R128, R131, R132, R136) -/

/-- A channel is within its ranges: the position lies below the modulus, the phase is that of the
accepted levels, and the timer holds 0 in OFF and in WAIT_FIRST of CAPTURE. -/
def Channel.Ok (ch : Channel) : Prop :=
  2 ≤ ch.config.modulus ∧ ch.config.modulus ≤ 65536 ∧ ch.position < ch.config.modulus
    ∧ ch.phase = phaseOf ch.x.level ch.y.level
    ∧ ch.timer ≤ 65535 ∧ ch.intervalLatch ≤ 65535 ∧ ch.indexLatch ≤ 65535
    ∧ ch.widthLatch ≤ 65535 ∧ ch.periodLatch ≤ 65535
    ∧ (ch.timerRuns = false → ch.timer = 0)

/-- Every channel is within its ranges. -/
def State.ChannelsOk (s : State) : Prop := ∀ c, (s.chan c).Ok

end Sys2Proof.Machine
end

