-- ==== Sys2Proof/Certificates/Slice0/Obligations.lean ====
section
/-! DEFINITION. The statements for the provers. Each says what a command, an event or the part does by
the rules that its docstring cites; where it rests on a choice of the model, the docstring names the log
entry. A command is stated at a port that is `Ready` for it, an event of a part that is `Awake`; what
happens to a command at any other port is `Obligations.CommandWaitsIsDroppedOrIgnored`. -/

open Sys2Proof Sys2Proof.Machine

/-! ### The machine -/

/-- A step of a block takes the command at the front of its queue and runs it with the rest of the
queue (log entry 2: the queue is the model's own). -/
def Obligations.StepTakesFrontOfQueue : Prop :=
  ∀ (i : Instr) (rest : List Instr) (s : State),
    step (s.setPending (i :: rest)) = exec i (s.setPending rest)

/-- Every command and event is taken to its end in every state of the part: `exec` answers a next
state (R164: each command taken is answered; R165: a refusal is an answer; R176: in reset nothing is
taken). That a row whose event cannot arise answers next too, with nothing changed, is the model's choice
(log entry 6), and so is the queue of waiting rows, which is the model's own field and not `exec`'s to
change (log entries 2 and 8). -/
def Obligations.EveryRowAnswersNext : Prop :=
  ∀ (i : Instr) (s : State), ∃ t, exec i s = .next t ∧ t.pending = s.pending

/-- When no command waits, a step is one sample of the core clock (the model's choice, log entry 2; what falls
due together at it comes in a free order, log entry 21). Out of reset the lease clock gives a tick
every 6000 samples (R87), and the carrier's divider runs while RUNNING, gives the tick of CARRIER_TICK at its
last sample, and stands while STOPPED (R27). The interval divider of a channel runs in every mode (R139); at
its last sample, where no input of the channel is accepted, the channel is left as by INTERVAL_TICK, and at
any other such sample as it was. A divider that was started, or gave its tick, at this very sample does not
count it (DEDUCED, log entry 14). Each input filter
counts the samples at which its pin is not at the accepted level, starts again when it is, and accepts the
pin at the last of its width: 8 samples for TRIP0, 64 for TRIP1, ARM and PRESx (R110, R171), and 0, 4, 8 or 16
for an input of a channel (R130). Each side of an output stage is judged with the demands that stand after
the sample: without a demand it is off and its count is 0; with one, while the other side has none, it stays
on, or turns on if its count is at the dead time or above, and its count rises by one, up to 255 (R62, R63).
In reset nothing runs but the samples for which a source still asserts and, once both have let go, the
stretch; its 60th sample is the release, with the levels on the pins (R176; log entry 10). -/
def Obligations.IdleStepIsOneSample : Prop :=
  ∀ s : State, s.pending = [] →
    let accepts := fun (width : Nat) (before after : Filter) =>
      (before.pin = before.level → after = ⟨before.pin, before.level, 0⟩)
      ∧ (before.pin ≠ before.level →
          (width ≤ before.count + 1 → after = ⟨before.pin, before.pin, 0⟩)
          ∧ (before.count + 1 < width → after = ⟨before.pin, before.level, before.count + 1⟩))
    let waits := fun (width : Nat) (f : Filter) => f.pin = f.level ∨ f.count + 1 < width
    let ticks := fun (d : Divider) => d.fresh = false ∧ d.toTick ≤ 1
    let passes := fun (d d' : Divider) (reload : Nat) =>
      (d.fresh = true → d' = ⟨d.toTick, false⟩) ∧ (ticks d → d' = ⟨reload, false⟩)
      ∧ (d.fresh = false → 2 ≤ d.toTick → d' = ⟨d.toTick - 1, false⟩)
    (s.rst.inReset = false →
      ∃ t, step s = .next t ∧ t = s.sample
        ∧ passes s.leaseClock.divider t.leaseClock.divider 6000
        ∧ (ticks s.leaseClock.divider → t.leaseClock.number = s.leaseClock.number + 1)
        ∧ (¬ ticks s.leaseClock.divider → t.leaseClock.number = s.leaseClock.number)
        ∧ (s.carrier.run = .running →
            passes s.carrier.divider t.carrier.divider (2 ^ s.carrier.prescale.val))
        ∧ (s.carrier.run = .running → ¬ ticks s.carrier.divider →
            t.carrier = { s.carrier with divider := t.carrier.divider })
        ∧ (s.carrier.run = .running → ticks s.carrier.divider →
            ∃ t0, exec .carrierTick s = .next t0
              ∧ t.carrier = { t0.carrier with divider := t.carrier.divider })
        ∧ (s.carrier.run = .stopped → t.carrier = s.carrier)
        ∧ accepts 8 s.trip.trip0 t.trip.trip0 ∧ accepts 64 s.trip.trip1 t.trip.trip1
        ∧ accepts 64 s.trip.arm t.trip.arm
        ∧ (∀ p, accepts 64 (s.port p).presence (t.port p).presence)
        ∧ (∀ c,
            let width :=
              match (s.chan c).config.filter with
              | .w0 => 0
              | .w4 => 4
              | .w8 => 8
              | .w16 => 16
            let ch := s.chan c
            let ch' := t.chan c
            let rest := fun (k : Channel) =>
              { k with
                x := ch'.x, y := ch'.y, z := ch'.z, phase := ch'.phase, divider := ch'.divider
                subscribers := ch'.subscribers }
            accepts width ch.x ch'.x ∧ accepts width ch.y ch'.y ∧ accepts width ch.z ch'.z
            ∧ passes ch.divider ch'.divider (2 ^ ch.config.prescale.val)
            ∧ (waits width ch.x → waits width ch.y → waits width ch.z →
                (¬ ticks ch.divider → ch' = rest ch)
                ∧ (ticks ch.divider →
                  ∃ t0, exec (.intervalTick c) s = .next t0 ∧ ch' = rest (t0.chan c))))
        ∧ ∀ n,
            let u := s.leg n
            let high := (t.leg n).stage.high
            let low := (t.leg n).stage.low
            (low.demand = false →
              high = SideState.judged { u.stage.high with demand := high.demand } u.config.deadTime
                ∧ low = ⟨false, false, 0⟩)
            ∧ (high.demand = false →
              low = SideState.judged { u.stage.low with demand := low.demand } u.config.deadTime
                ∧ high = ⟨false, false, 0⟩))
    ∧ (s.rst.inReset = true →
      ((0 < s.rst.rstLow ∨ 0 < s.rst.porHold) →
        step s = .next (s.setRst
          { s.rst with rstLow := s.rst.rstLow - 1, porHold := s.rst.porHold - 1 }))
      ∧ (s.rst.rstLow = 0 → s.rst.porHold = 0 →
        (s.rst.stretch < 59 →
          step s = .next (s.setRst { s.rst with stretch := s.rst.stretch + 1 }))
        ∧ (59 ≤ s.rst.stretch → step s = exec (.resetRelease s.pins) s)))

/-! ### Encodings (10.9) -/

/-- Decode and encode agree on every host command: the frame of a command within the encodings of 10.9
passes the frame check of R163 as it stands on the wire, and decodes to that command with every field. -/
def Obligations.FrameRoundTrip : Prop :=
  ∀ (i : Instr) (p : Port) (f : Frame), i.wf = true → encodeFrame i = some (p, f) →
    checkFrame f.bytes false = .good f ∧ decodeFrame p f = some i

/-- Decode and encode agree on every segment argument that R1 and R2 allow: kind, duty, sides, length,
condition, sync field, tag, notify and final all come back, with the generation that the command stamps. -/
def Obligations.SegmentRoundTrip : Prop :=
  ∀ (own : Leg) (seg : Segment),
    (∀ n, seg.length = some n → 1 ≤ n ∧ n ≤ 4095) →
    (∀ f, seg.sync = some f → f.legs.get own = true ∧ 2 ≤ legCount f.legs) →
    parseSegment own seg.gen (encodeSegment seg) = some seg

/-- A segment argument is read exactly when it is not malformed: the reader of `Decode` and the check of
`WellFormed`, written apart from each other from R2 and the layout of 10.9, agree on every string of
bytes. -/
def Obligations.SegmentReadExactlyWhenWellFormed : Prop :=
  ∀ (b : Byte) (own : Leg) (g : Half) (bytes : List Byte), legOf b = some own →
    (parseSegment own g bytes).isSome = segmentOk b bytes

/-- Frames written out from 10.9 decode to the commands they stand for, a segment argument written out
decodes to its segment, and the CRC of the nine characters "123456789" is 0x29B1 (R162). -/
def Obligations.WrittenFramesDecode : Prop :=
  crc16 [0x31, 0x32, 0x33, 0x34, 0x35, 0x36, 0x37, 0x38, 0x39] = 0x29B1
    ∧ decodeFrame .a ⟨0x01, 0x07, []⟩ = some (.nop .a 0x07)
    ∧ decodeFrame .b ⟨0x10, 0x2A, [0x01, 0x03, 0xE8, 0x01]⟩ = some (.claim .b 0x2A 1 1000 1)
    ∧ decodeFrame .c ⟨0x14, 0x00, [0x04, 0x27, 0x10]⟩ = some (.seize .c 0 4 10000)
    ∧ decodeFrame .a ⟨0x24, 0x01, [0x02, 0x00, 0x05, 0x3C, 0x07, 0x0A]⟩
        = some (.setLeg .a 1 2 5 60 7 10)
    ∧ decodeFrame .a ⟨0x31, 0x02, [0x00, 0x03, 0x01, 0x07]⟩ = some (.setCarrier .a 2 3 1 7)
    ∧ decodeFrame .b ⟨0x40, 0x03, [0x01, 0x00, 0x09, 0x01, 0x02, 0x0F, 0xFF, 0x06, 0x03]⟩
        = some (.setChannel .b 3 1 9 1 2 4095 6 3)
    ∧ decodeFrame .c ⟨0x99, 0x04, [0x01]⟩ = some (.unknown .c 4 0x99 [0x01])
    ∧ parseSegment .l2 3
        [0x37, 0x0A, 0x00, 0x03, 0x03, 0x84, 0x00, 0x81, 0x10, 0x00, 0x02, 0x07]
        = some ⟨.modulate 900 .both, some 3, some ⟨.c1, .down, 4096⟩,
            some ⟨.m2, ⟨true, true, true, false⟩⟩, 10, .both, false, 3⟩
    ∧ parseSegment .l0 1 [0x60, 0x0B, 0xFF, 0xFF]
        = some ⟨.fixedHigh, none, none, none, 11, .finish, false, 1⟩

/-! ### How a command reaches its block (R163 to R165) -/

/-- Check 2 of R165 comes before every check but that of the code: a command with an argument outside
its encoding or range is answered BAD_ARG with no data, whatever the lease, and nothing else changes. -/
def Obligations.BadArgumentsAnswered : Prop :=
  ∀ (i : Instr) (p : Port) (f : Frame) (s : State),
    encodeFrame i = some (p, f) → (opcodeOf f.code).isSome = true →
    (∀ q n c as, i ≠ .unknown q n c as) → s.Ready p → s.argsOk i = false →
    exec i s = .next (s.answered p ⟨f.seq, f.code, .badArg, []⟩)

/-- The fencing of every leased command (R78, R79): from a port that does not hold the resource it is
refused NOT_HOLDER with the lease state and the holder, whatever its generation; from the holder with
another generation it is refused STALE with the current generation. Nothing else changes. -/
def Obligations.LeasedCommandsFenced : Prop :=
  ∀ (i : Instr) (p : Port) (f : Frame) (r : Resource) (g : Half) (s : State),
    encodeFrame i = some (p, f) → leasedOn i = some (r, g) → s.Ready p → s.argsOk i = true →
    ((s.lease r).holder? ≠ some p →
      exec i s = .next (s.answered p
        ⟨f.seq, f.code, .notHolder,
          [BitVec.ofNat 8 (s.lease r).phase.code, BitVec.ofNat 8 (portCode (s.lease r).holder?)]⟩))
    ∧ ((s.lease r).holder? = some p → g ≠ (s.lease r).gen →
      exec i s = .next (s.answered p ⟨f.seq, f.code, .stale, be16 (s.lease r).gen⟩))

/-- A host command at a port that cannot take it at once joins the tail of the command queue, or is
dropped with DROPPED when four wait already (R163, R164); at a port whose presence is low, and during
part reset, it is ignored (R171, R176). That a row of the table stands for a frame that passed its
check is the model's reading (log entry 3). -/
def Obligations.CommandWaitsIsDroppedOrIgnored : Prop :=
  ∀ (i : Instr) (p : Port) (f : Frame) (s : State),
    encodeFrame i = some (p, f) → decodeFrame p f = some i →
    ((s.rst.inReset = true ∨ (s.port p).presence.level = false) → exec i s = .next s)
    ∧ (s.rst.inReset = false → (s.port p).presence.level = true →
        ((s.port p).commands ≠ [] ∨ 4 ≤ (s.port p).responses.length) →
        (((s.port p).commands.length < 4 →
            exec i s = .next (s.updPort p fun e => { e with commands := e.commands ++ [f] }))
          ∧ (4 ≤ (s.port p).commands.length →
            exec i s = .next
              (s.updPort p fun e => { e with sticky := { e.sticky with dropped := true } }))))

/-- COMMAND_TRANSACTION, whose slot 0 is the opener 0x3C (R159), with a good frame from slot 1 on does at
its rise of CSNx exactly what the command of that frame does, after the sticky flags that the transaction
showed are cleared (R161, R163, R164). A frame with the wrong number of argument bytes is answered BAD_ARG
(R165). -/
def Obligations.CommandTransactionRunsItsCommand : Prop :=
  ∀ (p : Port) (t : Transaction) (f : Frame) (s : State),
    s.Awake → (s.port p).presence.level = true →
    ((s.port p).commands ≠ [] → 4 ≤ (s.port p).responses.length) →
    (s.port p).ignoring = false → (s.port p).txn = some t → t.opener = none → f.args.length ≤ 30 →
    let s' := s.updPort p fun e =>
      { e with
        txn := none
        sticky :=
          ⟨e.sticky.dropped && !t.shown.dropped, e.sticky.crcFault && !t.shown.crcFault,
            e.sticky.framing && !t.shown.framing⟩ }
    (∀ i, decodeFrame p f = some i → exec (.commandTransaction p (0x3C :: f.bytes) false) s = exec i s')
    ∧ (decodeFrame p f = none → s.Ready p →
        exec (.commandTransaction p (0x3C :: f.bytes) false) s
          = .next (s'.answered p ⟨f.seq, f.code, .badArg, []⟩))

/-- The frame check of a COMMAND transaction, whose slot 0 is the opener 0x3C and whose frame starts in slot 1
(R159, R163): a fault of framing sets FRAMING, else a wrong CRC
sets CRC_FAULT, else a full command queue sets DROPPED, and a faulty frame has no other effect; a good
frame joins the queue, where it waits while the response queue is full. The flags that the transaction
showed are cleared first, if slot 1 was completed (R161). -/
def Obligations.CommandFrameChecked : Prop :=
  ∀ (p : Port) (t : Transaction) (bytes : List Byte) (ragged : Bool) (s : State),
    s.Awake → (s.port p).ignoring = false → (s.port p).txn = some t → t.opener = none →
    ((s.port p).commands ≠ [] → 4 ≤ (s.port p).responses.length) →
    let flags : Sticky :=
      if bytes = [] then (s.port p).sticky
      else
        ⟨(s.port p).sticky.dropped && !t.shown.dropped,
          (s.port p).sticky.crcFault && !t.shown.crcFault,
          (s.port p).sticky.framing && !t.shown.framing⟩
    let badFraming := ragged = true ∨ bytes = [] ∨ (bytes.headD 0).toNat < 2
      ∨ 32 < (bytes.headD 0).toNat ∨ bytes.length ≠ 1 + (bytes.headD 0).toNat + 2
    (badFraming →
      exec (.commandTransaction p (0x3C :: bytes) ragged) s
        = .next (s.updPort p fun e => { e with txn := none, sticky := { flags with framing := true } }))
    ∧ ∀ (len code seq h l : Byte) (args : List Byte), bytes = len :: code :: seq :: (args ++ [h, l]) →
      ¬ badFraming →
      (join16 h l ≠ crc16 (len :: code :: seq :: args) →
        exec (.commandTransaction p (0x3C :: bytes) ragged) s
          = .next (s.updPort p fun e =>
              { e with txn := none, sticky := { flags with crcFault := true } }))
      ∧ (join16 h l = crc16 (len :: code :: seq :: args) → 4 ≤ (s.port p).commands.length →
        exec (.commandTransaction p (0x3C :: bytes) ragged) s
          = .next (s.updPort p fun e =>
              { e with txn := none, sticky := { flags with dropped := true } }))
      ∧ (join16 h l = crc16 (len :: code :: seq :: args) → (s.port p).commands.length < 4 →
        4 ≤ (s.port p).responses.length →
        exec (.commandTransaction p (0x3C :: bytes) ragged) s
          = .next (s.updPort p fun e =>
              { e with txn := none, sticky := flags, commands := e.commands ++ [⟨code, seq, args⟩] }))

/-! ### Port engines (chapter 10) -/

/-- NOP is answered OK with no data (R175); a frame whose CODE names no command is answered UNKNOWN with
no data (R165); SET_NOTICE_MASK sets the mask to the classes named and answers with the mask it replaced
(R174). Nothing else changes. -/
def Obligations.PortCommandsAnswered : Prop :=
  ∀ (p : Port) (seq code k : Byte) (args : List Byte) (s : State), s.Ready p →
    exec (.nop p seq) s = .next (s.answered p ⟨seq, 0x01, .ok, []⟩)
    ∧ (opcodeOf code = none →
        exec (.unknown p seq code args) s = .next (s.answered p ⟨seq, code, .unknown, []⟩))
    ∧ (k.toNat < 16 →
        exec (.setNoticeMask p seq k) s
          = .next ((s.updPort p fun e =>
              { e with mask := ⟨k.getLsbD 0, k.getLsbD 1, k.getLsbD 2, k.getLsbD 3⟩ }).answered p
                ⟨seq, 0x03, .ok, [(s.port p).mask.mask]⟩))

/-- The queries of 10.9 and READ_SNAPSHOT are answered OK from any port, whatever the leases, and change
nothing but the response queue of the port that asks (R22, R39, R55, R71, R92, R126, R147, R152, R175).
No answer has more than 77 data bytes (R166). -/
def Obligations.QueriesChangeNothing : Prop :=
  ∀ (p : Port) (seq b : Byte) (s : State), s.Ready p → s.LegsOk → s.LeasesOk →
    let answers := fun (i : Instr) (code : Byte) =>
      ∃ data : List Byte, data.length ≤ 77
        ∧ exec i s = .next (s.answered p ⟨seq, code, .ok, data⟩)
    answers (.queryPort p seq) 0x02
    ∧ (b.toNat ≤ 6 → answers (.queryLease p seq b) 0x16)
    ∧ (b.toNat ≤ 3 → answers (.queryLeg p seq b) 0x25)
    ∧ (b.toNat ≤ 3 → answers (.queryOutput p seq b) 0x26)
    ∧ answers (.queryTrip p seq) 0x28
    ∧ answers (.queryCarrier p seq) 0x35
    ∧ answers (.querySync p seq) 0x36
    ∧ (b.toNat ≤ 1 → answers (.queryChannel p seq b) 0x42)
    ∧ answers (.readSnapshot p seq) 0x44

/-- What the queries and READ_SNAPSHOT answer, item by item in the order of their rules (QUERY_LEASE R92,
QUERY_LEG R22, QUERY_OUTPUT R71, QUERY_TRIP R126, QUERY_SYNC R55, QUERY_CHANNEL R147, QUERY_PORT R175,
QUERY_CARRIER R39, READ_SNAPSHOT R152) and of the layout of 10.9. Widths and coding follow R166 (DEDUCED, log
entry 12; the kind of a held idle pattern, log entry 13). The levels of QUERY_OUTPUT are those on the pins,
which are off without a demand (R57). -/
def Obligations.QueryAnswersHold : Prop :=
  ∀ (p : Port) (seq b : Byte) (s : State), s.Ready p →
    let e := s.port p
    let t := s.carrier
    let byte := fun (n : Nat) => BitVec.ofNat 8 n
    let two := fun (n : Nat) => be16 (BitVec.ofNat 16 n)
    let role := fun (q : Port) =>
      [(if (s.port q).role = .supervisor then (1 : Byte) else 0),
        (if (s.port q).presence.level = true then (1 : Byte) else 0)]
    let chan := fun (c : Chan) =>
      let ch := s.chan c
      [byte (ch.config.mode.code + 8 * ch.direction.code + if ch.stall then 32 else 0)]
        ++ two ch.position ++ be16 ch.revolutions
        ++ two (if ch.config.mode = .capture then ch.widthLatch else ch.intervalLatch)
        ++ two (if ch.config.mode = .capture then ch.periodLatch else ch.indexLatch)
    let leg := fun (n : Leg) =>
      match (s.leg n).phase with
      | .idle => [byte (0 + 8 * (s.leg n).queue.length), 0]
      | .running a => [byte (1 + 4 + 8 * (s.leg n).queue.length), a.seg.tag]
      | .holding _ => [byte (2 + 8 * (s.leg n).queue.length), 0]
      | .tripped _ => [byte (3 + 8 * (s.leg n).queue.length), 0]
    let flag := fun (x : Bool) => if x then (1 : Byte) else 0
    let bits := fun (xs : List Bool) => byte (xs.foldr (fun x n => (if x then 1 else 0) + 2 * n) 0)
    let maybe := fun (x : Option Byte) => match x with
      | some v => [1, v]
      | none => ([0, 0] : List Byte)
    let kinds := fun (k : Kinds) => bits [k.direction, k.stall, k.index, k.phaseError, k.capture]
    let cause := fun (c : Cause) => match c with
      | .trip0 => (0 : Byte)
      | .trip1 => 1
      | .disarm => 2
      | .escalated => 3
    let record := fun (r : TripRecord) =>
      [cause r.first] ++ be32 r.period ++ maybe r.tag
        ++ [bits [r.further.trip0, r.further.trip1, r.further.disarm, r.further.escalated],
          flag r.rearm]
    let low := fun (x : Pattern) => flag (decide (x = .low))
    let drive := fun (d : Drive) => match d with
      | .modulate duty sides =>
        [(0 : Byte), 1] ++ be16 duty ++ [1, match sides with
          | .both => 0
          | .highOnly => 1
          | .lowOnly => 2]
      | .fixedHigh => [1, 0, 0, 0, 0, 0]
      | .fixedLow => [2, 0, 0, 0, 0, 0]
      | .float => [3, 0, 0, 0, 0, 0]
    let pattern := fun (x : Pattern) => [low x, 0, 0, 0, 0, 0]
    let legState := fun (u : LegUnit) => match u.phase with
      | .idle => (0 : Byte)
      | .running _ => 1
      | .holding _ => 2
      | .tripped _ => 3
    let answers := fun (i : Instr) (code : Byte) (data : List Byte) =>
      exec i s = .next (s.answered p ⟨seq, code, .ok, data⟩)
    (∀ r, resourceOf b = some r →
      let l := s.lease r
      answers (.queryLease p seq b) 0x16
        ([b] ++ (match l.phase with
          | .free => [0, 0] ++ be16 l.gen ++ [0, 0, 0, 0, 0, 0]
          | .held holder interval remaining warned =>
            [1, byte holder.number] ++ be16 l.gen ++ [1] ++ two interval ++ two remaining
              ++ [flag warned]
          | .releasing => [2, 0] ++ be16 l.gen ++ [0, 0, 0, 0, 0, 0])
          ++ [byte l.waiters.length]
          ++ l.waiters.flatMap fun w => [byte w.port.number] ++ two w.interval))
    ∧ (∀ n, legOf b = some n →
      let u := s.leg n
      let g := u.stage
      answers (.queryLeg p seq b) 0x25
        ([legState u]
          ++ (match u.phase with
            | .running a =>
              [1, a.seg.tag, 1] ++ be16 a.seg.gen ++ two a.elapsed
                ++ [flag a.latch, match a.cut with
                  | .none => 0
                  | .host => 1
                  | .lease => 2]
            | _ => [0, 0, 0, 0, 0, 0, 0, 0, 0])
          ++ (match u.phase with
            | .holding (.segment _) => [1, 0]
            | .holding .idlePattern => [1, 1]
            | _ => [0, 0])
          ++ [byte u.queue.length] ++ u.queue.map Segment.tag
          ++ [byte u.config.deadTime, low u.config.idlePattern, low u.config.tripPattern,
            flag (decide (u.config.response = .cycle)), byte u.config.escalation]
          ++ (match u.phase with
            | .tripped r => [1] ++ record r
            | _ => [0, 0, 0, 0, 0, 0, 0, 0, 0, 0])
          ++ [byte u.tripCount])
      ∧ answers (.queryOutput p seq b) 0x26
        ((match u.phase with
          | .running a => [0] ++ drive a.seg.drive
          | .holding (.segment d) => [1] ++ drive d
          | .holding .idlePattern => [1] ++ pattern u.config.idlePattern
          | .idle => [2] ++ pattern u.config.idlePattern
          | .tripped _ => [3] ++ pattern u.config.tripPattern)
          ++ [flag g.reference, flag g.cycleCut, flag g.high.demand, flag g.low.demand,
            flag (g.high.demand && g.high.driven), flag (g.low.demand && g.low.driven),
            if g.high.demand then byte g.high.count else 0,
            if g.low.demand then byte g.low.count else 0, byte u.config.deadTime]))
    ∧ (let each := fun (f : Leg → List Byte) => f .l0 ++ f .l1 ++ f .l2 ++ f .l3
      answers (.queryTrip p seq) 0x28
        ([flag s.trip.trip0.level, flag s.trip.trip1.level, flag s.trip.arm.level]
          ++ each (fun n =>
            let u := s.leg n
            [legState u, flag (decide (u.config.response = .cycle)), byte u.config.escalation,
              flag u.stage.cycleCut, flag u.limited, byte u.runCount, byte u.tripCount])
          ++ each (fun n => match (s.leg n).phase with
            | .tripped r => record r
            | _ => [])
          ++ each (fun n => match (s.leg n).phase with
            | .tripped r =>
              [bits [s.trip.trip0.level && (decide ((s.leg n).config.response = .latch)
                  || decide (r.first = .escalated)), s.trip.trip1.level, !s.trip.arm.level, false]]
            | _ => [])))
    ∧ answers (.querySync p seq) 0x36
        (two t.syncLimit ++ Mark.all.flatMap fun m =>
          two (s.mark m).wait
            ++ [bits [(s.mark m).holding.l0, (s.mark m).holding.l1, (s.mark m).holding.l2,
              (s.mark m).holding.l3]])
    ∧ (∀ c, chanOf b = some c →
      let ch := s.chan c
      answers (.queryChannel p seq b) 0x42
        ([byte ch.config.mode.code, byte ch.config.filter.code] ++ two (ch.config.modulus - 1)
          ++ [byte ch.config.indexUse.code, byte ch.config.edge.code, byte ch.config.prescale.val,
            flag ch.x.level, flag ch.y.level, flag ch.z.level, byte ch.phase]
          ++ two ch.position ++ be16 ch.revolutions ++ [byte ch.direction.code]
          ++ two ch.timer ++ two ch.intervalLatch ++ two ch.indexLatch
          ++ [flag (decide (ch.capture = .measuring)), flag ch.widthTaken]
          ++ two ch.widthLatch ++ two ch.periodLatch ++ [flag ch.stall]
          ++ [kinds ch.subscribers.a, kinds ch.subscribers.b, kinds ch.subscribers.c]))
    ∧ [ChanMode.off, .quad, .stepDir, .upDown, .capture].map ChanMode.code = [0, 1, 2, 3, 4]
    ∧ [FilterWidth.w0, .w4, .w8, .w16].map FilterWidth.code = [0, 1, 2, 3]
    ∧ [IndexUse.off, .latch, .latchAndZero].map IndexUse.code = [0, 1, 2]
    ∧ [ActiveEdge.rising, .falling].map ActiveEdge.code = [0, 1]
    ∧ [Direction.none, .up, .down].map Direction.code = [0, 1, 2]
    ∧ exec (.queryPort p seq) s
      = .next (s.answered p ⟨seq, 0x02, .ok,
          [byte p.number] ++ role .a ++ role .b ++ role .c
            ++ [e.mask.mask, byte e.notices.length, byte e.lost, 0]
            ++ be32 s.leaseClock.number ++ two s.leaseClock.divider.toTick⟩)
    ∧ exec (.queryCarrier p seq) s
      = .next (s.answered p ⟨seq, 0x35, .ok,
          [if t.run = .running then 1 else 0, if t.leadIn then 1 else 0,
            if t.mode = .edge then 1 else 0, byte t.prescale.val]
            ++ two t.active ++ two t.preload ++ two t.counter
            ++ [if t.slope = .rising then 1 else 0] ++ be32 t.period ++ two t.syncLimit⟩)
    ∧ exec (.readSnapshot p seq) s
      = .next (s.answered p ⟨seq, 0x44, .ok,
          two t.counter
            ++ [byte ((if t.run = .running then 1 else 0) + if t.slope = .rising then 2 else 0)]
            ++ be32 t.period ++ chan .c0 ++ chan .c1 ++ leg .l0 ++ leg .l1 ++ leg .l2 ++ leg .l3⟩)

/-- STATUS_CAPTURE, FETCH_FRAME_FIXED, FRAMING_FAULT, and which row ends a transaction. At the fall of CSNx
both status bytes and the sticky flags are captured together (R160); a transaction that begins while presence
is low or during part reset is ignored to its end, and so its end has no effect, whatever came in between
(R158, R171, R177). At the end of slot 1 of a fetch the frame to be sent is the head of the named queue, or
the empty marker (R167). An opener that is none of 0x3C, 0xC3 and 0x5A, or an incomplete one, sets FRAMING at
the rise, after the flags that were shown are cleared if slot 1 was completed, and has no further effect
(R159, R161). SDOx is high impedance with no transaction, in an ignored one, while presence is low and during
part reset (R158, R177); in every other transaction it sends the two status bytes captured in slots 0 and 1,
and from slot 2 on the frame fixed for a fetch and then 0x00, or 0x00 alone (R158, R159, R160, R167). A row
whose bytes select another kind of transaction changes nothing (log entry 6). Where no
STATUS_CAPTURE came, a later event of the transaction brings it with it (the model's reading, log entry
19). -/
def Obligations.TransactionEvents : Prop :=
  ∀ (p : Port) (q : FetchQueue) (t : Transaction) (bytes rest : List Byte) (ragged : Bool) (s : State),
    let faulty := bytes = [] ∨ ∃ b tl, bytes = b :: tl ∧ b ≠ 0x3C ∧ b ≠ 0xC3 ∧ b ≠ 0x5A
    ((s.rst.inReset = true ∨ (s.port p).presence.level = false) →
      exec (.statusCapture p) s = .next (s.updPort p fun e => { e with txn := none, ignoring := true }))
    ∧ ((s.rst.inReset = true ∨ (s.port p).presence.level = false ∨ (s.port p).ignoring = true
        ∨ (s.port p).txn = none) → ∀ slot, s.sdoByte p slot = none)
    ∧ ((s.port p).ignoring = true →
      ∀ i : Instr, (i = .commandTransaction p bytes ragged ∨ i = .fetchResponse p bytes
          ∨ i = .fetchNotice p bytes ∨ i = .framingFault p bytes) →
        exec i s = .next (s.updPort p fun e => { e with ignoring := false }))
    ∧ (s.Awake → (s.port p).presence.level = true → (s.port p).commands.length ≤ 4 →
      (s.port p).responses.length ≤ 4 →
      ∃ b1 b2 : Byte,
        exec (.statusCapture p) s
          = .next (s.updPort p fun e =>
              { e with txn := some ⟨b1, b2, e.sticky, none, 0, none⟩, ignoring := false })
        ∧ (∀ s', exec (.statusCapture p) s = .next s' →
            s'.sdoByte p 0 = some b1 ∧ s'.sdoByte p 1 = some b2 ∧ ∀ k, s'.sdoByte p (k + 2) = some 0)
        ∧ b1.toNat = 16 * (4 - (s.port p).commands.length) + (s.port p).responses.length
        ∧ b2.getLsbD 7 = !(s.port p).notices.isEmpty ∧ b2.getLsbD 6 = decide (0 < (s.port p).lost)
        ∧ b2.getLsbD 5 = (s.port p).sticky.dropped ∧ b2.getLsbD 4 = (s.port p).sticky.crcFault
        ∧ b2.getLsbD 3 = (s.port p).sticky.framing ∧ b2.toNat % 8 = 0)
    ∧ (s.Awake → (s.port p).txn = some t → t.opener = none →
        exec (.fetchFrameFixed p q) s
          = .next (s.updPort p fun e =>
              { e with txn := some { t with
                  opener := some (match q with | .responses => 0xC3 | .notices => 0x5A)
                  bytes := 2
                  fixed := some
                    (match q, e.responses, e.notices with
                    | .responses, r :: _, _ => .frame r.bytes
                    | .notices, _, n :: _ => .frame n.bytes
                    | .responses, [], _ | .notices, _, [] => .marker) } })
        ∧ ((s.port p).presence.level = true → (s.port p).ignoring = false →
          ∀ s', exec (.fetchFrameFixed p q) s = .next s' →
            s'.sdoByte p 0 = some t.status1 ∧ s'.sdoByte p 1 = some t.status2
            ∧ ∀ k, s'.sdoByte p (k + 2) = some
                ((match q, (s.port p).responses, (s.port p).notices with
                  | .responses, r :: _, _ => r.bytes
                  | .notices, _, n :: _ => n.bytes
                  | .responses, [], _ | .notices, _, [] => []).getD k 0))
        ∧ ((s.port p).ignoring = false → faulty →
          exec (.framingFault p bytes) s
            = .next (s.updPort p fun e =>
                { e with
                  txn := none
                  sticky :=
                    if 2 ≤ bytes.length then
                      ⟨e.sticky.dropped && !t.shown.dropped, e.sticky.crcFault && !t.shown.crcFault, true⟩
                    else { e.sticky with framing := true } })))
    ∧ (s.Awake → (s.port p).ignoring = false →
      (bytes.head? ≠ some 0x3C → exec (.commandTransaction p bytes ragged) s = .next s)
      ∧ (bytes.head? ≠ some 0xC3 → exec (.fetchResponse p bytes) s = .next s)
      ∧ (bytes.head? ≠ some 0x5A → exec (.fetchNotice p bytes) s = .next s)
      ∧ (¬ faulty → exec (.framingFault p bytes) s = .next s))
    ∧ ∀ (i : Instr) (t0 : State), s.Awake → (s.port p).presence.level = true →
        (s.port p).txn = none → (s.port p).ignoring = false →
        (i = .fetchFrameFixed p q ∨ (i = .framingFault p bytes ∧ faulty)
          ∨ i = .fetchResponse p (0xC3 :: rest) ∨ i = .fetchNotice p (0x5A :: rest)
          ∨ i = .commandTransaction p (0x3C :: rest) ragged) →
        exec (.statusCapture p) s = .next t0 → exec i s = exec i t0

/-- A fetch removes the head of its queue exactly when every byte of the frame fixed at slot 1 was sent
as a whole byte, which takes the slots 2 to 2 + LEN + 2; a fetch of the empty marker, and one that ends
before, removes nothing (R167). The host's byte of slot 0 is the opener, 0xC3 or 0x5A, and its bytes after it
do not matter (R159). A removal of a notice appends LOST while the lost count is above 0, and clears the
count (R169). The sticky flags shown are cleared if slot 1 was completed (R161). In slot 2 + k SDOx sends the
k-th byte of the fixed frame, and 0x00 after its last one and for the empty marker (R167). ATTNx is high
exactly while the part is out of reset, presence is high and an answer or a notice is queued, before and
after the rise (R170). Where no FETCH_FRAME_FIXED came, the frame is fixed at the rise (the model's reading,
log entry 19). -/
def Obligations.FetchRemovesWhatWasSent : Prop :=
  ∀ (p : Port) (t : Transaction) (rest : List Byte) (s : State), s.Awake →
    (s.port p).ignoring = false → (s.port p).txn = some t →
    let slots := 1 + rest.length
    let fetchResponses := Instr.fetchResponse p (0xC3 :: rest)
    let fetchNotices := Instr.fetchNotice p (0x5A :: rest)
    let flags := fun (now : Sticky) =>
      if 2 ≤ slots then
        (⟨now.dropped && !t.shown.dropped, now.crcFault && !t.shown.crcFault,
          now.framing && !t.shown.framing⟩ : Sticky)
      else now
    let kept := s.updPort p fun e => { e with txn := none, sticky := flags e.sticky }
    (∀ (s' : State) (x : Port), s'.attention x = true ↔
      s'.rst.inReset = false ∧ (s'.port x).presence.level = true
        ∧ ((s'.port x).responses ≠ [] ∨ (s'.port x).notices ≠ []))
    ∧ ((s.port p).presence.level = true →
      ∀ k, s.sdoByte p (2 + k) = some
        (match t.fixed with
        | some (.frame bytes) => bytes.getD k 0
        | some .marker | none => 0))
    ∧ ((t.opener = none ∨ t.opener = some 0xC3) →
      (∀ bytes, t.fixed = some (.frame bytes) → 2 + bytes.length ≤ slots → (s.port p).commands = [] →
        exec fetchResponses s
          = .next (kept.updPort p fun e => { e with responses := e.responses.tail }))
      ∧ ((∀ bytes, t.fixed = some (.frame bytes) → slots < 2 + bytes.length) →
        (t.fixed = none → slots < 2) →
        exec fetchResponses s = .next kept))
    ∧ ((t.opener = none ∨ t.opener = some 0x5A) →
      (∀ bytes, t.fixed = some (.frame bytes) → 2 + bytes.length ≤ slots →
        exec fetchNotices s
          = .next (kept.updPort p fun e =>
              { e with
                notices := e.notices.tail ++
                  (if 0 < e.lost then [⟨.lost e.lost, .none, none, s.carrier.period.setWidth 16⟩] else [])
                lost := 0 }))
      ∧ ((∀ bytes, t.fixed = some (.frame bytes) → slots < 2 + bytes.length) →
        (t.fixed = none → slots < 2) →
        exec fetchNotices s = .next kept))
    ∧ ∀ t1, t.opener = none → t.fixed = none → 2 ≤ slots →
      (exec (.fetchFrameFixed p .responses) s = .next t1 → exec fetchResponses s = exec fetchResponses t1)
      ∧ (exec (.fetchFrameFixed p .notices) s = .next t1 → exec fetchNotices s = exec fetchNotices t1)

/-- A removal of a response from a full response queue lets the command at the head of the waiting ones be
taken at once (R164, R167): the fetch then does what that command does at a port with room, the others wait
on in their order, and a frame that does not decode is answered BAD_ARG (R165). QUERY_PORT alone answers how
many wait behind it (R175). -/
def Obligations.FetchLetsWaitingCommandBeTaken : Prop :=
  ∀ (p : Port) (t : Transaction) (sent bytes : List Byte) (f : Frame) (rest : List Frame) (s : State),
    s.Awake → (s.port p).presence.level = true → (s.port p).ignoring = false →
    (s.port p).txn = some t → t.opener = some 0xC3 → t.fixed = some (.frame bytes) →
    2 + bytes.length ≤ 1 + sent.length →
    (s.port p).responses.length = 4 → (s.port p).commands = f :: rest →
    let waiting := fun (t : State) (fs : List Frame) => t.updPort p fun e => { e with commands := fs }
    let fetched := s.updPort p fun e =>
      { e with
        txn := none
        sticky := ⟨e.sticky.dropped && !t.shown.dropped, e.sticky.crcFault && !t.shown.crcFault,
          e.sticky.framing && !t.shown.framing⟩
        responses := e.responses.tail }
    (∀ i, decodeFrame p f = some i → (∀ seq, i ≠ .queryPort p seq) →
      ∃ t1, exec i (waiting fetched []) = .next t1
        ∧ exec (.fetchResponse p (0xC3 :: sent)) s = .next (waiting t1 rest))
    ∧ (∀ seq, decodeFrame p f = some (.queryPort p seq) →
      ∃ front back : List Byte,
        exec (.queryPort p seq) (waiting fetched [])
          = .next ((waiting fetched []).answered p ⟨seq, 0x02, .ok, front ++ [0] ++ back⟩)
        ∧ front.length = 10 ∧ back.length = 6
        ∧ exec (.fetchResponse p (0xC3 :: sent)) s
          = .next ((waiting fetched rest).answered p
              ⟨seq, 0x02, .ok, front ++ [BitVec.ofNat 8 rest.length] ++ back⟩))
    ∧ (decodeFrame p f = none →
      exec (.fetchResponse p (0xC3 :: sent)) s
        = .next ((waiting fetched rest).answered p ⟨f.seq, f.code, .badArg, []⟩))

/-- A copy of a notice at its port (R168): not admitted while presence is low or its class is masked,
without a count; dropped and counted, up to 255, while sixteen frames wait; else appended at the tail.
Channel notices and LOST have no class (10.9). -/
def Obligations.NoticeAdmission : Prop :=
  ∀ (e : PortEngine) (n : Notice),
    let masked := match n.body with
      | .segmentStart _ _ | .segmentEnd _ _ _ | .underrun _ => !e.mask.segment
      | .leaseGranted _ _ | .leaseLost _ _ _ | .leaseLow _ _ _ => !e.mask.lease
      | .tripped _ _ _ | .rearmed _ _ | .limitStart _ => !e.mask.trip
      | .syncBroken _ _ _ => !e.mask.sync
      | .direction _ _ | .stall _ _ | .index _ _ | .phaseError _ _ | .capture _ _ | .lost _ => false
    ((e.presence.level = false ∨ masked = true) → e.receiveCopy n = e)
    ∧ (e.presence.level = true → masked = false →
      (16 ≤ e.notices.length → e.receiveCopy n = { e with lost := min 255 (e.lost + 1) })
      ∧ (e.notices.length < 16 → e.receiveCopy n = { e with notices := e.notices ++ [n] }))

/-! ### Presence and part reset (R102, R171, R176) -/

/-- Four accepted changes that touch nothing but an accepted level: PRESENCE_RISE (R171), TRIP0_INACTIVE,
TRIP1_INACTIVE and ARM_HIGH, which raise no cause and take no leg out of TRIPPED (R111). -/
def Obligations.LevelOnlyEvents : Prop :=
  ∀ (p : Port) (s : State), s.Awake →
    ((s.port p).presence.level = false →
      exec (.presenceRise p) s = .next (s.updPort p fun e => { e with presence := ⟨true, true, 0⟩ }))
    ∧ (s.trip.trip0.level = true →
      exec .trip0Inactive s = .next (s.setTrip { s.trip with trip0 := ⟨false, false, 0⟩ }))
    ∧ (s.trip.trip1.level = true →
      exec .trip1Inactive s = .next (s.setTrip { s.trip with trip1 := ⟨false, false, 0⟩ }))
    ∧ (s.trip.arm.level = false →
      exec .armHigh s = .next (s.setTrip { s.trip with arm := ⟨true, true, 0⟩ }))

/-- PRESENCE_FALL leaves its port with empty queues, no lost notice, clear flags, a full mask, no
transaction but one that is ignored to its end, no lease, no waiter entry and no subscription (R102, R154,
R158, R171). Each lease it held ends as
by a RELEASE: a leg that is RUNNING or HOLDING leaves it RELEASING, any other resource passes it on, and
the leg's plan is taken (R20, R98, R103). A HOLDING leg whose plan is taken leaves the holding-leg set of its
mark, and no wait count changes (R51, R52). Other ports' leases, the other legs, the carrier, the trip unit
and the channels' counts are not touched; other port engines change by notices alone. The queue of waiting
rows, the model's own (log entry 8), stays. -/
def Obligations.PresenceFallLeavesNothing : Prop :=
  ∀ (p : Port) (s : State), s.Awake → (s.port p).presence.level = true →
    ∃ t, exec (.presenceFall p) s = .next t
      ∧ t.port p =
          { s.port p with
            presence := ⟨false, false, 0⟩, commands := [], responses := [], notices := [], lost := 0
            sticky := ⟨false, false, false⟩, mask := ⟨true, true, true, true⟩, txn := none
            ignoring := (s.port p).txn.isSome || (s.port p).ignoring }
      ∧ (∀ q, q ≠ p → (s.port q).SameButNotices (t.port q))
      ∧ (∀ r,
          let l := s.lease r
          let waiting := { l with waiters := l.waiters.filter fun w => w.port != p }
          if l.holder? = some p then
            (s.resourceAtRest r = true → t.lease r = waiting.passedOn)
            ∧ (s.resourceAtRest r = false → t.lease r = { waiting with phase := .releasing })
          else t.lease r = waiting)
      ∧ (∀ n, t.leg n =
          if (s.lease (.leg n)).holder? = some p then (s.planTaken n).leg n else s.leg n)
      ∧ (∀ c, t.chan c =
          { s.chan c with subscribers := (s.chan c).subscribers.set p ⟨false, false, false, false, false⟩ })
      ∧ (∀ m, (t.mark m).wait = (s.mark m).wait
          ∧ ∀ n, (t.mark m).holding.get n = true ↔
              (s.mark m).holding.get n = true
              ∧ ¬ ((s.lease (.leg n)).holder? = some p ∧ (∃ h, (s.leg n).phase = .holding h)
                  ∧ (s.leg n).queue ≠ []))
      ∧ t.carrier = s.carrier ∧ t.trip = s.trip ∧ t.leaseClock = s.leaseClock ∧ t.rst = s.rst
      ∧ t.pending = s.pending

/-- RESET_ASSERT abandons whatever is in progress: every port engine, lease record, leg, mark and channel, the
Carrier Timer, the lease clock and the Trip Unit hold their reset values, no notice and no answer is
produced, the gates and the attention outputs are low and SDOx is high impedance (R170, R176, R177). A
transaction in progress is ignored to its end (R177). The source asserts for the given number of samples
more, and the stretch starts again (R176). That the role, the straps, the pins, the accepted levels and the
phases stay until the release takes them anew, and that the row carries how long its source asserts, is the
model's reading (log entry 10). -/
def Obligations.ResetAssertAbandonsAll : Prop :=
  ∀ (source : ResetSource) (s : State),
    ∃ t, exec (.resetAssert source) s = .next t
    ∧ t.rst =
        (match source with
        | .rstPin samples => ⟨true, max s.rst.rstLow samples, s.rst.porHold, 0⟩
        | .powerOn samples => ⟨true, s.rst.rstLow, max s.rst.porHold samples, 0⟩)
    ∧ (∀ p,
        let e := s.port p
        t.port p =
          ⟨e.role, e.strap, ⟨e.presence.pin, e.presence.level, 0⟩, [], [], [], 0, ⟨false, false, false⟩,
            ⟨true, true, true, true⟩, none, e.txn.isSome || e.ignoring⟩
        ∧ t.attention p = false ∧ ∀ slot, t.sdoByte p slot = none)
    ∧ (∀ r, t.lease r = ⟨.free, 0, []⟩) ∧ t.leaseClock = ⟨⟨6000, false⟩, 0⟩
    ∧ t.carrier.run = .stopped ∧ t.carrier.mode = .center ∧ t.carrier.prescale = 0
    ∧ t.carrier.active = 1500 ∧ t.carrier.preload = 1500 ∧ t.carrier.counter = 0
    ∧ t.carrier.slope = .falling ∧ t.carrier.leadIn = false ∧ t.carrier.period = 0
    ∧ t.carrier.syncLimit = 64
    ∧ (∀ n, t.leg n =
          ⟨.idle, [], ⟨60, .float, .float, .latch, 0⟩, 0, false, 0,
            ⟨false, false, ⟨false, false, 0⟩, ⟨false, false, 0⟩⟩⟩
        ∧ t.gateHigh n = false ∧ t.gateLow n = false)
    ∧ (∀ m, t.mark m = ⟨0, ⟨false, false, false, false⟩⟩)
    ∧ t.trip =
        ⟨⟨s.trip.trip0.pin, s.trip.trip0.level, 0⟩, ⟨s.trip.trip1.pin, s.trip.trip1.level, 0⟩,
          ⟨s.trip.arm.pin, s.trip.arm.level, 0⟩⟩
    ∧ (∀ c,
        let ch := s.chan c
        t.chan c =
          { config := ⟨.off, .w0, 65536, .off, .rising, 0⟩, divider := ⟨1, false⟩
            x := ⟨ch.x.pin, ch.x.level, 0⟩, y := ⟨ch.y.pin, ch.y.level, 0⟩
            z := ⟨ch.z.pin, ch.z.level, 0⟩, phase := ch.phase
            position := 0, revolutions := 0, direction := .none, timer := 0, intervalLatch := 0
            indexLatch := 0, capture := .waitFirst, widthTaken := false, widthLatch := 0
            periodLatch := 0, stall := false
            subscribers :=
              ⟨⟨false, false, false, false, false⟩, ⟨false, false, false, false, false⟩,
                ⟨false, false, false, false, false⟩⟩ })
    ∧ t.outbox = []

/-- RESET_RELEASE, the end of the stretch, with ARM high and no trip input active: every block takes the values
that its chapter states for the release, the roles come from the straps and the accepted levels from the pins
(R25, R41, R43, R77, R127, R129, R157, R171, R173, R176); a transaction whose CSNx fell before stays ignored
(R177). While a source asserts, before the last sample of the stretch, and out of reset the row changes
nothing (DESIGN CHOICE, log entries 6 and 10). -/
def Obligations.ResetReleaseValues : Prop :=
  ∀ (pins : Pins) (s : State),
    ((s.rst.inReset = false ∨ 0 < s.rst.rstLow ∨ 0 < s.rst.porHold ∨ s.rst.stretch < 59) →
      exec (.resetRelease pins) s = .next s)
    ∧ (s.rst.inReset = true → s.rst.rstLow = 0 → s.rst.porHold = 0 → 59 ≤ s.rst.stretch →
      pins.arm = true → pins.trip0 = false → pins.trip1 = false →
      ∃ t, exec (.resetRelease pins) s = .next t
      ∧ t.rst = ⟨false, 0, 0, 0⟩
      ∧ (∀ p, t.port p =
          ⟨if (pins.ports.get p).role then .supervisor else .control, (pins.ports.get p).role,
            ⟨(pins.ports.get p).pres, (pins.ports.get p).pres, 0⟩, [], [], [], 0,
            ⟨false, false, false⟩, ⟨true, true, true, true⟩, none,
            (s.port p).txn.isSome || (s.port p).ignoring⟩)
      ∧ (∀ r, t.lease r = ⟨.free, 0, []⟩) ∧ t.leaseClock = ⟨⟨6000, false⟩, 0⟩
      ∧ t.carrier.run = .stopped ∧ t.carrier.mode = .center ∧ t.carrier.prescale = 0
      ∧ t.carrier.active = 1500 ∧ t.carrier.preload = 1500 ∧ t.carrier.counter = 0
      ∧ t.carrier.slope = .falling ∧ t.carrier.leadIn = false ∧ t.carrier.period = 0
      ∧ t.carrier.syncLimit = 64
      ∧ (∀ n, t.leg n =
          ⟨.idle, [], ⟨60, .float, .float, .latch, 0⟩, 0, false, 0,
            ⟨false, false, ⟨false, false, 0⟩, ⟨false, false, 0⟩⟩⟩)
      ∧ (∀ m, t.mark m = ⟨0, ⟨false, false, false, false⟩⟩)
      ∧ t.trip = ⟨⟨false, false, 0⟩, ⟨false, false, 0⟩, ⟨true, true, 0⟩⟩
      ∧ (∀ c, (t.chan c).config = ⟨.off, .w0, 65536, .off, .rising, 0⟩
          ∧ (t.chan c).x = ⟨(pins.chans.get c).x, (pins.chans.get c).x, 0⟩
          ∧ (t.chan c).y = ⟨(pins.chans.get c).y, (pins.chans.get c).y, 0⟩
          ∧ (t.chan c).z = ⟨(pins.chans.get c).z, (pins.chans.get c).z, 0⟩
          ∧ (t.chan c).phase = phaseOf (pins.chans.get c).x (pins.chans.get c).y
          ∧ (t.chan c).position = 0 ∧ (t.chan c).revolutions = 0 ∧ (t.chan c).direction = .none
          ∧ (t.chan c).timer = 0 ∧ (t.chan c).intervalLatch = 0 ∧ (t.chan c).indexLatch = 0
          ∧ (t.chan c).capture = .waitFirst ∧ (t.chan c).widthTaken = false
          ∧ (t.chan c).widthLatch = 0 ∧ (t.chan c).periodLatch = 0 ∧ (t.chan c).stall = false
          ∧ ∀ p, (t.chan c).subscribers.get p = ⟨false, false, false, false, false⟩))

/-- RESET_RELEASE with a cause present trips every leg at that moment: first cause DISARM when ARM is low,
else TRIP1, else TRIP0; the other causes present are further causes; the record's period number is 0, no
tag, and the trip count is 1. TRIPPED goes to the SUPERVISOR ports that are present, and to no other
(R127). The row is the end of the stretch (R176); when it may come is log entry 10. -/
def Obligations.ResetReleaseTrips : Prop :=
  ∀ (pins : Pins) (s : State),
    s.rst.inReset = true → s.rst.rstLow = 0 → s.rst.porHold = 0 → 59 ≤ s.rst.stretch →
    (pins.arm = false ∨ pins.trip1 = true ∨ pins.trip0 = true) →
    ∃ t, exec (.resetRelease pins) s = .next t
      ∧ (∀ n, (t.leg n).phase = .tripped
            ⟨if pins.arm = false then .disarm else if pins.trip1 then .trip1 else .trip0, 0, none,
              ⟨pins.trip0 && (!pins.arm || pins.trip1), pins.trip1 && !pins.arm, false, false⟩, false⟩
          ∧ (t.leg n).tripCount = 1 ∧ (t.leg n).queue = [] ∧ (t.leg n).runCount = 0
          ∧ (t.leg n).config = LegConfig.reset ∧ t.gateHigh n = false ∧ t.gateLow n = false)
      ∧ (∀ r, t.lease r = ⟨.free, 0, []⟩)
      ∧ (∀ p, (t.port p).notices.length =
          if (pins.ports.get p).role = true ∧ (pins.ports.get p).pres = true then 4 else 0)
      ∧ ∀ p n, (pins.ports.get p).role = true → (pins.ports.get p).pres = true →
          (⟨.tripped (if pins.arm = false then .disarm else if pins.trip1 then .trip1 else .trip0) 1 0,
            .leg n, none, 0⟩ : Notice) ∈ (t.port p).notices

/-! ### The Lease Table (chapters 5 and 6) -/

/-- CLAIM in every state of the lease (R81, R82, R83): granted at once when FREE; ALREADY_HELD to its
holder; without the wait flag HELD; with it a new waiter entry, the interval of the own entry replaced,
or FULL. Nothing but the record changes. -/
def Obligations.ClaimAnswered : Prop :=
  ∀ (p : Port) (seq b w : Byte) (i : Half) (r : Resource) (s : State),
    s.Ready p → resourceOf b = some r → 1 ≤ i.toNat → i.toNat ≤ 10000 → w.toNat ≤ 1 →
    let l := s.lease r
    let done := fun (s' : State) (result : Result) (data : List Byte) =>
      exec (.claim p seq b i w) s = .next (s'.answered p ⟨seq, 0x10, result, data⟩)
    (l.phase = .free →
      done (s.setLease r
          ⟨.held p i.toNat i.toNat false, l.genAfter, l.waiters.filter fun x => x.port != p⟩)
        .ok (be16 l.genAfter ++ be16 i))
    ∧ (∀ n k low, l.phase = .held p n k low →
        done s .alreadyHeld (be16 l.gen ++ be16 (BitVec.ofNat 16 k)))
    ∧ (∀ q n k low, l.phase = .held q n k low → q ≠ p → w = 0 →
        done s .held [BitVec.ofNat 8 q.number, BitVec.ofNat 8 l.waiters.length])
    ∧ (l.phase = .releasing → w = 0 → done s .held [0, BitVec.ofNat 8 l.waiters.length])
    ∧ (l.phase ≠ .free → l.holder? ≠ some p → w = 1 →
        ((∀ x ∈ l.waiters, x.port ≠ p) → l.waiters.length < 2 →
          done (s.setLease r { l with waiters := l.waiters ++ [⟨p, i.toNat⟩] }) .queued
            [BitVec.ofNat 8 (l.waiters.length + 1)])
        ∧ ((∀ x ∈ l.waiters, x.port ≠ p) → 2 ≤ l.waiters.length → done s .full [])
        ∧ (∀ front x back, l.waiters = front ++ x :: back → x.port = p →
            (∀ y ∈ front, y.port ≠ p) → (∀ y ∈ back, y.port ≠ p) →
            done (s.setLease r { l with waiters := front ++ ⟨p, i.toNat⟩ :: back }) .queued
              [BitVec.ofNat 8 (front.length + 1)]))

/-- RENEW restores the interval and clears the low warning (R90); RENEW_ALL does so for every lease that
the port holds, and says which (R91); CANCEL_WAIT removes the port's waiter entry, or is refused
NOT_WAITING (R85). Nothing else changes. -/
def Obligations.RenewAndCancelWait : Prop :=
  ∀ (p : Port) (seq b : Byte) (g : Half) (r : Resource) (s : State),
    s.Ready p → resourceOf b = some r →
    (∀ n k low, s.Holds p r g → (s.lease r).phase = .held p n k low →
      exec (.renew p seq b g) s
        = .next ((s.setLease r { s.lease r with phase := .held p n n false }).answered p
            ⟨seq, 0x12, .ok, be16 (BitVec.ofNat 16 n)⟩))
    ∧ (∃ (leases : PerResource Lease) (mask : Byte),
        exec (.renewAll p seq) s
          = .next ({ s with leases := leases }.answered p
              ⟨seq, 0x13, .ok,
                [BitVec.ofNat 8 (Resource.all.filter fun q => (s.lease q).holder? == some p).length,
                  mask]⟩)
        ∧ (∀ q, mask.getLsbD q.number = ((s.lease q).holder? == some p)) ∧ mask.toNat < 128
        ∧ ∀ q, leases.get q =
            match (s.lease q).phase with
            | .held h n k low =>
              if h = p then { s.lease q with phase := .held p n n false }
              else { s.lease q with phase := .held h n k low }
            | .free | .releasing => s.lease q)
    ∧ ((∀ w ∈ (s.lease r).waiters, w.port ≠ p) →
      exec (.cancelWait p seq b) s = .next (s.answered p ⟨seq, 0x15, .notWaiting, []⟩))
    ∧ ((∃ w ∈ (s.lease r).waiters, w.port = p) →
      exec (.cancelWait p seq b) s
        = .next ((s.setLease r
            { s.lease r with waiters := (s.lease r).waiters.filter fun w => w.port != p }).answered p
              ⟨seq, 0x15, .ok, []⟩))

/-- RELEASE ends the lease at the moment it is taken (R95, R96): a resource at rest passes on, to FREE or
to the head waiter, who is told by LEASE_GRANTED with the new generation; a leg that is RUNNING or HOLDING
leaves it RELEASING. A leg's plan is taken from it (R20). The answer says what the lease became (coded as
the lease state, DEDUCED, log entry 12). -/
def Obligations.ReleaseEndsLease : Prop :=
  ∀ (p : Port) (seq b : Byte) (g : Half) (r : Resource) (s : State),
    s.Ready p → resourceOf b = some r → s.Holds p r g →
    let l := s.lease r
    (s.resourceAtRest r = true → l.waiters = [] →
      exec (.release p seq b g) s
        = .next (((s.setLease r { l with phase := .free }).resourceCleared r).answered p
            ⟨seq, 0x11, .ok, [0]⟩))
    ∧ (∀ w rest, s.resourceAtRest r = true → l.waiters = w :: rest →
      ∃ k, exec (.release p seq b g) s
        = .next ((((s.setLease r (l.grantedTo w rest)).resourceCleared r).told (fun q => q == w.port)
            ⟨.leaseGranted l.genAfter w.interval, .resource r, none, s.periodLow⟩).answered p
              ⟨seq, 0x11, .ok, [1, BitVec.ofNat 8 w.port.number] ++ be16 l.genAfter⟩ |>.setChoices k))
    ∧ (s.resourceAtRest r = false →
      exec (.release p seq b g) s
        = .next (((s.setLease r { l with phase := .releasing }).resourceCleared r).answered p
            ⟨seq, 0x11, .ok, [2, BitVec.ofNat 8 l.waiters.length]⟩))

/-- R105 whole: a SEIZE from a SUPERVISOR port that finds the lease FREE acts as a grant at once, with the
interval of the SEIZE; its answer carries the new generation, the interval, the previous state FREE and no
previous holder; no notice is posted and the resource is not touched. A FREE leg is IDLE or TRIPPED with
an empty queue, in every state whose plans are fenced (an invariant, `Obligations.LeasesAndPlansKept`),
and stays so. -/
def Obligations.SeizeOfFreeLease : Prop :=
  ∀ (p : Port) (seq b : Byte) (i g : Half) (r : Resource) (s : State),
    s.Ready p → (s.port p).role = .supervisor → resourceOf b = some r →
    1 ≤ i.toNat → i.toNat ≤ 10000 → s.lease r = ⟨.free, g, []⟩ →
    let next : Half := if g = 65535 then 1 else g + 1
    ∃ t, exec (.seize p seq b i) s = .next t
      ∧ t = (s.setLease r ⟨.held p i.toNat i.toNat false, next, []⟩).answered p
          ⟨seq, 0x14, .ok, be16 next ++ be16 i ++ [0, 0]⟩
      ∧ (s.PlansFenced → ∀ n, r = .leg n →
          ((s.leg n).phase = .idle ∨ ∃ rec, (s.leg n).phase = .tripped rec)
          ∧ (s.leg n).queue = [] ∧ t.leg n = s.leg n)

/-- SEIZE in the other states of the lease (R104, R106, R107): NOT_PERMITTED from a CONTROL port and
against a SUPERVISOR holder, ALREADY_HELD to the holder itself; a lease HELD by a CONTROL port passes to
the seizer at once, the former holder is told LEASE_LOST with SEIZED, and a leg's plan is taken; a
RELEASING lease passes to the seizer with no notice. The other waiters keep their places. -/
def Obligations.SeizeOfHeldLease : Prop :=
  ∀ (p : Port) (seq b : Byte) (i : Half) (r : Resource) (s : State),
    s.Ready p → resourceOf b = some r → 1 ≤ i.toNat → i.toNat ≤ 10000 →
    let l := s.lease r
    let taken := (s.setLease r
      ⟨.held p i.toNat i.toNat false, l.genAfter, l.waiters.filter fun x => x.port != p⟩).resourceCleared r
    let refused := fun (result : Result) (data : List Byte) =>
      exec (.seize p seq b i) s = .next (s.answered p ⟨seq, 0x14, result, data⟩)
    ((s.port p).role = .control → refused .notPermitted [])
    ∧ ((s.port p).role = .supervisor →
      (∀ n k low, l.phase = .held p n k low →
        refused .alreadyHeld (be16 l.gen ++ be16 (BitVec.ofNat 16 k)))
      ∧ (∀ q n k low, l.phase = .held q n k low → q ≠ p → (s.port q).role = .supervisor →
        refused .notPermitted [])
      ∧ (∀ q n k low, l.phase = .held q n k low → (s.port q).role = .control →
        ∃ c, exec (.seize p seq b i) s
          = .next (((taken.told (fun x => x == q)
              ⟨.leaseLost .seized l.gen (some p), .resource r, none, s.periodLow⟩).answered p
                ⟨seq, 0x14, .ok, be16 l.genAfter ++ be16 i ++ [1, BitVec.ofNat 8 q.number]⟩).setChoices c))
      ∧ (l.phase = .releasing →
        exec (.seize p seq b i) s
          = .next (taken.answered p ⟨seq, 0x14, .ok, be16 l.genAfter ++ be16 i ++ [2, 0]⟩)))

/-- LEASE_TICK takes one from the remaining count of every HELD lease, at the same moment, and leaves FREE
and RELEASING records alone (R88). A lease at or below a quarter of its interval, at least 1, posts
LEASE_LOW to its holder once (R89). It comes at the last of the 6000 samples of the lease clock, the samples
before it pass first (as idle steps, log entry 4), the tick number rises, and the next tick comes 6000 samples
later, so that the row neither restarts nor pauses the clock (R87, R175). The records are stated for a tick at
which no lease expires; `Obligations.LeaseExpiryEndsLease` is the other case. -/
def Obligations.LeaseTickCountsDown : Prop :=
  ∀ s : State, s.Awake →
    (s.leaseClock.divider.due = false → LetsSamplePass .leaseTick s)
    ∧ (s.leaseClock.divider.due = true →
      (∀ r q i k low, (s.lease r).phase = .held q i k low → 2 ≤ k) →
    ∃ t, exec .leaseTick s = .next t
      ∧ t.leaseClock = ⟨⟨6000, true⟩, s.leaseClock.number + 1⟩
      ∧ (∀ r, t.lease r =
          match (s.lease r).phase with
          | .held q i k low =>
            { s.lease r with phase := .held q i (k - 1) (low || decide (k - 1 ≤ max 1 (i / 4))) }
          | .free | .releasing => s.lease r)
      ∧ (∀ p, ∃ ns : List Notice, t.port p = ns.foldl PortEngine.receiveCopy (s.port p)
          ∧ ns.Perm (Resource.all.filterMap fun r =>
              match (s.lease r).phase with
              | .held q i k low =>
                if q = p ∧ low = false ∧ k - 1 ≤ max 1 (i / 4) then
                  some ⟨.leaseLow (s.lease r).gen (k - 1) i, .resource r, none, s.periodLow⟩
                else none
              | .free | .releasing => none))
      ∧ t.legs = s.legs ∧ t.carrier = s.carrier ∧ t.sync = s.sync ∧ t.trip = s.trip ∧ t.chans = s.chans
      ∧ t.rst = s.rst)

/-- LEASE_EXPIRY (R101): a lease whose last tick this is ends as by a RELEASE, and its former holder is
told LEASE_LOST with EXPIRED, the generation lost and the holder that followed, if its mask and queue
take it in. The tick is the same for all records: it is a LEASE_TICK (log entry 5), and the samples before it
pass first (log entry 4). -/
def Obligations.LeaseExpiryEndsLease : Prop :=
  ∀ (r : Resource) (q : Port) (i : Nat) (low : Bool) (s : State), s.Awake → s.LeasesOk →
    (s.leaseClock.divider.due = false → LetsSamplePass (.leaseExpiry r) s)
    ∧ (s.leaseClock.divider.due = true → (s.lease r).phase = .held q i 1 low →
    ∃ t, exec (.leaseExpiry r) s = .next t ∧ exec .leaseTick s = .next t
      ∧ t.leaseClock = ⟨⟨6000, true⟩, s.leaseClock.number + 1⟩
      ∧ (s.resourceAtRest r = true → t.lease r = (s.lease r).passedOn)
      ∧ (s.resourceAtRest r = false → t.lease r = { s.lease r with phase := .releasing })
      ∧ (∀ n, r = .leg n → t.leg n = (s.planTaken n).leg n)
      ∧ (∀ n q' i' k' low', (s.lease (.leg n)).phase = .held q' i' k' low' → 2 ≤ k' →
          t.leg n = s.leg n)
      ∧ ((s.port q).presence.level = true → (s.port q).mask.lease = true →
          (s.port q).notices.length ≤ 9 →
          (⟨.leaseLost .expired (s.lease r).gen (t.lease r).holder?, .resource r, none, s.periodLow⟩ : Notice)
            ∈ (t.port q).notices)
      ∧ t.carrier = s.carrier ∧ t.chans = s.chans ∧ t.trip = s.trip ∧ t.rst = s.rst)

/-! ### Legs and their plans (chapter 1) -/

/-- APPEND accepted joins one segment, stamped with the command's generation, at the tail of the queue and
answers the new pending count; refused, APPEND and REPLACE answer with the first check of R14 that fails:
NOT_HOLDER on a leg of the sync set (which of several, the spec leaves open: log entry 15), BAD_CONDITION
with the channel's mode and modulus, TRIPPED, and for APPEND alone FULL (R14, R16, R151). Nothing else
changes. -/
def Obligations.AppendChecks : Prop :=
  ∀ (p : Port) (seq b o : Byte) (g : Half) (bytes : List Byte) (n : Leg) (seg : Segment) (s : State),
    s.Ready p → legOf b = some n → s.Holds p (.leg n) g → parseSegment n g bytes = some seg →
    o.toNat ≤ 1 →
    let u := s.leg n
    let append := exec (.append p seq b g bytes) s
    let replace := exec (.replace p seq b g o bytes) s
    let answered := fun (s' : State) (code : Byte) (result : Result) (data : List Byte) =>
      (Host.Outcome.next (s'.answered p ⟨seq, code, result, data⟩) : Host.Outcome State Fault Refusal)
    let setHeld := ∀ f, seg.sync = some f → ∀ k, f.legs.get k = true →
      (s.lease (.leg k)).holder? = some p
    let condOk := ∀ c, seg.condition = some c →
      ((s.chan c.chan).config.mode = .quad ∨ (s.chan c.chan).config.mode = .stepDir
        ∨ (s.chan c.chan).config.mode = .upDown)
      ∧ c.target.toNat < (s.chan c.chan).config.modulus
    seg.gen = g
    ∧ (setHeld → condOk → u.phase.isTripped = false → u.queue.length < 8 →
        append = answered (s.setLeg n { u with queue := u.queue ++ [seg] }) 0x20 .ok
          [BitVec.ofNat 8 (u.queue.length + 1)])
    ∧ (setHeld → condOk → u.phase.isTripped = false → 8 ≤ u.queue.length →
        append = answered s 0x20 .full [])
    ∧ (setHeld → condOk → u.phase.isTripped = true →
        append = answered s 0x20 .tripped [] ∧ replace = answered s 0x21 .tripped [])
    ∧ (∀ c, setHeld → seg.condition = some c → ¬ condOk →
        let cfg := (s.chan c.chan).config
        let found := [BitVec.ofNat 8 cfg.mode.code] ++ be16 (BitVec.ofNat 16 (cfg.modulus - 1))
        append = answered s 0x20 .badCondition found ∧ replace = answered s 0x21 .badCondition found)
    ∧ (¬ setHeld → ∃ (f : SyncField) (k : Leg) (c : Nat), seg.sync = some f ∧ f.legs.get k = true
        ∧ (s.lease (.leg k)).holder? ≠ some p
        ∧ let found := [BitVec.ofNat 8 (s.lease (.leg k)).phase.code,
            BitVec.ofNat 8 (portCode (s.lease (.leg k)).holder?)]
          append = answered (s.setChoices c) 0x20 .notHolder found
          ∧ replace = answered (s.setChoices c) 0x21 .notHolder found)

/-- REPLACE accepted empties the queue and places its one segment, and answers how many it removed (R16).
At once, it also cuts the active segment of a RUNNING leg whose cut request is NONE (R17). A HOLDING leg
that loses its head leaves the holding-leg set (R51). -/
def Obligations.ReplacePlacesOne : Prop :=
  ∀ (p : Port) (seq b o : Byte) (g : Half) (bytes : List Byte) (n : Leg) (seg : Segment) (s : State),
    s.Ready p → legOf b = some n → s.Holds p (.leg n) g → parseSegment n g bytes = some seg →
    o.toNat ≤ 1 →
    (∀ f, seg.sync = some f → ∀ k, f.legs.get k = true → (s.lease (.leg k)).holder? = some p) →
    (∀ c, seg.condition = some c → (s.chan c.chan).config.mode.counting = true
      ∧ c.target.toNat < (s.chan c.chan).config.modulus) →
    (s.leg n).phase.isTripped = false →
    let phase :=
      match (s.leg n).phase with
      | .running a => if o = 1 ∧ a.cut = .none then .running { a with cut := .host } else .running a
      | other => other
    exec (.replace p seq b g o bytes) s
      = .next (((s.headLost n).setLeg n { s.leg n with phase := phase, queue := [seg] }).answered p
          ⟨seq, 0x21, .ok, [BitVec.ofNat 8 (s.leg n).queue.length]⟩)

/-- FLUSH removes every pending segment and answers how many, in every leg state (R18, R51). CUT sets the
cut request of a RUNNING leg's segment to HOST, leaves one that stands, and is refused NO_ACTIVE in every
other state (R19). Neither touches anything else. -/
def Obligations.FlushAndCut : Prop :=
  ∀ (p : Port) (seq b : Byte) (g : Half) (n : Leg) (s : State),
    s.Ready p → legOf b = some n → s.Holds p (.leg n) g →
    exec (.flush p seq b g) s
      = .next (((s.headLost n).setLeg n { s.leg n with queue := [] }).answered p
          ⟨seq, 0x22, .ok, [BitVec.ofNat 8 (s.leg n).queue.length]⟩)
    ∧ (∀ a, (s.leg n).phase = .running a →
      exec (.cut p seq b g) s
        = .next ((s.setLeg n { s.leg n with
            phase := .running { a with cut := if a.cut = .none then .host else a.cut } }).answered p
              ⟨seq, 0x23, .ok, []⟩))
    ∧ ((∀ a, (s.leg n).phase ≠ .running a) →
      exec (.cut p seq b g) s = .next (s.answered p ⟨seq, 0x23, .noActive, []⟩))

/-- SET_LEG replaces the five settings of an IDLE or TRIPPED leg at once, its output following, and is
refused BUSY on a RUNNING or HOLDING one (R24). A change of the response to LATCH while TRIP0 is accepted
active is a trip cause: it trips an IDLE leg, and is a further cause of a TRIPPED one (R111, R114). -/
def Obligations.SetLegTakesSettings : Prop :=
  ∀ (p : Port) (seq b d pat e : Byte) (g : Half) (n : Leg) (s : State),
    s.Ready p → legOf b = some n → s.Holds p (.leg n) g → pat.toNat < 8 →
    let u := s.leg n
    let cfg : LegConfig :=
      ⟨d.toNat, if pat.getLsbD 0 then .low else .float, if pat.getLsbD 1 then .low else .float,
        if pat.getLsbD 2 then .cycle else .latch, e.toNat⟩
    let ok : Response := ⟨seq, 0x24, .ok, []⟩
    let cause := u.config.response = .cycle ∧ cfg.response = .latch ∧ s.trip.trip0.level = true
    (u.phase.driving = true →
      exec (.setLeg p seq b g d pat e) s = .next (s.answered p ⟨seq, 0x24, .busy, []⟩))
    ∧ (u.phase.driving = false → ¬ cause →
      exec (.setLeg p seq b g d pat e) s
        = .next ((s.setLeg n ({ u with config := cfg }.settle s.carrier.counter)).answered p ok))
    ∧ (∀ rec, u.phase = .tripped rec → cause →
      exec (.setLeg p seq b g d pat e) s
        = .next ((s.setLeg n { { u with config := cfg }.settle s.carrier.counter with
            phase := .tripped { rec with
              further := { rec.further with trip0 := true }, rearm := false } }).answered p ok))
    ∧ (u.phase = .idle → cause →
      ∃ t, exec (.setLeg p seq b g d pat e) s = .next t
        ∧ { u with config := cfg }.TrippedFrom (t.leg n) .trip0 s.carrier.period none
        ∧ (∀ k, k ≠ n → t.leg k = s.leg k) ∧ t.leases = s.leases ∧ s.AnsweredIn t p ok
        ∧ ∀ q, t.port q =
            (if q = p then { (if s.hearsTrips n q then (s.port q).receiveCopy
                ⟨.tripped .trip0 (min 255 (u.tripCount + 1)) u.queue.length, .leg n, none, s.periodLow⟩
              else s.port q) with responses := (s.port q).responses ++ [ok] }
            else if s.hearsTrips n q then (s.port q).receiveCopy
                ⟨.tripped .trip0 (min 255 (u.tripCount + 1)) u.queue.length, .leg n, none, s.periodLow⟩
              else s.port q))

/-- REARM is refused BUSY on a leg that is not TRIPPED, and TRIP_ACTIVE with the blocking causes while one
is accepted active; else it is pending while the carrier runs, and completes at once while it is STOPPED:
the leg is IDLE, its record cleared, and REARMED goes to the holder and every SUPERVISOR (R121, R122,
R124). REARM_COMPLETION is the boundary at which a pending rearm completes (R122; while STOPPED, log
entry 5), and the samples before it pass first (log entry 4). The answer's 0 for pending and 1 for
completed are DEDUCED (log entry 12). -/
def Obligations.RearmReturnsLeg : Prop :=
  ∀ (p : Port) (seq b : Byte) (g : Half) (n : Leg) (s : State), legOf b = some n →
    let u := s.leg n
    let answer := fun (result : Result) (data : List Byte) => (⟨seq, 0x27, result, data⟩ : Response)
    let completed := fun (rec : TripRecord) =>
      (s.setLeg n (u.rearmed s.carrier.counter)).told (s.hearsTrips n)
        ⟨.rearmed rec.first u.tripCount, .leg n, none, s.periodLow⟩
    (s.Ready p → s.Holds p (.leg n) g →
      (u.phase.isTripped = false →
        exec (.rearm p seq b g) s = .next (s.answered p (answer .busy [])))
      ∧ (∀ rec, u.phase = .tripped rec →
        let b0 := s.trip.trip0.level
          && (decide (u.config.response = .latch) || decide (rec.first = .escalated))
        let b1 := s.trip.trip1.level
        let b2 := !s.trip.arm.level
        ((b0 || b1 || b2) = true →
          exec (.rearm p seq b g) s
            = .next (s.answered p (answer .tripActive
                [BitVec.ofNat 8 ((if b0 then 1 else 0) + (if b1 then 2 else 0) + if b2 then 4 else 0)])))
        ∧ ((b0 || b1 || b2) = false → s.carrier.run = .running →
          exec (.rearm p seq b g) s
            = .next ((s.setLeg n { u with phase := .tripped { rec with rearm := true } }).answered p
                (answer .ok [0])))
        ∧ ((b0 || b1 || b2) = false → s.carrier.run = .stopped →
          ∃ k, exec (.rearm p seq b g) s
            = .next (((completed rec).answered p (answer .ok [1])).setChoices k))))
    ∧ (∀ rec, s.Awake → u.phase = .tripped rec → rec.rearm = true →
      (s.carrier.run = .stopped →
        ∃ k, exec (.rearmCompletion n) s = .next ((completed rec).setChoices k))
      ∧ (s.carrier.run = .running → ¬ s.BoundaryNow → LetsSamplePass (.rearmCompletion n) s)
      ∧ (s.BoundaryNow →
        ∃ t, exec (.rearmCompletion n) s = .next t ∧ exec .periodBoundary s = .next t
          ∧ t.leg n = u.rearmed t.carrier.counter
          ∧ ∀ q, s.hearsTrips n q = true → (s.port q).presence.level = true →
              (s.port q).mask.trip = true → (s.port q).notices.length ≤ 4 →
              (⟨.rearmed rec.first u.tripCount, .leg n, none, (s.carrier.period + 1).setWidth 16⟩ : Notice)
                ∈ (t.port q).notices))

/-! ### The period boundary (chapters 1 to 3 and 7) -/

/-- PERIOD_BOUNDARY: while RUNNING the Carrier Timer raises the period number, makes the preload the active
period, ends a lead-in and sets the counter to the start of the new period (R31, R32); while STOPPED there
is none (R40). The Trip Unit closes the period of every leg that neither trips nor is TRIPPED: the run count
rises by a limited period and returns to 0 after an unlimited one, the cycle cut stays only while TRIP0 is
accepted active, a leg that enters RUNNING or HOLDING from IDLE starts cut if its response is CYCLE, and an
IDLE leg has neither (R117, R118). Where that opens the first limited period of a run, LIMIT_START goes to the
holder of the leg's lease, with the tag that is active then, and otherwise the boundary posts none (R119). The
boundary comes at the tick that ends the period or lead-in, and the samples before it pass first; so it is for
every row that names what comes about at a boundary (log entries 4 and 5). -/
def Obligations.BoundaryOfTimerAndTripUnit : Prop :=
  ∀ s : State, s.Awake →
    (s.carrier.run = .stopped → exec .periodBoundary s = .next s)
    ∧ (s.carrier.run = .running → ¬ s.BoundaryNow →
      LetsSamplePass .periodBoundary s
      ∧ (∀ n, LetsSamplePass (.segmentLengthExpiry n) s ∧ LetsSamplePass (.escalation n) s)
      ∧ ∀ m, LetsSamplePass (.syncBreak m) s)
    ∧ (s.BoundaryNow →
      ∃ t, exec .periodBoundary s = .next t
        ∧ t.carrier =
            { s.carrier with
              divider := ⟨2 ^ s.carrier.prescale.val, true⟩
              active := s.carrier.preload
              counter := if s.carrier.mode = .edge then 0 else s.carrier.preload
              slope := if s.carrier.mode = .edge then .rising else .falling
              leadIn := false, dwell := 0, period := s.carrier.period + 1 }
        ∧ (∀ n, (s.leg n).escalates = false → (s.leg n).phase.isTripped = false →
            let u := s.leg n
            let u' := t.leg n
            (u'.phase.driving = true →
              u'.runCount = (if u.limited then min 255 (u.runCount + 1) else 0)
              ∧ u'.stage.cycleCut = (s.trip.trip0.level
                  && (u.stage.cycleCut
                    || (decide (u.phase = .idle) && decide (u.config.response = .cycle))))
              ∧ u'.limited = u'.stage.cycleCut)
            ∧ (u'.phase.driving = false →
              u'.phase = .idle ∧ u'.runCount = 0 ∧ u'.limited = false ∧ u'.stage.cycleCut = false)
            ∧ (∀ q, u.limited = false → u'.stage.cycleCut = true →
              (s.lease (.leg n)).holder? = some q → (s.port q).presence.level = true →
              (s.port q).mask.trip = true → (s.port q).notices.length ≤ 4 →
              (⟨.limitStart u.config.escalation, .leg n, u'.phase.activeTag,
                (s.carrier.period + 1).setWidth 16⟩ : Notice) ∈ (t.port q).notices)
            ∧ (∀ q, (u.limited = true ∨ u'.stage.cycleCut = false
                ∨ (s.lease (.leg n)).holder? ≠ some q) →
              let starts := fun (ns : List Notice) => ns.filter fun x =>
                match x.body with
                | .limitStart _ => decide (x.subject = .leg n)
                | _ => false
              starts (t.port q).notices = starts (s.port q).notices))
        ∧ t.chans = s.chans ∧ t.trip = s.trip ∧ t.rst = s.rst ∧ t.leaseClock = s.leaseClock
        ∧ ∀ r, (s.lease r).phase ≠ .releasing → t.lease r = s.lease r)

/-- What a boundary does to a leg, by the end test and R9 to R11: an active segment that does not end ages by
one and goes on, whether the head is marked or not; otherwise a head with no sync field becomes active with
elapsed 0, a clear latch and no cut, or with an empty queue the leg is IDLE. What a marked head does is stated
by `Obligations.JointAdvance` and `Obligations.HoldOrBreak`. A TRIPPED leg stays so, unless its rearm is
pending (R116, R122). SEGMENT_LENGTH_EXPIRY of a leg is that boundary (log entry 5). -/
def Obligations.BoundaryOfLeg : Prop :=
  ∀ (n : Leg) (i : Instr) (s : State), s.Awake → s.BoundaryNow →
    (s.leg n).escalates = false →
    (i = .periodBoundary
      ∨ (i = .segmentLengthExpiry n
        ∧ ∃ a len, (s.leg n).phase = .running a ∧ a.seg.length = some len
          ∧ len ≤ min 4095 (a.elapsed + 1))) →
    ∃ t, exec i s = .next t
      ∧ (t.leg n).config = (s.leg n).config ∧ (t.leg n).tripCount = (s.leg n).tripCount
      ∧ (∀ a, (s.leg n).phase = .running a → ¬ a.Ends (s.leg n).queue.length →
          (t.leg n).phase = .running { a with elapsed := min 4095 (a.elapsed + 1) }
          ∧ (t.leg n).queue = (s.leg n).queue)
      ∧ ((s.leg n).Free → (s.leg n).queue = [] → (t.leg n).phase = .idle ∧ (t.leg n).queue = [])
      ∧ (∀ head rest, (s.leg n).Free → (s.leg n).queue = head :: rest → head.sync = none →
          (t.leg n).phase = .running ⟨head, 0, false, .none⟩ ∧ (t.leg n).queue = rest)
      ∧ (∀ rec, (s.leg n).phase = .tripped rec →
          (t.leg n).queue = (s.leg n).queue
          ∧ (t.leg n).phase = if rec.rearm then .idle else .tripped rec)

/-- The segment notices of a leg at a boundary, to the holder of its lease, in their order. First SEGMENT_END
of a segment that ended, with the first reason of R8 that applies, if its notify asks for it (R8). Then, with
an empty queue, UNDERRUN after a segment that is neither final nor ended by LEASE (R9), and nothing from IDLE
or HOLDING (R10, R11); with a head that becomes active, alone or by a joint advance, SEGMENT_START if its
notify asks for it (R5, R46); at a HOLD nothing (R47); at a BREAK SYNC_BROKEN (R49, R56). No UNDERRUN comes
with a HOLD or a BREAK (R47, R49). Stated for a holder that admits segment notices, TRIP0 inactive, and for a
marked head a boundary at which no leg escalates, whose order against the legs is open (R120). -/
def Obligations.SegmentNoticesAtBoundary : Prop :=
  ∀ (n : Leg) (q : Port) (s : State), s.Awake → s.BoundaryNow →
    s.trip.trip0.level = false → (s.leg n).escalates = false →
    (s.lease (.leg n)).holder? = some q → (s.port q).presence.level = true →
    (s.port q).mask.segment = true → (s.port q).notices.length ≤ 4 →
    let u := s.leg n
    let ofLeg := fun (ns : List Notice) => ns.filter fun x => x.subject = .leg n
    let notice := fun (body : NoticeBody) (tag : Byte) =>
      (⟨body, .leg n, some tag, (s.carrier.period + 1).setWidth 16⟩ : Notice)
    let reason := fun (a : Active) =>
      if a.cut = .lease then EndReason.lease else if a.cut = .host then .cut
      else if a.latch then .condition
      else if a.seg.length.isSome then .length else .successor
    let finish :=
      match u.phase with
      | .running a =>
        if a.seg.notify = .finish ∨ a.seg.notify = .both then
          [notice (.segmentEnd a.seg.gen (reason a) (min 4095 (a.elapsed + 1))) a.seg.tag]
        else []
      | .idle | .holding _ | .tripped _ => []
    let underrun :=
      match u.phase with
      | .running a =>
        if a.seg.final = true ∨ reason a = .lease then [] else [notice (.underrun a.seg.gen) a.seg.tag]
      | .idle | .holding _ | .tripped _ => []
    ∃ t, exec .periodBoundary s = .next t
      ∧ (∀ a, u.phase = .running a → ¬ a.Ends u.queue.length →
          ofLeg (t.port q).notices = ofLeg (s.port q).notices)
      ∧ (u.Free →
        let posts := fun (then_ : List Notice) =>
          ofLeg (t.port q).notices = ofLeg (s.port q).notices ++ finish ++ then_
        (u.queue = [] → posts underrun)
        ∧ ∀ head rest, u.queue = head :: rest →
          let start :=
            if head.notify = .start ∨ head.notify = .both then
              [notice (.segmentStart head.gen rest.length) head.tag]
            else []
          (head.sync = none → posts start)
          ∧ ∀ f, head.sync = some f → (∀ k, (s.leg k).escalates = false) →
            let complete := ∀ k, f.legs.get k = true → (s.leg k).ReadyFor f
            (complete → posts start)
            ∧ (¬ complete → (s.mark f.mark).wait < s.carrier.syncLimit → posts [])
            ∧ (¬ complete → s.carrier.syncLimit ≤ (s.mark f.mark).wait →
              posts (if (s.port q).mask.sync then
                [notice (.syncBroken f.mark head.gen u.queue.length) head.tag] else [])))

/-- Segments that share a sync field become active in all legs of its set at the same boundary, or in none
(R46): at a boundary, the marked head of a ready leg becomes active exactly when every leg of its set is
ready with a head that carries the same field (R44). Stated for a boundary at which no leg escalates, whose
order against the legs the spec leaves open (R120). -/
def Obligations.JointAdvance : Prop :=
  ∀ s : State, s.Awake → s.BoundaryNow → (∀ n, (s.leg n).escalates = false) →
    ∃ t, exec .periodBoundary s = .next t
      ∧ ∀ (n : Leg) (head : Segment) (rest : List Segment) (f : SyncField),
        (s.leg n).queue = head :: rest → head.sync = some f → f.legs.get n = true → (s.leg n).Free →
        ((t.leg n).phase = .running ⟨head, 0, false, .none⟩ ∧ (t.leg n).queue = rest
          ↔ ∀ k, f.legs.get k = true → (s.leg k).ReadyFor f)

/-- A ready leg whose group is not complete holds while the wait count of its mark is below the sync limit,
and its plan breaks when it is not (R47 to R49, R56). It holds the output of the segment that ended, the
output it held, or its idle pattern; the count rises by one and the holding-leg set is the legs that hold on
the mark. A break leaves it IDLE with an empty queue and the mark at 0 and empty, and SYNC_BROKEN is posted
to its holder. SYNC_BREAK of a mark is that boundary (log entry 5). -/
def Obligations.HoldOrBreak : Prop :=
  ∀ (n : Leg) (head : Segment) (rest : List Segment) (f : SyncField) (s : State),
    s.Awake → s.BoundaryNow → (∀ k, (s.leg k).escalates = false) →
    (s.leg n).queue = head :: rest → head.sync = some f → f.legs.get n = true → (s.leg n).Free →
    (∃ k, f.legs.get k = true ∧ ¬ (s.leg k).ReadyFor f) →
    ((s.mark f.mark).wait < s.carrier.syncLimit →
      ∃ t, exec .periodBoundary s = .next t
        ∧ (t.leg n).phase = .holding
            (match (s.leg n).phase with
            | .running a => .segment a.seg.drive
            | .holding h => h
            | .idle | .tripped _ => .idlePattern)
        ∧ (t.leg n).queue = (s.leg n).queue
        ∧ (t.mark f.mark).wait = (s.mark f.mark).wait + 1
        ∧ ∀ k, (t.mark f.mark).holding.get k = true ↔
            ∃ f', f'.mark = f.mark ∧ (s.leg k).ReadyFor f'
              ∧ ∃ j, f'.legs.get j = true ∧ ¬ (s.leg j).ReadyFor f')
    ∧ (s.carrier.syncLimit ≤ (s.mark f.mark).wait →
      ∃ t, exec (.syncBreak f.mark) s = .next t ∧ exec .periodBoundary s = .next t
        ∧ (t.leg n).phase = .idle ∧ (t.leg n).queue = []
        ∧ t.mark f.mark = ⟨0, ⟨false, false, false, false⟩⟩
        ∧ ∀ q, (s.lease (.leg n)).holder? = some q → (s.port q).presence.level = true →
            (s.port q).mask.sync = true → (s.port q).notices.length ≤ 4 →
            (⟨.syncBroken f.mark head.gen (s.leg n).queue.length, .leg n, some head.tag,
              (s.carrier.period + 1).setWidth 16⟩ : Notice) ∈ (t.port q).notices)

/-- ESCALATION: the boundary that brings the run count of a leg to its escalation limit trips it with cause
ESCALATED (R120). The record takes the period number raised there; the run count is kept as this boundary
raised it. The escalation and the leg's boundary come in either order: the trip finds the leg as it stood,
with a successor just made active, or HOLDING. An active segment that does not end there gives the record its
tag in either order. A RELEASING lease passes on by the leg's report (R98), and TRIPPED, with the segments
discarded, goes to the holder that this leaves and to every SUPERVISOR (R115). That the row runs the whole
boundary, and takes the escalation first where the leg would otherwise go IDLE there, is DEDUCED (log
entry 5). -/
def Obligations.EscalationTrips : Prop :=
  ∀ (n : Leg) (s : State), s.Awake → s.BoundaryNow →
    (s.leg n).phase.driving = true → (s.leg n).limited = true →
    (s.leg n).config.escalation ≠ 0 →
    (s.leg n).config.escalation ≤ min 255 ((s.leg n).runCount + 1) →
    let u := s.leg n
    ∃ t tag discarded, exec (.escalation n) s = .next t
      ∧ (t.leg n).phase = .tripped ⟨.escalated, s.carrier.period + 1, tag, .empty, false⟩
      ∧ (t.leg n).queue = [] ∧ (t.leg n).tripCount = min 255 (u.tripCount + 1)
      ∧ (t.leg n).runCount = min 255 (u.runCount + 1)
      ∧ (t.leg n).limited = false ∧ (t.leg n).stage.cycleCut = false
      ∧ (t.leg n).config = u.config ∧ t.gateHigh n = false
      ∧ ((tag = u.phase.activeTag ∧ discarded = u.queue.length)
        ∨ (u.Free ∧ tag = none ∧ discarded = u.queue.length)
        ∨ (u.Free ∧ ∃ head rest, u.queue = head :: rest ∧ tag = some head.tag ∧ discarded = rest.length))
      ∧ (∀ a, u.phase = .running a → ¬ a.Ends u.queue.length →
          tag = some a.seg.tag ∧ discarded = u.queue.length)
      ∧ t.lease (.leg n) = s.leaseReported n
      ∧ (∀ q, s.hearsTripOf n q = true → (s.port q).presence.level = true →
          (s.port q).mask.trip = true → (s.port q).notices.length ≤ 4 →
          (⟨.tripped .escalated (min 255 (u.tripCount + 1)) discarded, .leg n, tag,
            (s.carrier.period + 1).setWidth 16⟩ : Notice) ∈ (t.port q).notices)
      ∧ t.carrier.period = s.carrier.period + 1

/-! ### Trips (chapter 7) -/

/-- TRIP1_ACTIVE and DISARM are a cause on all four legs (R111): each leg that is not TRIPPED trips at that
moment (R112, R113), a HOLDING one leaves the holding-leg set of its mark (R53), and a RELEASING lease of a
leg passes on by its report (R98). TRIPPED goes to the holder that this leaves and to every SUPERVISOR, to a
head waiter granted by the report after its LEASE_GRANTED, and to no other port; a leg that is TRIPPED already
posts nothing (R115). The carrier, the channels and the other leases are not changed. -/
def Obligations.TripReachesEveryLeg : Prop :=
  ∀ (i : Instr) (c : Cause) (s : State), s.Awake →
    (i = .trip1Active ∧ c = .trip1 ∧ s.trip.trip1.level = false
      ∨ i = .disarm ∧ c = .disarm ∧ s.trip.arm.level = true) →
    ∃ t, exec i s = .next t
      ∧ (i = .trip1Active → t.trip = { s.trip with trip1 := ⟨true, true, 0⟩ })
      ∧ (i = .disarm → t.trip = { s.trip with arm := ⟨false, false, 0⟩ })
      ∧ (∀ n, (s.leg n).phase.isTripped = false →
          (s.leg n).TrippedFrom (t.leg n) c s.carrier.period (s.leg n).phase.activeTag
          ∧ t.gateHigh n = false
          ∧ t.lease (.leg n) = s.leaseReported n)
      ∧ (∀ n m h, (s.leg n).phase = .holding h → (t.mark m).holding.get n = false)
      ∧ (∀ m, (t.mark m).wait = (s.mark m).wait)
      ∧ (∀ n q,
          let tripped : Notice :=
            ⟨.tripped c (min 255 ((s.leg n).tripCount + 1)) (s.leg n).queue.length, .leg n,
              (s.leg n).phase.activeTag, s.periodLow⟩
          let about := fun (ns : List Notice) =>
            ns.filter fun x => x.subject = .leg n ∨ x.subject = .resource (.leg n)
          ((s.leg n).phase.isTripped = false → s.hearsTripOf n q = true →
            (s.port q).presence.level = true → (s.port q).mask.trip = true →
            (s.port q).notices.length ≤ 8 → tripped ∈ (t.port q).notices)
          ∧ (((s.leg n).phase.isTripped = true ∨ s.hearsTripOf n q = false) →
            about (t.port q).notices = about (s.port q).notices)
          ∧ (∀ w ws, (s.leg n).phase.isTripped = false → (s.lease (.leg n)).phase = .releasing →
            (s.lease (.leg n)).waiters = w :: ws → w.port = q →
            (s.port q).presence.level = true → (s.port q).mask.trip = true →
            (s.port q).mask.lease = true → (s.port q).notices.length ≤ 8 →
            about (t.port q).notices = about (s.port q).notices
              ++ [⟨.leaseGranted (s.lease (.leg n)).genAfter w.interval, .resource (.leg n), none,
                s.periodLow⟩, tripped]))
      ∧ t.carrier = s.carrier ∧ t.chans = s.chans ∧ t.rst = s.rst ∧ t.leaseClock = s.leaseClock
      ∧ t.lease .carrier = s.lease .carrier ∧ ∀ d, t.lease (.chan d) = s.lease (.chan d)

/-- R114: a cause that arises on a TRIPPED leg joins its further causes, which are a set; the first cause is
not changed; a pending rearm is cancelled; and nothing else of the leg changes: its source stays the trip
pattern, its trip count is not increased, and no notice about it is posted. Here for each way in which a
cause arises between boundaries (R111): TRIP1, ARM, TRIP0 under LATCH or after an escalation, and a SET_LEG,
which changes the settings as well. -/
def Obligations.FurtherCauseOfTrippedLeg : Prop :=
  ∀ (n : Leg) (rec : TripRecord) (i : Instr) (c : Cause) (cfg : LegConfig) (s : State),
    s.Awake → (s.leg n).phase = .tripped rec →
    ((i = .trip1Active ∧ c = .trip1 ∧ s.trip.trip1.level = false ∧ cfg = (s.leg n).config)
      ∨ (i = .disarm ∧ c = .disarm ∧ s.trip.arm.level = true ∧ cfg = (s.leg n).config)
      ∨ (i = .trip0Active ∧ c = .trip0 ∧ s.trip.trip0.level = false ∧ cfg = (s.leg n).config
        ∧ ((s.leg n).config.response = .latch ∨ rec.first = .escalated))
      ∨ (∃ p seq b g d pat e, i = .setLeg p seq b g d pat e ∧ c = .trip0 ∧ legOf b = some n
        ∧ s.Ready p ∧ s.Holds p (.leg n) g ∧ legConfigOf d pat e = some cfg
        ∧ (s.leg n).config.response = .cycle ∧ cfg.response = .latch ∧ s.trip.trip0.level = true)) →
    ∃ t, exec i s = .next t
      ∧ (∃ stage, t.leg n = { s.leg n with
            config := cfg, stage := stage
            phase := .tripped { rec with
              further :=
                ⟨rec.further.trip0 || decide (c = .trip0), rec.further.trip1 || decide (c = .trip1),
                  rec.further.disarm || decide (c = .disarm), rec.further.escalated⟩
              rearm := false } }
          ∧ (cfg = (s.leg n).config → stage = (s.leg n).stage))
      ∧ (t.leg n).output = .pattern cfg.tripPattern
      ∧ ∀ q, (t.port q).notices.filter (fun x => x.subject = .leg n)
          = (s.port q).notices.filter (fun x => x.subject = .leg n)

/-- TRIP0_ACTIVE on each leg (R111, R117 to R119): under LATCH a trip, by which a RELEASING lease passes on
(R98) and TRIPPED goes to the holder that this leaves and to every SUPERVISOR (R115); under CYCLE a RUNNING or
HOLDING leg is cut and its period limited, with LIMIT_START to its holder at the first limited period of a
run, and an IDLE leg or a leg TRIPPED by another cause than ESCALATED is left alone. -/
def Obligations.Trip0LatchesOrCuts : Prop :=
  ∀ s : State, s.Awake → s.trip.trip0.level = false →
    ∃ t, exec .trip0Active s = .next t ∧ t.trip = { s.trip with trip0 := ⟨true, true, 0⟩ }
      ∧ t.carrier = s.carrier ∧ t.chans = s.chans ∧ t.rst = s.rst
      ∧ ∀ n,
        ((s.leg n).config.response = .latch → (s.leg n).phase.isTripped = false →
          (s.leg n).TrippedFrom (t.leg n) .trip0 s.carrier.period (s.leg n).phase.activeTag
          ∧ t.gateHigh n = false
          ∧ t.lease (.leg n) = s.leaseReported n
          ∧ ∀ q, s.hearsTripOf n q = true → (s.port q).presence.level = true →
              (s.port q).mask.trip = true → (s.port q).notices.length ≤ 8 →
              (⟨.tripped .trip0 (min 255 ((s.leg n).tripCount + 1)) (s.leg n).queue.length, .leg n,
                (s.leg n).phase.activeTag, s.periodLow⟩ : Notice) ∈ (t.port q).notices)
        ∧ ((s.leg n).config.response = .cycle → (s.leg n).phase.driving = true →
          t.leg n = { s.leg n with
            limited := true
            stage := { (s.leg n).stage with cycleCut := true } }.settle s.carrier.counter
          ∧ t.gateHigh n = false ∧ t.lease (.leg n) = s.lease (.leg n)
          ∧ ∀ q, (s.lease (.leg n)).holder? = some q → (s.leg n).limited = false →
              (s.leg n).runCount = 0 → (s.port q).presence.level = true → (s.port q).mask.trip = true →
              (s.port q).notices.length ≤ 8 →
              (⟨.limitStart (s.leg n).config.escalation, .leg n, (s.leg n).phase.activeTag,
                s.periodLow⟩ : Notice) ∈ (t.port q).notices)
        ∧ ((s.leg n).config.response = .cycle → (s.leg n).phase = .idle → t.leg n = s.leg n)
        ∧ (∀ rec, (s.leg n).config.response = .cycle → (s.leg n).phase = .tripped rec →
          rec.first ≠ .escalated → t.leg n = s.leg n)

/-! ### Output stages (chapter 4) -/

/-- The turn-on rule (R62). SIDE_TURN_ON is the sample of the core clock at which a side turns on: one that the
last sample left off, that is demanded when the sample ends, and whose count stood at the leg's dead time or
above. It is on after it, its count is risen by one, up to 255, and the other side is off with its count at 0.
The row runs that sample for the whole part, as an idle step does (`Obligations.IdleStepIsOneSample`); where
nothing falls due at it, every stage is judged with the demands that stand, and beyond that only the filters
and dividers move (DESIGN CHOICE, log entries 2, 5 and 21). Where the side does not turn on at the sample, the
row changes nothing (log entry 6). After a sample no leg has both sides on, and no side is on that is not
demanded. -/
def Obligations.SideTurnsOnAfterDeadTime : Prop :=
  ∀ (n : Leg) (side : Side) (s : State), s.Awake →
    let row := exec (.sideTurnOn n side) s
    let before := (s.leg n).stage
    let d := (s.leg n).config.deadTime
    let other := fun (x : Side) => match x with
      | .high => Side.low
      | .low => .high
    (s.due = [] → (before.side (other side)).demand = false →
      (before.side side).demand = true → (before.side side).driven = false →
      (d ≤ (before.side side).count →
        ∃ t, row = .next t
          ∧ (t.leg n).stage.side side = ⟨true, true, min 255 ((before.side side).count + 1)⟩
          ∧ (t.leg n).stage.side (other side) = ⟨false, false, 0⟩
          ∧ (∀ k, ((s.leg k).stage.high.demand = false ∨ (s.leg k).stage.low.demand = false) →
              t.leg k = (s.leg k).judged)
          ∧ t.leases = s.leases ∧ t.sync = s.sync ∧ t.rst = s.rst ∧ t.pending = s.pending
          ∧ (∀ p, t.port p = { s.port p with presence := (t.port p).presence })
          ∧ (∀ c, t.chan c = { s.chan c with
              x := (t.chan c).x, y := (t.chan c).y, z := (t.chan c).z
              divider := (t.chan c).divider })
          ∧ t.carrier = { s.carrier with divider := t.carrier.divider }
          ∧ t.leaseClock.number = s.leaseClock.number
          ∧ t.trip.trip0.level = s.trip.trip0.level ∧ t.trip.trip1.level = s.trip.trip1.level
          ∧ t.trip.arm.level = s.trip.arm.level)
      ∧ ((before.side side).count < d → row = .next s))
    ∧ ((before.side side).driven = true → row = .next s)
    ∧ (∃ t, row = .next t
      ∧ (t = s ∨ ((before.side side).driven = false ∧ d ≤ (before.side side).count
          ∧ (t.leg n).stage.side side = ⟨true, true, min 255 ((before.side side).count + 1)⟩
          ∧ ((t.leg n).stage.side (other side)).driven = false)))
    ∧ (s.pending = [] →
      ∃ t, step s = .next t
        ∧ (let after := (t.leg n).stage
          ((before.side side).driven = false → (after.side side).driven = true →
            row = .next t ∧ (after.side side).demand = true ∧ d ≤ (before.side side).count
            ∧ (after.side (other side)).driven = false)
          ∧ ((after.side side).driven = false → row = .next s))
        ∧ (t.leg n).config.deadTime = d
        ∧ ¬ (t.gateHigh n = true ∧ t.gateLow n = true)
        ∧ (t.gateHigh n = true → (t.leg n).stage.high.demand = true)
        ∧ (t.gateLow n = true → (t.leg n).stage.low.demand = true))

/-! ### The Carrier Timer (chapter 2) -/

/-- CARRIER_TICK (R27 to R30): EDGE counts up to the active period and wraps at the tick after; CENTER
counts down to 0, up again, and reaches the active period at its boundary; a CENTER lead-in holds 0 for
P + 1 ticks. The tick that ends a period or lead-in is the boundary. At every other tick each stage compares
its duty against the new count (R59), and nothing else changes; while STOPPED there is no tick. The tick comes
prescale samples after the one before it (R27), and the samples before it pass first; the sample of the tick
ends with the next sample that passes, which judges the sides (DESIGN CHOICE, log entries 4 and 21). -/
def Obligations.CarrierTickCounts : Prop :=
  ∀ s : State, s.Awake →
    let t := s.carrier
    let given : Divider := ⟨2 ^ t.prescale.val, true⟩
    let counted := fun (t' : Carrier) =>
      exec .carrierTick s
        = .next { s with carrier := t', legs := .ofFn fun n => (s.leg n).settle t'.counter }
    (t.run = .stopped → exec .carrierTick s = .next s)
    ∧ (t.run = .running → t.divider.due = false → LetsSamplePass .carrierTick s)
    ∧ (t.run = .running → t.divider.due = true →
      (t.mode = .edge → t.counter < t.active →
        counted { t with counter := t.counter + 1, divider := given })
      ∧ (t.mode = .edge → t.active ≤ t.counter → exec .carrierTick s = exec .periodBoundary s)
      ∧ (t.mode = .center → t.slope = .falling → 1 ≤ t.counter →
        counted { t with counter := t.counter - 1, divider := given })
      ∧ (t.mode = .center → t.slope = .falling → t.counter = 0 → t.leadIn = true → t.dwell < t.active →
        counted { t with dwell := t.dwell + 1, divider := given })
      ∧ (t.mode = .center → t.slope = .falling → t.counter = 0 →
          (t.leadIn = false ∨ t.active ≤ t.dwell) →
        counted { t with counter := 1, slope := .rising, divider := given })
      ∧ (t.mode = .center → t.slope = .rising → t.counter + 1 < t.active →
        counted { t with counter := t.counter + 1, divider := given })
      ∧ (t.mode = .center → t.slope = .rising → t.active ≤ t.counter + 1 →
        exec .carrierTick s = exec .periodBoundary s))
    ∧ ∀ (n : Leg) (a : Active) (duty : Half) (sides : Sides) (count : Nat),
      (s.leg n).phase = .running a → a.seg.drive = .modulate duty sides →
      (((s.leg n).settle count).stage.reference = decide (count < duty.toNat))

/-- SET_PERIOD writes the preload, and while STOPPED the active period too (R34); SET_SYNC_LIMIT writes the
limit (R38); SET_CARRIER sets mode and prescale and restarts the counter, with a lead-in while RUNNING, and
is refused BUSY while a leg is RUNNING or HOLDING (R35); START restarts the counter and the period number
from 0 with a lead-in, and is refused BUSY while RUNNING (R36). Both start the divider afresh, so that the
first tick comes prescale samples after the sample of the command (R27). Nothing else changes. -/
def Obligations.CarrierSettings : Prop :=
  ∀ (p : Port) (seq m e : Byte) (g v : Half) (s : State), s.Ready p → s.Holds p .carrier g →
    let t := s.carrier
    let driving := ∃ n, (s.leg n).phase.driving = true
    let restarted := fun (t' : Carrier) =>
      ({ s with carrier := t', legs := .ofFn fun n => (s.leg n).settle 0 } : State)
    (16 ≤ v.toNat →
      exec (.setPeriod p seq g v) s
        = .next ((s.setCarrier
            { t with
              preload := v.toNat
              active := if t.run = .stopped then v.toNat else t.active }).answered p
                ⟨seq, 0x30, .ok, []⟩))
    ∧ (1 ≤ v.toNat → v.toNat ≤ 1023 →
      exec (.setSyncLimit p seq g v) s
        = .next ((s.setCarrier { t with syncLimit := v.toNat }).answered p ⟨seq, 0x34, .ok, []⟩))
    ∧ (m.toNat ≤ 1 → e.toNat ≤ 7 → driving →
      exec (.setCarrier p seq g m e) s = .next (s.answered p ⟨seq, 0x31, .busy, []⟩))
    ∧ (∀ x : Fin 8, m.toNat ≤ 1 → e.toNat = x.val → ¬ driving →
      exec (.setCarrier p seq g m e) s
        = .next ((restarted
            { t with
              mode := if m = 1 then .edge else .center
              prescale := x, divider := ⟨2 ^ x.val, true⟩, counter := 0
              slope := if m = 1 then .rising else .falling
              leadIn := decide (t.run = .running), dwell := 0 }).answered p ⟨seq, 0x31, .ok, []⟩))
    ∧ (t.run = .running →
      exec (.start p seq g) s = .next (s.answered p ⟨seq, 0x32, .busy, []⟩))
    ∧ (t.run = .stopped →
      exec (.start p seq g) s
        = .next ((restarted
            { t with
              run := .running, period := 0, divider := ⟨2 ^ t.prescale.val, true⟩, counter := 0
              slope := if t.mode = .edge then .rising else .falling
              leadIn := true, dwell := 0 }).answered p ⟨seq, 0x32, .ok, []⟩))

/-- STOP is refused BUSY while a leg is RUNNING or HOLDING, changes nothing while STOPPED, and otherwise
stops the counter where it stands, copies the preload into the active period and ends a lead-in (R37). A
pending rearm completes at that moment (R124): the leg is IDLE with its record cleared, and REARMED, with the
first cause, the trip count and the period number that the STOPPED carrier holds, goes to the holder of the
leg and every SUPERVISOR; no other notice is posted. Nothing else changes. -/
def Obligations.StopHaltsCarrier : Prop :=
  ∀ (p : Port) (seq : Byte) (g : Half) (s : State), s.Ready p → s.Holds p .carrier g →
    let halted := { s.carrier with run := .stopped, active := s.carrier.preload, leadIn := false }
    let rearms := fun (n : Leg) (q : Port) => (s.leg n).phase.rearmPending && s.hearsTrips n q
    (s.carrier.run = .stopped →
      exec (.stop p seq g) s = .next (s.answered p ⟨seq, 0x33, .ok, []⟩))
    ∧ (s.carrier.run = .running → (∃ n, (s.leg n).phase.driving = true) →
      exec (.stop p seq g) s = .next (s.answered p ⟨seq, 0x33, .busy, []⟩))
    ∧ (s.carrier.run = .running → (∀ n, (s.leg n).phase.driving = false) →
      ((∀ n rec, (s.leg n).phase = .tripped rec → rec.rearm = false) →
        exec (.stop p seq g) s = .next ((s.setCarrier halted).answered p ⟨seq, 0x33, .ok, []⟩))
      ∧ ∃ t, exec (.stop p seq g) s = .next t ∧ t.carrier = halted
        ∧ (∀ n, t.leg n = if (s.leg n).phase.rearmPending then (s.leg n).rearmed s.carrier.counter
            else s.leg n)
        ∧ t.leases = s.leases ∧ t.chans = s.chans ∧ t.sync = s.sync ∧ t.trip = s.trip ∧ t.rst = s.rst
        ∧ t.leaseClock = s.leaseClock ∧ t.pending = s.pending
        ∧ s.AnsweredIn t p ⟨seq, 0x33, .ok, []⟩
        ∧ ∀ q,
          (((∀ n, rearms n q = false) ∨ (s.port q).presence.level = false
              ∨ (s.port q).mask.trip = false) →
            (t.port q).notices = (s.port q).notices ∧ (t.port q).lost = (s.port q).lost)
          ∧ ((s.port q).presence.level = true → (s.port q).mask.trip = true →
            (s.port q).notices.length ≤ 12 →
            (t.port q).lost = (s.port q).lost
            ∧ (t.port q).notices.filter (fun x => x.subject = .none)
              = (s.port q).notices.filter (fun x => x.subject = .none)
            ∧ (∀ c, (t.port q).notices.filter (fun x => x.subject = .chan c)
              = (s.port q).notices.filter (fun x => x.subject = .chan c))
            ∧ (∀ r, (t.port q).notices.filter (fun x => x.subject = .resource r)
              = (s.port q).notices.filter (fun x => x.subject = .resource r))
            ∧ ∀ n,
              let before := (s.port q).notices.filter (fun x => x.subject = .leg n)
              let after := (t.port q).notices.filter (fun x => x.subject = .leg n)
              (rearms n q = false → after = before)
              ∧ ∀ rec, (s.leg n).phase = .tripped rec → rearms n q = true →
                after = before ++ [⟨.rearmed rec.first (s.leg n).tripCount, .leg n, none, s.periodLow⟩]))

/-! ### Position channels (chapters 8 and 9) -/

/-- SET_CHANNEL takes the six settings, clears counts, latches, stall and filter counts, starts the divider
afresh and keeps accepted levels, phase and subscribers (R144); the divider gives no tick at the sample of the
command, so that the timer is 0 at the end of that sample (R139, and the last row of R145); SET_POSITION
writes the position alone (R146); SUBSCRIBE replaces the port's own set of kinds on the channel and answers
with the set in force and the set it replaced (R155). Nothing else changes. -/
def Obligations.ChannelCommands : Prop :=
  ∀ (p : Port) (seq b m fl ie e k : Byte) (g v : Half) (c : Chan) (cfg : ChanConfig) (s : State),
    s.Ready p → chanOf b = some c →
    let ch := s.chan c
    (s.Holds p (.chan c) g → chanConfigOf m fl v ie e = some cfg →
      exec (.setChannel p seq b g m fl v ie e) s
        = .next ((s.setChan c
            { config := cfg, divider := ⟨2 ^ cfg.prescale.val, true⟩
              x := { ch.x with count := 0 }, y := { ch.y with count := 0 }
              z := { ch.z with count := 0 }, phase := ch.phase
              position := 0, revolutions := 0, direction := .none, timer := 0, intervalLatch := 0
              indexLatch := 0, capture := .waitFirst, widthTaken := false, widthLatch := 0
              periodLatch := 0, stall := false, subscribers := ch.subscribers }).answered p
                ⟨seq, 0x40, .ok, []⟩)
      ∧ ∀ t, exec (.setChannel p seq b g m fl v ie e) s = .next t →
        (t.sample.chan c).timer = 0 ∧ (t.sample.chan c).divider = ⟨2 ^ cfg.prescale.val, false⟩)
    ∧ (s.Holds p (.chan c) g → v.toNat < ch.config.modulus →
      exec (.setPosition p seq b g v) s
        = .next ((s.setChan c { ch with position := v.toNat }).answered p ⟨seq, 0x41, .ok, []⟩))
    ∧ (k.toNat < 32 →
      exec (.subscribe p seq b k) s
        = .next ((s.setChan c { ch with
            subscribers := ch.subscribers.set p
              ⟨k.getLsbD 0, k.getLsbD 1, k.getLsbD 2, k.getLsbD 3, k.getLsbD 4⟩ }).answered p
                ⟨seq, 0x43, .ok, [k, (ch.subscribers.get p).mask]⟩))

/-- R134: in STEP_DIR an active edge of X is one counted step, RISING a change from 0 to 1 and FALLING from 1
to 0; its sign is taken from Y as accepted before, +1 when Y is 0 and −1 when Y is 1, and a Y accepted at the
same sample applies from the next edge on. An interval tick of the same sample comes before the step or change
(R139). Changes of Y alone, and an edge of X that is not the active one, count nothing. What a counted step
does is `State.CountedStep`. No step shares its sample with a STALL (R139, R143): after a tick of the sample
that left the channel stalled, the row lies at the next sample (DESIGN CHOICE, log entry 16). -/
def Obligations.StepDirCounts : Prop :=
  ∀ (c : Chan) (y : Bool) (s : State), s.Awake → (s.chan c).config.mode = .stepDir →
    let ch := s.chan c
    let active := (ch.config.edge = .rising ∧ ch.x.level = false)
      ∨ (ch.config.edge = .falling ∧ ch.x.level = true)
    (active → ch.stalledNow = false →
      ∃ t, exec (.stepDirEdge c y) s = .next t ∧ s.CountedStep t c (!ch.y.level)
        ∧ (t.chan c).x.level = !ch.x.level ∧ (t.chan c).y.level = y
        ∧ (t.chan c).phase = phaseOf (!ch.x.level) y)
    ∧ (active → ch.stalledNow = true → LetsSamplePass (.stepDirEdge c y) s)
    ∧ (¬ active →
      ChangesOnlyLevels (.acceptedLevelChange c (!ch.x.level) y ch.z.level) c (!ch.x.level) y ch.z.level s)
    ∧ ChangesOnlyLevels (.acceptedLevelChange c ch.x.level (!ch.y.level) ch.z.level) c ch.x.level
        (!ch.y.level) ch.z.level s

/-- R135: in UP_DOWN an active edge of X counts +1 and an active edge of Y counts −1, both by the channel's
one active edge setting; both at one sample cancel: no step, nothing but the levels changes, and no notice is
posted. An interval tick of the same sample comes before the step or change (R139). Edges of either input that
are not the active edge count nothing. No step shares its sample with a STALL (R139, R143): after a tick of the
sample that left the channel stalled, the row lies at the next sample (DESIGN CHOICE, log entry 16). -/
def Obligations.UpDownCounts : Prop :=
  ∀ (c : Chan) (x y : Bool) (s : State), s.Awake → (s.chan c).config.mode = .upDown →
    let ch := s.chan c
    let edge := fun (old new : Bool) =>
      (ch.config.edge = .rising ∧ old = false ∧ new = true)
      ∨ (ch.config.edge = .falling ∧ old = true ∧ new = false)
    (edge ch.x.level x → ¬ edge ch.y.level y → ch.stalledNow = false →
      ∃ t, exec (.upDownEdge c x y) s = .next t ∧ s.CountedStep t c true
        ∧ (t.chan c).x.level = x ∧ (t.chan c).y.level = y ∧ (t.chan c).phase = phaseOf x y)
    ∧ (¬ edge ch.x.level x → edge ch.y.level y → ch.stalledNow = false →
      ∃ t, exec (.upDownEdge c x y) s = .next t ∧ s.CountedStep t c false
        ∧ (t.chan c).x.level = x ∧ (t.chan c).y.level = y ∧ (t.chan c).phase = phaseOf x y)
    ∧ ((edge ch.x.level x ↔ ¬ edge ch.y.level y) → ch.stalledNow = true →
      LetsSamplePass (.upDownEdge c x y) s)
    ∧ (edge ch.x.level x → edge ch.y.level y →
      ChangesOnlyLevels (.upDownEdge c x y) c x y ch.z.level s)
    ∧ (¬ edge ch.x.level x → ¬ edge ch.y.level y → (x ≠ ch.x.level ∨ y ≠ ch.y.level) →
      ChangesOnlyLevels (.acceptedLevelChange c x y ch.z.level) c x y ch.z.level s)

/-- In QUAD a change of one of X and Y is one counted step, +1 to the next place of the cycle 0, 1, 2, 3 and
−1 to the one before (R132); a change of both is a phase error, which counts nothing, takes the phase of the
new levels and posts PHASE_ERROR to the ports that subscribe to it (R133, R143). An interval tick of the same
sample comes before either (R139; before a phase error DEDUCED, log entry 16), and a step lies at the next
sample where that tick left the channel stalled (DESIGN CHOICE, log entry 16). The phase is 0, 1, 2, 3 for
the levels 00, 10, 11, 01 of X and Y. In OFF a change takes the levels and the phase and nothing else
(R130). -/
def Obligations.QuadCounts : Prop :=
  ∀ (c : Chan) (x y : Bool) (s : State), s.Awake → (s.chan c).phase = phaseOf (s.chan c).x.level (s.chan c).y.level →
    let ch := s.chan c
    phaseOf false false = 0 ∧ phaseOf true false = 1 ∧ phaseOf true true = 2 ∧ phaseOf false true = 3
    ∧ (ch.config.mode = .quad → ((x ≠ ch.x.level ∧ y = ch.y.level) ∨ (x = ch.x.level ∧ y ≠ ch.y.level)) →
      ch.stalledNow = true → LetsSamplePass (.quadInputChange c x y) s)
    ∧ (ch.config.mode = .quad → ((x ≠ ch.x.level ∧ y = ch.y.level) ∨ (x = ch.x.level ∧ y ≠ ch.y.level)) →
      ch.stalledNow = false → ∃ t up, exec (.quadInputChange c x y) s = .next t ∧ s.CountedStep t c up
        ∧ (t.chan c).x.level = x ∧ (t.chan c).y.level = y
        ∧ (t.chan c).phase = phaseOf x y
        ∧ (t.chan c).phase = (if up then (ch.phase + 1) % 4 else (ch.phase + 3) % 4))
    ∧ (ch.config.mode = .quad → x ≠ ch.x.level → y ≠ ch.y.level → ch.divider.due = true →
      TakenAfterTick (.quadInputChange c x y) c s)
    ∧ (ch.config.mode = .quad → x ≠ ch.x.level → y ≠ ch.y.level → ch.divider.due = false →
      ∃ t fx fy, exec (.quadInputChange c x y) s = .next t
        ∧ fx.level = x ∧ fy.level = y
        ∧ t.chan c = { ch with x := fx, y := fy, phase := phaseOf x y } ∧ t.legs = s.legs
        ∧ (∀ d, d ≠ c → t.chan d = s.chan d)
        ∧ ∀ q, t.port q =
            if (ch.subscribers.get q).phaseError then
              (s.port q).receiveCopy ⟨.phaseError (phaseOf x y) ch.position, .chan c, none, s.periodLow⟩
            else s.port q)
    ∧ (∀ z, ch.config.mode = .off → (x ≠ ch.x.level ∨ y ≠ ch.y.level ∨ z ≠ ch.z.level) →
      ChangesOnlyLevels (.acceptedLevelChange c x y z) c x y z s)

/-- INDEX_EDGE latches the position, zeroes it under LATCH_AND_ZERO without counting a step, and posts INDEX
(R138). CAPTURE_EDGE starts a measurement from WAIT_FIRST at an active edge, takes the width at the opposite
edge, and at the next active edge takes the period, posts CAPTURE and starts again (R141). An interval tick of
the same sample comes first, with the saturation it brings about (R139, R142; before an index edge DEDUCED,
log entry 16). Legs, leases and the other channel are not touched; notices go to the ports that subscribe to
their kind (R143, R156). -/
def Obligations.IndexAndCaptureEdges : Prop :=
  ∀ (c : Chan) (s : State), s.Awake →
    let ch := s.chan c
    let posts := fun (t : State) (wants : Kinds → Bool) (body : NoticeBody) =>
      (∀ q, t.port q =
        if wants (ch.subscribers.get q) then (s.port q).receiveCopy ⟨body, .chan c, none, s.periodLow⟩
        else s.port q)
      ∧ t.legs = s.legs ∧ t.leases = s.leases ∧ t.carrier = s.carrier ∧ ∀ d, d ≠ c → t.chan d = s.chan d
    let active := (ch.config.edge = .rising ∧ ch.x.level = false)
      ∨ (ch.config.edge = .falling ∧ ch.x.level = true)
    let flipped : Filter := ⟨!ch.x.level, !ch.x.level, 0⟩
    let phase := phaseOf (!ch.x.level) ch.y.level
    (ch.config.mode.counting = true → ch.config.indexUse ≠ .off → ch.z.level = false →
      (ch.divider.due = true → TakenAfterTick (.indexEdge c) c s)
      ∧ (ch.divider.due = false → ch.phase = phaseOf ch.x.level ch.y.level →
      ∃ t, exec (.indexEdge c) s = .next t
        ∧ t.chan c =
            { ch with
              z := ⟨true, true, 0⟩
              indexLatch := ch.position
              position := if ch.config.indexUse = .latchAndZero then 0 else ch.position }
        ∧ posts t Kinds.index (.index ch.position ch.revolutions)))
    ∧ (ch.config.mode = .capture → ch.divider.due = true → TakenAfterTick (.captureEdge c) c s)
    ∧ (ch.config.mode = .capture → ch.divider.due = false → ch.capture = .waitFirst → active →
      exec (.captureEdge c) s
        = .next (s.setChan c { ch with
            x := flipped, phase := phase, timer := 0, stall := false, widthTaken := false
            capture := .measuring }))
    ∧ (ch.config.mode = .capture → ch.divider.due = false → ch.capture = .waitFirst → ¬ active →
      exec (.captureEdge c) s = .next (s.setChan c { ch with x := flipped, phase := phase }))
    ∧ (ch.config.mode = .capture → ch.divider.due = false → ch.capture = .measuring → ¬ active →
      exec (.captureEdge c) s
        = .next (s.setChan c { ch with
            x := flipped, phase := phase, widthLatch := ch.timer, widthTaken := true }))
    ∧ (ch.config.mode = .capture → ch.divider.due = false → ch.capture = .measuring → active →
      ∃ t, exec (.captureEdge c) s = .next t
        ∧ t.chan c =
            { ch with
              x := flipped, phase := phase, periodLatch := ch.timer, timer := 0, widthTaken := false }
        ∧ posts t Kinds.capture (.capture ch.widthLatch ch.timer))

/-- INTERVAL_TICK raises the timer in a counting mode and in MEASURING, and leaves it alone elsewhere and at
65535 (R139). The tick that brings it to 65535 is, in a counting mode, the STALL event: the stall is set, the
interval latch takes 65535 and STALL is posted with the position (R140); in MEASURING it is the
CAPTURE_SATURATION event: the latches take 65535 but for a width already taken, the stall is set, the timer is
0, the state is WAIT_FIRST, and STALL is posted with 0 (R142; width taken reads no after it, DEDUCED, log
entry 22). A tick comes prescale samples after the one before it (R139); the samples before the tick, or
before the one that saturates, pass first (log entry 4). Where the filters accept a counted step at the sample
of the tick to 65535, there is no STALL: the step latches 65535 and the stall stays clear (R139); the row
INTERVAL_TICK is then that whole sample (log entry 16). -/
def Obligations.IntervalTimerCounts : Prop :=
  ∀ (c : Chan) (s : State), s.Awake →
    let ch := s.chan c
    let given : Divider := ⟨2 ^ ch.config.prescale.val, true⟩
    let posts := fun (t : State) (body : NoticeBody) =>
      (∀ q, t.port q =
        if (ch.subscribers.get q).stall then (s.port q).receiveCopy ⟨body, .chan c, none, s.periodLow⟩
        else s.port q)
      ∧ t.legs = s.legs ∧ t.leases = s.leases ∧ t.carrier = s.carrier ∧ ∀ d, d ≠ c → t.chan d = s.chan d
    let stalled := { ch with divider := given, timer := 65535, stall := true, intervalLatch := 65535 }
    let saturated :=
      { ch with
        divider := given, periodLatch := 65535
        widthLatch := if ch.widthTaken then ch.widthLatch else 65535
        widthTaken := false, stall := true, timer := 0, capture := .waitFirst }
    (ch.divider.due = false → LetsSamplePass (.intervalTick c) s)
    ∧ (ch.accepting = false → (ch.divider.due = false ∨ ch.timer ≠ 65534) →
      LetsSamplePass (.stall c) s ∧ LetsSamplePass (.captureSaturation c) s)
    ∧ (ch.divider.due = true →
      (ch.timerRuns = true → ch.timer < 65534 →
        exec (.intervalTick c) s
          = .next (s.setChan c { ch with timer := ch.timer + 1, divider := given }))
      ∧ ((ch.timerRuns = false ∨ 65535 ≤ ch.timer) →
        exec (.intervalTick c) s = .next (s.setChan c { ch with divider := given }))
      ∧ (ch.config.mode.counting = true → ch.timer = 65534 → ch.stepFallsDue = true →
        (∃ t, exec (.intervalTick c) s = .next t ∧ t = s.sample
          ∧ (t.chan c).timer = 0 ∧ (t.chan c).intervalLatch = 65535 ∧ (t.chan c).stall = false)
        ∧ exec (.stall c) s = .next s)
      ∧ (ch.config.mode.counting = true → ch.timer = 65534 → ch.stepFallsDue = false →
        ∃ t, exec (.intervalTick c) s = .next t ∧ exec (.stall c) s = .next t
          ∧ t.chan c = stalled ∧ posts t (.stall ch.config.mode ch.position))
      ∧ (ch.config.mode = .capture → ch.capture = .measuring → ch.timer = 65534 →
        ∃ t, exec (.intervalTick c) s = .next t ∧ exec (.captureSaturation c) s = .next t
          ∧ t.chan c = saturated ∧ posts t (.stall .capture 0)))

/-! ### Invariants that every step keeps -/

/-- The queues and counts of every port engine stay within their bounds, and it has at most one transaction,
in progress or ignored (R158); a port whose presence is low has empty queues and holds no lease, no waiter
entry and no subscription; a command waits only behind a full response queue; and no notice copy is left on
its way (R102, R154, R157, R164, R171). Every step keeps all of it together. -/
def Obligations.PortsKept : Prop :=
  ∀ s t : State, s.Quiet → s.PortsOk → s.AbsentHoldsNothing → s.EnginesBusy → step s = .next t →
    t.Quiet ∧ t.PortsOk ∧ t.AbsentHoldsNothing ∧ t.EnginesBusy

/-- Every lease record stays as R73 to R76 allow, RELEASING stays on leg resources, and every leg's plan
belongs to its lease: a FREE leg is at rest with an empty queue, a RELEASING one runs down with an empty
queue and a LEASE cut, and on a HELD one every pending segment carries the current generation, and so does
the active one unless it is cut by LEASE (R97, R105, R108). Every step keeps it. -/
def Obligations.LeasesAndPlansKept : Prop :=
  ∀ s t : State, s.LeasesOk → s.PlansFenced → step s = .next t → t.LeasesOk ∧ t.PlansFenced

/-- Every Leg Unit stays as its rules allow, every output stage follows its leg, and at no time are both gate
outputs of a leg on (R3, R6, R57 to R63, R112, R117, R118). Every step keeps it. -/
def Obligations.LegsAndStagesKept : Prop :=
  ∀ s t : State, s.LegsOk → s.StagesFollow → step s = .next t →
    t.LegsOk ∧ t.StagesFollow ∧ t.NeverBothOn

/-- The Carrier Timer stays within its ranges, and no leg is RUNNING or HOLDING while it is STOPPED or in a
lead-in (R26, R30, R40); a wait count never exceeds 1023, and a leg in a holding-leg set is HOLDING on that
mark (R43, R48, R51 to R53); a channel's position stays below its modulus, its phase is that of its accepted
levels, and its timer holds 0 where it does not run (R128, R132, R136, R139). Every step keeps it. -/
def Obligations.TimerSyncAndChannelsKept : Prop :=
  ∀ s t : State, s.CarrierOk → s.SyncOk → s.ChannelsOk → step s = .next t →
    t.CarrierOk ∧ t.SyncOk ∧ t.ChannelsOk

/-- The part right after reset has every invariant above (R25, R41, R43, R57, R77, R129, R157); its pins are
the model's choice (log entry 9). -/
def Obligations.InvariantsHoldAtReset : Prop :=
  State.reset.Quiet ∧ State.reset.PortsOk ∧ State.reset.AbsentHoldsNothing ∧ State.reset.EnginesBusy
    ∧ State.reset.LeasesOk ∧ State.reset.PlansFenced ∧ State.reset.LegsOk ∧ State.reset.StagesFollow
    ∧ State.reset.NeverBothOn ∧ State.reset.CarrierOk ∧ State.reset.SyncOk ∧ State.reset.ChannelsOk
end

