-- ==== Sys2Proof/Laws/State.lean ====
section
/-! SUPPORT. What each update of the state does to each of its fields, and to each access to a block:
the lemmas that later proofs cite instead of unfolding a record update. -/

namespace Sys2Proof

/-! ### Tables: reading after writing -/

@[simp] theorem PerPort.get_set {α : Type} (t : PerPort α) (p q : Port) (x : α) :
    (t.set p x).get q = if q = p then x else t.get q := by
  cases p <;> cases q <;> rfl

@[simp] theorem PerLeg.get_set {α : Type} (t : PerLeg α) (n k : Leg) (x : α) :
    (t.set n x).get k = if k = n then x else t.get k := by
  cases n <;> cases k <;> rfl

@[simp] theorem PerChan.get_set {α : Type} (t : PerChan α) (c d : Chan) (x : α) :
    (t.set c x).get d = if d = c then x else t.get d := by
  cases c <;> cases d <;> rfl

@[simp] theorem PerResource.get_set {α : Type} (t : PerResource α) (r q : Resource) (x : α) :
    (t.set r x).get q = if q = r then x else t.get q := by
  cases r <;> cases q <;> simp [PerResource.set, PerResource.get]

@[simp] theorem PerPort.get_ofFn {α : Type} (f : Port → α) (p : Port) :
    (PerPort.ofFn f).get p = f p := by
  cases p <;> rfl

@[simp] theorem PerLeg.get_ofFn {α : Type} (f : Leg → α) (n : Leg) :
    (PerLeg.ofFn f).get n = f n := by
  cases n <;> rfl

@[simp] theorem PerChan.get_ofFn {α : Type} (f : Chan → α) (c : Chan) :
    (PerChan.ofFn f).get c = f c := by
  cases c <;> rfl

@[simp] theorem PerMark.get_ofFn {α : Type} (f : Mark → α) (m : Mark) :
    (PerMark.ofFn f).get m = f m := by
  cases m <;> rfl

/-- A table is given by its values. -/
theorem PerPort.ext_get {α : Type} {t u : PerPort α} (h : ∀ p, t.get p = u.get p) : t = u := by
  cases t; cases u
  simp only [PerPort.mk.injEq]
  exact ⟨h .a, h .b, h .c⟩

/-- A table is given by its values. -/
theorem PerLeg.ext_get {α : Type} {t u : PerLeg α} (h : ∀ n, t.get n = u.get n) : t = u := by
  cases t; cases u
  simp only [PerLeg.mk.injEq]
  exact ⟨h .l0, h .l1, h .l2, h .l3⟩

/-- A table is given by its values. -/
theorem PerChan.ext_get {α : Type} {t u : PerChan α} (h : ∀ c, t.get c = u.get c) : t = u := by
  cases t; cases u
  simp only [PerChan.mk.injEq]
  exact ⟨h .c0, h .c1⟩

/-- A table is given by its values. -/
theorem PerResource.ext_get {α : Type} {t u : PerResource α} (h : ∀ r, t.get r = u.get r) :
    t = u := by
  cases t with | mk l k c => cases u with | mk l' k' c' =>
  simp only [PerResource.mk.injEq]
  exact ⟨PerLeg.ext_get fun n => h (.leg n), h .carrier, PerChan.ext_get fun c => h (.chan c)⟩

end Sys2Proof

namespace Sys2Proof.Machine

open Sys2Proof

/-! ### Fields after each update -/

@[simp] theorem State.setPort_rst (s : State) (p : Port) (e : PortEngine) :
    (s.setPort p e).rst = s.rst := rfl
@[simp] theorem State.setPort_ports (s : State) (p : Port) (e : PortEngine) :
    (s.setPort p e).ports = s.ports.set p e := rfl
@[simp] theorem State.setPort_leases (s : State) (p : Port) (e : PortEngine) :
    (s.setPort p e).leases = s.leases := rfl
@[simp] theorem State.setPort_leaseClock (s : State) (p : Port) (e : PortEngine) :
    (s.setPort p e).leaseClock = s.leaseClock := rfl
@[simp] theorem State.setPort_carrier (s : State) (p : Port) (e : PortEngine) :
    (s.setPort p e).carrier = s.carrier := rfl
@[simp] theorem State.setPort_legs (s : State) (p : Port) (e : PortEngine) :
    (s.setPort p e).legs = s.legs := rfl
@[simp] theorem State.setPort_sync (s : State) (p : Port) (e : PortEngine) :
    (s.setPort p e).sync = s.sync := rfl
@[simp] theorem State.setPort_trip (s : State) (p : Port) (e : PortEngine) :
    (s.setPort p e).trip = s.trip := rfl
@[simp] theorem State.setPort_chans (s : State) (p : Port) (e : PortEngine) :
    (s.setPort p e).chans = s.chans := rfl
@[simp] theorem State.setPort_outbox (s : State) (p : Port) (e : PortEngine) :
    (s.setPort p e).outbox = s.outbox := rfl
@[simp] theorem State.setPort_choices (s : State) (p : Port) (e : PortEngine) :
    (s.setPort p e).choices = s.choices := rfl
@[simp] theorem State.setPort_pending (s : State) (p : Port) (e : PortEngine) :
    (s.setPort p e).pending = s.pending := rfl

@[simp] theorem State.setLease_rst (s : State) (r : Resource) (l : Lease) :
    (s.setLease r l).rst = s.rst := rfl
@[simp] theorem State.setLease_ports (s : State) (r : Resource) (l : Lease) :
    (s.setLease r l).ports = s.ports := rfl
@[simp] theorem State.setLease_leases (s : State) (r : Resource) (l : Lease) :
    (s.setLease r l).leases = s.leases.set r l := rfl
@[simp] theorem State.setLease_leaseClock (s : State) (r : Resource) (l : Lease) :
    (s.setLease r l).leaseClock = s.leaseClock := rfl
@[simp] theorem State.setLease_carrier (s : State) (r : Resource) (l : Lease) :
    (s.setLease r l).carrier = s.carrier := rfl
@[simp] theorem State.setLease_legs (s : State) (r : Resource) (l : Lease) :
    (s.setLease r l).legs = s.legs := rfl
@[simp] theorem State.setLease_sync (s : State) (r : Resource) (l : Lease) :
    (s.setLease r l).sync = s.sync := rfl
@[simp] theorem State.setLease_trip (s : State) (r : Resource) (l : Lease) :
    (s.setLease r l).trip = s.trip := rfl
@[simp] theorem State.setLease_chans (s : State) (r : Resource) (l : Lease) :
    (s.setLease r l).chans = s.chans := rfl
@[simp] theorem State.setLease_outbox (s : State) (r : Resource) (l : Lease) :
    (s.setLease r l).outbox = s.outbox := rfl
@[simp] theorem State.setLease_choices (s : State) (r : Resource) (l : Lease) :
    (s.setLease r l).choices = s.choices := rfl
@[simp] theorem State.setLease_pending (s : State) (r : Resource) (l : Lease) :
    (s.setLease r l).pending = s.pending := rfl

@[simp] theorem State.setLeg_rst (s : State) (n : Leg) (u : LegUnit) :
    (s.setLeg n u).rst = s.rst := rfl
@[simp] theorem State.setLeg_ports (s : State) (n : Leg) (u : LegUnit) :
    (s.setLeg n u).ports = s.ports := rfl
@[simp] theorem State.setLeg_leases (s : State) (n : Leg) (u : LegUnit) :
    (s.setLeg n u).leases = s.leases := rfl
@[simp] theorem State.setLeg_leaseClock (s : State) (n : Leg) (u : LegUnit) :
    (s.setLeg n u).leaseClock = s.leaseClock := rfl
@[simp] theorem State.setLeg_carrier (s : State) (n : Leg) (u : LegUnit) :
    (s.setLeg n u).carrier = s.carrier := rfl
@[simp] theorem State.setLeg_legs (s : State) (n : Leg) (u : LegUnit) :
    (s.setLeg n u).legs = s.legs.set n u := rfl
@[simp] theorem State.setLeg_sync (s : State) (n : Leg) (u : LegUnit) :
    (s.setLeg n u).sync = s.sync := rfl
@[simp] theorem State.setLeg_trip (s : State) (n : Leg) (u : LegUnit) :
    (s.setLeg n u).trip = s.trip := rfl
@[simp] theorem State.setLeg_chans (s : State) (n : Leg) (u : LegUnit) :
    (s.setLeg n u).chans = s.chans := rfl
@[simp] theorem State.setLeg_outbox (s : State) (n : Leg) (u : LegUnit) :
    (s.setLeg n u).outbox = s.outbox := rfl
@[simp] theorem State.setLeg_choices (s : State) (n : Leg) (u : LegUnit) :
    (s.setLeg n u).choices = s.choices := rfl
@[simp] theorem State.setLeg_pending (s : State) (n : Leg) (u : LegUnit) :
    (s.setLeg n u).pending = s.pending := rfl

@[simp] theorem State.setChan_rst (s : State) (c : Chan) (ch : Channel) :
    (s.setChan c ch).rst = s.rst := rfl
@[simp] theorem State.setChan_ports (s : State) (c : Chan) (ch : Channel) :
    (s.setChan c ch).ports = s.ports := rfl
@[simp] theorem State.setChan_leases (s : State) (c : Chan) (ch : Channel) :
    (s.setChan c ch).leases = s.leases := rfl
@[simp] theorem State.setChan_leaseClock (s : State) (c : Chan) (ch : Channel) :
    (s.setChan c ch).leaseClock = s.leaseClock := rfl
@[simp] theorem State.setChan_carrier (s : State) (c : Chan) (ch : Channel) :
    (s.setChan c ch).carrier = s.carrier := rfl
@[simp] theorem State.setChan_legs (s : State) (c : Chan) (ch : Channel) :
    (s.setChan c ch).legs = s.legs := rfl
@[simp] theorem State.setChan_sync (s : State) (c : Chan) (ch : Channel) :
    (s.setChan c ch).sync = s.sync := rfl
@[simp] theorem State.setChan_trip (s : State) (c : Chan) (ch : Channel) :
    (s.setChan c ch).trip = s.trip := rfl
@[simp] theorem State.setChan_chans (s : State) (c : Chan) (ch : Channel) :
    (s.setChan c ch).chans = s.chans.set c ch := rfl
@[simp] theorem State.setChan_outbox (s : State) (c : Chan) (ch : Channel) :
    (s.setChan c ch).outbox = s.outbox := rfl
@[simp] theorem State.setChan_choices (s : State) (c : Chan) (ch : Channel) :
    (s.setChan c ch).choices = s.choices := rfl
@[simp] theorem State.setChan_pending (s : State) (c : Chan) (ch : Channel) :
    (s.setChan c ch).pending = s.pending := rfl

@[simp] theorem State.setCarrier_rst (s : State) (t : Carrier) :
    (s.setCarrier t).rst = s.rst := rfl
@[simp] theorem State.setCarrier_ports (s : State) (t : Carrier) :
    (s.setCarrier t).ports = s.ports := rfl
@[simp] theorem State.setCarrier_leases (s : State) (t : Carrier) :
    (s.setCarrier t).leases = s.leases := rfl
@[simp] theorem State.setCarrier_leaseClock (s : State) (t : Carrier) :
    (s.setCarrier t).leaseClock = s.leaseClock := rfl
@[simp] theorem State.setCarrier_carrier (s : State) (t : Carrier) :
    (s.setCarrier t).carrier = t := rfl
@[simp] theorem State.setCarrier_legs (s : State) (t : Carrier) :
    (s.setCarrier t).legs = s.legs := rfl
@[simp] theorem State.setCarrier_sync (s : State) (t : Carrier) :
    (s.setCarrier t).sync = s.sync := rfl
@[simp] theorem State.setCarrier_trip (s : State) (t : Carrier) :
    (s.setCarrier t).trip = s.trip := rfl
@[simp] theorem State.setCarrier_chans (s : State) (t : Carrier) :
    (s.setCarrier t).chans = s.chans := rfl
@[simp] theorem State.setCarrier_outbox (s : State) (t : Carrier) :
    (s.setCarrier t).outbox = s.outbox := rfl
@[simp] theorem State.setCarrier_choices (s : State) (t : Carrier) :
    (s.setCarrier t).choices = s.choices := rfl
@[simp] theorem State.setCarrier_pending (s : State) (t : Carrier) :
    (s.setCarrier t).pending = s.pending := rfl

@[simp] theorem State.setTrip_rst (s : State) (t : TripUnit) :
    (s.setTrip t).rst = s.rst := rfl
@[simp] theorem State.setTrip_ports (s : State) (t : TripUnit) :
    (s.setTrip t).ports = s.ports := rfl
@[simp] theorem State.setTrip_leases (s : State) (t : TripUnit) :
    (s.setTrip t).leases = s.leases := rfl
@[simp] theorem State.setTrip_leaseClock (s : State) (t : TripUnit) :
    (s.setTrip t).leaseClock = s.leaseClock := rfl
@[simp] theorem State.setTrip_carrier (s : State) (t : TripUnit) :
    (s.setTrip t).carrier = s.carrier := rfl
@[simp] theorem State.setTrip_legs (s : State) (t : TripUnit) :
    (s.setTrip t).legs = s.legs := rfl
@[simp] theorem State.setTrip_sync (s : State) (t : TripUnit) :
    (s.setTrip t).sync = s.sync := rfl
@[simp] theorem State.setTrip_trip (s : State) (t : TripUnit) :
    (s.setTrip t).trip = t := rfl
@[simp] theorem State.setTrip_chans (s : State) (t : TripUnit) :
    (s.setTrip t).chans = s.chans := rfl
@[simp] theorem State.setTrip_outbox (s : State) (t : TripUnit) :
    (s.setTrip t).outbox = s.outbox := rfl
@[simp] theorem State.setTrip_choices (s : State) (t : TripUnit) :
    (s.setTrip t).choices = s.choices := rfl
@[simp] theorem State.setTrip_pending (s : State) (t : TripUnit) :
    (s.setTrip t).pending = s.pending := rfl

@[simp] theorem State.setSync_rst (s : State) (t : PerMark MarkState) :
    (s.setSync t).rst = s.rst := rfl
@[simp] theorem State.setSync_ports (s : State) (t : PerMark MarkState) :
    (s.setSync t).ports = s.ports := rfl
@[simp] theorem State.setSync_leases (s : State) (t : PerMark MarkState) :
    (s.setSync t).leases = s.leases := rfl
@[simp] theorem State.setSync_leaseClock (s : State) (t : PerMark MarkState) :
    (s.setSync t).leaseClock = s.leaseClock := rfl
@[simp] theorem State.setSync_carrier (s : State) (t : PerMark MarkState) :
    (s.setSync t).carrier = s.carrier := rfl
@[simp] theorem State.setSync_legs (s : State) (t : PerMark MarkState) :
    (s.setSync t).legs = s.legs := rfl
@[simp] theorem State.setSync_sync (s : State) (t : PerMark MarkState) :
    (s.setSync t).sync = t := rfl
@[simp] theorem State.setSync_trip (s : State) (t : PerMark MarkState) :
    (s.setSync t).trip = s.trip := rfl
@[simp] theorem State.setSync_chans (s : State) (t : PerMark MarkState) :
    (s.setSync t).chans = s.chans := rfl
@[simp] theorem State.setSync_outbox (s : State) (t : PerMark MarkState) :
    (s.setSync t).outbox = s.outbox := rfl
@[simp] theorem State.setSync_choices (s : State) (t : PerMark MarkState) :
    (s.setSync t).choices = s.choices := rfl
@[simp] theorem State.setSync_pending (s : State) (t : PerMark MarkState) :
    (s.setSync t).pending = s.pending := rfl

@[simp] theorem State.setLegs_rst (s : State) (t : PerLeg LegUnit) :
    (s.setLegs t).rst = s.rst := rfl
@[simp] theorem State.setLegs_ports (s : State) (t : PerLeg LegUnit) :
    (s.setLegs t).ports = s.ports := rfl
@[simp] theorem State.setLegs_leases (s : State) (t : PerLeg LegUnit) :
    (s.setLegs t).leases = s.leases := rfl
@[simp] theorem State.setLegs_leaseClock (s : State) (t : PerLeg LegUnit) :
    (s.setLegs t).leaseClock = s.leaseClock := rfl
@[simp] theorem State.setLegs_carrier (s : State) (t : PerLeg LegUnit) :
    (s.setLegs t).carrier = s.carrier := rfl
@[simp] theorem State.setLegs_legs (s : State) (t : PerLeg LegUnit) :
    (s.setLegs t).legs = t := rfl
@[simp] theorem State.setLegs_sync (s : State) (t : PerLeg LegUnit) :
    (s.setLegs t).sync = s.sync := rfl
@[simp] theorem State.setLegs_trip (s : State) (t : PerLeg LegUnit) :
    (s.setLegs t).trip = s.trip := rfl
@[simp] theorem State.setLegs_chans (s : State) (t : PerLeg LegUnit) :
    (s.setLegs t).chans = s.chans := rfl
@[simp] theorem State.setLegs_outbox (s : State) (t : PerLeg LegUnit) :
    (s.setLegs t).outbox = s.outbox := rfl
@[simp] theorem State.setLegs_choices (s : State) (t : PerLeg LegUnit) :
    (s.setLegs t).choices = s.choices := rfl
@[simp] theorem State.setLegs_pending (s : State) (t : PerLeg LegUnit) :
    (s.setLegs t).pending = s.pending := rfl

@[simp] theorem State.setChans_rst (s : State) (t : PerChan Channel) :
    (s.setChans t).rst = s.rst := rfl
@[simp] theorem State.setChans_ports (s : State) (t : PerChan Channel) :
    (s.setChans t).ports = s.ports := rfl
@[simp] theorem State.setChans_leases (s : State) (t : PerChan Channel) :
    (s.setChans t).leases = s.leases := rfl
@[simp] theorem State.setChans_leaseClock (s : State) (t : PerChan Channel) :
    (s.setChans t).leaseClock = s.leaseClock := rfl
@[simp] theorem State.setChans_carrier (s : State) (t : PerChan Channel) :
    (s.setChans t).carrier = s.carrier := rfl
@[simp] theorem State.setChans_legs (s : State) (t : PerChan Channel) :
    (s.setChans t).legs = s.legs := rfl
@[simp] theorem State.setChans_sync (s : State) (t : PerChan Channel) :
    (s.setChans t).sync = s.sync := rfl
@[simp] theorem State.setChans_trip (s : State) (t : PerChan Channel) :
    (s.setChans t).trip = s.trip := rfl
@[simp] theorem State.setChans_chans (s : State) (t : PerChan Channel) :
    (s.setChans t).chans = t := rfl
@[simp] theorem State.setChans_outbox (s : State) (t : PerChan Channel) :
    (s.setChans t).outbox = s.outbox := rfl
@[simp] theorem State.setChans_choices (s : State) (t : PerChan Channel) :
    (s.setChans t).choices = s.choices := rfl
@[simp] theorem State.setChans_pending (s : State) (t : PerChan Channel) :
    (s.setChans t).pending = s.pending := rfl

@[simp] theorem State.setLeaseClock_rst (s : State) (t : LeaseClock) :
    (s.setLeaseClock t).rst = s.rst := rfl
@[simp] theorem State.setLeaseClock_ports (s : State) (t : LeaseClock) :
    (s.setLeaseClock t).ports = s.ports := rfl
@[simp] theorem State.setLeaseClock_leases (s : State) (t : LeaseClock) :
    (s.setLeaseClock t).leases = s.leases := rfl
@[simp] theorem State.setLeaseClock_leaseClock (s : State) (t : LeaseClock) :
    (s.setLeaseClock t).leaseClock = t := rfl
@[simp] theorem State.setLeaseClock_carrier (s : State) (t : LeaseClock) :
    (s.setLeaseClock t).carrier = s.carrier := rfl
@[simp] theorem State.setLeaseClock_legs (s : State) (t : LeaseClock) :
    (s.setLeaseClock t).legs = s.legs := rfl
@[simp] theorem State.setLeaseClock_sync (s : State) (t : LeaseClock) :
    (s.setLeaseClock t).sync = s.sync := rfl
@[simp] theorem State.setLeaseClock_trip (s : State) (t : LeaseClock) :
    (s.setLeaseClock t).trip = s.trip := rfl
@[simp] theorem State.setLeaseClock_chans (s : State) (t : LeaseClock) :
    (s.setLeaseClock t).chans = s.chans := rfl
@[simp] theorem State.setLeaseClock_outbox (s : State) (t : LeaseClock) :
    (s.setLeaseClock t).outbox = s.outbox := rfl
@[simp] theorem State.setLeaseClock_choices (s : State) (t : LeaseClock) :
    (s.setLeaseClock t).choices = s.choices := rfl
@[simp] theorem State.setLeaseClock_pending (s : State) (t : LeaseClock) :
    (s.setLeaseClock t).pending = s.pending := rfl

@[simp] theorem State.setRst_rst (s : State) (r : ResetUnit) :
    (s.setRst r).rst = r := rfl
@[simp] theorem State.setRst_ports (s : State) (r : ResetUnit) :
    (s.setRst r).ports = s.ports := rfl
@[simp] theorem State.setRst_leases (s : State) (r : ResetUnit) :
    (s.setRst r).leases = s.leases := rfl
@[simp] theorem State.setRst_leaseClock (s : State) (r : ResetUnit) :
    (s.setRst r).leaseClock = s.leaseClock := rfl
@[simp] theorem State.setRst_carrier (s : State) (r : ResetUnit) :
    (s.setRst r).carrier = s.carrier := rfl
@[simp] theorem State.setRst_legs (s : State) (r : ResetUnit) :
    (s.setRst r).legs = s.legs := rfl
@[simp] theorem State.setRst_sync (s : State) (r : ResetUnit) :
    (s.setRst r).sync = s.sync := rfl
@[simp] theorem State.setRst_trip (s : State) (r : ResetUnit) :
    (s.setRst r).trip = s.trip := rfl
@[simp] theorem State.setRst_chans (s : State) (r : ResetUnit) :
    (s.setRst r).chans = s.chans := rfl
@[simp] theorem State.setRst_outbox (s : State) (r : ResetUnit) :
    (s.setRst r).outbox = s.outbox := rfl
@[simp] theorem State.setRst_choices (s : State) (r : ResetUnit) :
    (s.setRst r).choices = s.choices := rfl
@[simp] theorem State.setRst_pending (s : State) (r : ResetUnit) :
    (s.setRst r).pending = s.pending := rfl

@[simp] theorem State.setOutbox_rst (s : State) (o : List Outgoing) :
    (s.setOutbox o).rst = s.rst := rfl
@[simp] theorem State.setOutbox_ports (s : State) (o : List Outgoing) :
    (s.setOutbox o).ports = s.ports := rfl
@[simp] theorem State.setOutbox_leases (s : State) (o : List Outgoing) :
    (s.setOutbox o).leases = s.leases := rfl
@[simp] theorem State.setOutbox_leaseClock (s : State) (o : List Outgoing) :
    (s.setOutbox o).leaseClock = s.leaseClock := rfl
@[simp] theorem State.setOutbox_carrier (s : State) (o : List Outgoing) :
    (s.setOutbox o).carrier = s.carrier := rfl
@[simp] theorem State.setOutbox_legs (s : State) (o : List Outgoing) :
    (s.setOutbox o).legs = s.legs := rfl
@[simp] theorem State.setOutbox_sync (s : State) (o : List Outgoing) :
    (s.setOutbox o).sync = s.sync := rfl
@[simp] theorem State.setOutbox_trip (s : State) (o : List Outgoing) :
    (s.setOutbox o).trip = s.trip := rfl
@[simp] theorem State.setOutbox_chans (s : State) (o : List Outgoing) :
    (s.setOutbox o).chans = s.chans := rfl
@[simp] theorem State.setOutbox_outbox (s : State) (o : List Outgoing) :
    (s.setOutbox o).outbox = o := rfl
@[simp] theorem State.setOutbox_choices (s : State) (o : List Outgoing) :
    (s.setOutbox o).choices = s.choices := rfl
@[simp] theorem State.setOutbox_pending (s : State) (o : List Outgoing) :
    (s.setOutbox o).pending = s.pending := rfl

@[simp] theorem State.setChoices_rst (s : State) (k : Nat) :
    (s.setChoices k).rst = s.rst := rfl
@[simp] theorem State.setChoices_ports (s : State) (k : Nat) :
    (s.setChoices k).ports = s.ports := rfl
@[simp] theorem State.setChoices_leases (s : State) (k : Nat) :
    (s.setChoices k).leases = s.leases := rfl
@[simp] theorem State.setChoices_leaseClock (s : State) (k : Nat) :
    (s.setChoices k).leaseClock = s.leaseClock := rfl
@[simp] theorem State.setChoices_carrier (s : State) (k : Nat) :
    (s.setChoices k).carrier = s.carrier := rfl
@[simp] theorem State.setChoices_legs (s : State) (k : Nat) :
    (s.setChoices k).legs = s.legs := rfl
@[simp] theorem State.setChoices_sync (s : State) (k : Nat) :
    (s.setChoices k).sync = s.sync := rfl
@[simp] theorem State.setChoices_trip (s : State) (k : Nat) :
    (s.setChoices k).trip = s.trip := rfl
@[simp] theorem State.setChoices_chans (s : State) (k : Nat) :
    (s.setChoices k).chans = s.chans := rfl
@[simp] theorem State.setChoices_outbox (s : State) (k : Nat) :
    (s.setChoices k).outbox = s.outbox := rfl
@[simp] theorem State.setChoices_choices (s : State) (k : Nat) :
    (s.setChoices k).choices = k := rfl
@[simp] theorem State.setChoices_pending (s : State) (k : Nat) :
    (s.setChoices k).pending = s.pending := rfl

@[simp] theorem State.setPending_rst (s : State) (q : List Instr) :
    (s.setPending q).rst = s.rst := rfl
@[simp] theorem State.setPending_ports (s : State) (q : List Instr) :
    (s.setPending q).ports = s.ports := rfl
@[simp] theorem State.setPending_leases (s : State) (q : List Instr) :
    (s.setPending q).leases = s.leases := rfl
@[simp] theorem State.setPending_leaseClock (s : State) (q : List Instr) :
    (s.setPending q).leaseClock = s.leaseClock := rfl
@[simp] theorem State.setPending_carrier (s : State) (q : List Instr) :
    (s.setPending q).carrier = s.carrier := rfl
@[simp] theorem State.setPending_legs (s : State) (q : List Instr) :
    (s.setPending q).legs = s.legs := rfl
@[simp] theorem State.setPending_sync (s : State) (q : List Instr) :
    (s.setPending q).sync = s.sync := rfl
@[simp] theorem State.setPending_trip (s : State) (q : List Instr) :
    (s.setPending q).trip = s.trip := rfl
@[simp] theorem State.setPending_chans (s : State) (q : List Instr) :
    (s.setPending q).chans = s.chans := rfl
@[simp] theorem State.setPending_outbox (s : State) (q : List Instr) :
    (s.setPending q).outbox = s.outbox := rfl
@[simp] theorem State.setPending_choices (s : State) (q : List Instr) :
    (s.setPending q).choices = s.choices := rfl
@[simp] theorem State.setPending_pending (s : State) (q : List Instr) :
    (s.setPending q).pending = q := rfl

/-! ### Blocks after each update -/

@[simp] theorem State.setPort_port (s : State) (p : Port) (e : PortEngine) (q : Port) :
    (s.setPort p e).port q = if q = p then e else s.port q := by
  simp [State.setPort, State.port]
@[simp] theorem State.setPort_lease (s : State) (p : Port) (e : PortEngine) (q : Resource) :
    (s.setPort p e).lease q = s.lease q := rfl
@[simp] theorem State.setPort_leg (s : State) (p : Port) (e : PortEngine) (q : Leg) :
    (s.setPort p e).leg q = s.leg q := rfl
@[simp] theorem State.setPort_chan (s : State) (p : Port) (e : PortEngine) (q : Chan) :
    (s.setPort p e).chan q = s.chan q := rfl
@[simp] theorem State.setPort_mark (s : State) (p : Port) (e : PortEngine) (q : Mark) :
    (s.setPort p e).mark q = s.mark q := rfl

@[simp] theorem State.setLease_port (s : State) (r : Resource) (l : Lease) (q : Port) :
    (s.setLease r l).port q = s.port q := rfl
@[simp] theorem State.setLease_lease (s : State) (r : Resource) (l : Lease) (q : Resource) :
    (s.setLease r l).lease q = if q = r then l else s.lease q := by
  simp [State.setLease, State.lease]
@[simp] theorem State.setLease_leg (s : State) (r : Resource) (l : Lease) (q : Leg) :
    (s.setLease r l).leg q = s.leg q := rfl
@[simp] theorem State.setLease_chan (s : State) (r : Resource) (l : Lease) (q : Chan) :
    (s.setLease r l).chan q = s.chan q := rfl
@[simp] theorem State.setLease_mark (s : State) (r : Resource) (l : Lease) (q : Mark) :
    (s.setLease r l).mark q = s.mark q := rfl

@[simp] theorem State.setLeg_port (s : State) (n : Leg) (u : LegUnit) (q : Port) :
    (s.setLeg n u).port q = s.port q := rfl
@[simp] theorem State.setLeg_lease (s : State) (n : Leg) (u : LegUnit) (q : Resource) :
    (s.setLeg n u).lease q = s.lease q := rfl
@[simp] theorem State.setLeg_leg (s : State) (n : Leg) (u : LegUnit) (q : Leg) :
    (s.setLeg n u).leg q = if q = n then u else s.leg q := by
  simp [State.setLeg, State.leg]
@[simp] theorem State.setLeg_chan (s : State) (n : Leg) (u : LegUnit) (q : Chan) :
    (s.setLeg n u).chan q = s.chan q := rfl
@[simp] theorem State.setLeg_mark (s : State) (n : Leg) (u : LegUnit) (q : Mark) :
    (s.setLeg n u).mark q = s.mark q := rfl

@[simp] theorem State.setChan_port (s : State) (c : Chan) (ch : Channel) (q : Port) :
    (s.setChan c ch).port q = s.port q := rfl
@[simp] theorem State.setChan_lease (s : State) (c : Chan) (ch : Channel) (q : Resource) :
    (s.setChan c ch).lease q = s.lease q := rfl
@[simp] theorem State.setChan_leg (s : State) (c : Chan) (ch : Channel) (q : Leg) :
    (s.setChan c ch).leg q = s.leg q := rfl
@[simp] theorem State.setChan_chan (s : State) (c : Chan) (ch : Channel) (q : Chan) :
    (s.setChan c ch).chan q = if q = c then ch else s.chan q := by
  simp [State.setChan, State.chan]
@[simp] theorem State.setChan_mark (s : State) (c : Chan) (ch : Channel) (q : Mark) :
    (s.setChan c ch).mark q = s.mark q := rfl

@[simp] theorem State.setCarrier_port (s : State) (t : Carrier) (q : Port) :
    (s.setCarrier t).port q = s.port q := rfl
@[simp] theorem State.setCarrier_lease (s : State) (t : Carrier) (q : Resource) :
    (s.setCarrier t).lease q = s.lease q := rfl
@[simp] theorem State.setCarrier_leg (s : State) (t : Carrier) (q : Leg) :
    (s.setCarrier t).leg q = s.leg q := rfl
@[simp] theorem State.setCarrier_chan (s : State) (t : Carrier) (q : Chan) :
    (s.setCarrier t).chan q = s.chan q := rfl
@[simp] theorem State.setCarrier_mark (s : State) (t : Carrier) (q : Mark) :
    (s.setCarrier t).mark q = s.mark q := rfl

@[simp] theorem State.setTrip_port (s : State) (t : TripUnit) (q : Port) :
    (s.setTrip t).port q = s.port q := rfl
@[simp] theorem State.setTrip_lease (s : State) (t : TripUnit) (q : Resource) :
    (s.setTrip t).lease q = s.lease q := rfl
@[simp] theorem State.setTrip_leg (s : State) (t : TripUnit) (q : Leg) :
    (s.setTrip t).leg q = s.leg q := rfl
@[simp] theorem State.setTrip_chan (s : State) (t : TripUnit) (q : Chan) :
    (s.setTrip t).chan q = s.chan q := rfl
@[simp] theorem State.setTrip_mark (s : State) (t : TripUnit) (q : Mark) :
    (s.setTrip t).mark q = s.mark q := rfl

@[simp] theorem State.setSync_port (s : State) (t : PerMark MarkState) (q : Port) :
    (s.setSync t).port q = s.port q := rfl
@[simp] theorem State.setSync_lease (s : State) (t : PerMark MarkState) (q : Resource) :
    (s.setSync t).lease q = s.lease q := rfl
@[simp] theorem State.setSync_leg (s : State) (t : PerMark MarkState) (q : Leg) :
    (s.setSync t).leg q = s.leg q := rfl
@[simp] theorem State.setSync_chan (s : State) (t : PerMark MarkState) (q : Chan) :
    (s.setSync t).chan q = s.chan q := rfl
@[simp] theorem State.setSync_mark (s : State) (t : PerMark MarkState) (q : Mark) :
    (s.setSync t).mark q = t.get q := rfl

@[simp] theorem State.setLegs_port (s : State) (t : PerLeg LegUnit) (q : Port) :
    (s.setLegs t).port q = s.port q := rfl
@[simp] theorem State.setLegs_lease (s : State) (t : PerLeg LegUnit) (q : Resource) :
    (s.setLegs t).lease q = s.lease q := rfl
@[simp] theorem State.setLegs_leg (s : State) (t : PerLeg LegUnit) (q : Leg) :
    (s.setLegs t).leg q = t.get q := rfl
@[simp] theorem State.setLegs_chan (s : State) (t : PerLeg LegUnit) (q : Chan) :
    (s.setLegs t).chan q = s.chan q := rfl
@[simp] theorem State.setLegs_mark (s : State) (t : PerLeg LegUnit) (q : Mark) :
    (s.setLegs t).mark q = s.mark q := rfl

@[simp] theorem State.setChans_port (s : State) (t : PerChan Channel) (q : Port) :
    (s.setChans t).port q = s.port q := rfl
@[simp] theorem State.setChans_lease (s : State) (t : PerChan Channel) (q : Resource) :
    (s.setChans t).lease q = s.lease q := rfl
@[simp] theorem State.setChans_leg (s : State) (t : PerChan Channel) (q : Leg) :
    (s.setChans t).leg q = s.leg q := rfl
@[simp] theorem State.setChans_chan (s : State) (t : PerChan Channel) (q : Chan) :
    (s.setChans t).chan q = t.get q := rfl
@[simp] theorem State.setChans_mark (s : State) (t : PerChan Channel) (q : Mark) :
    (s.setChans t).mark q = s.mark q := rfl

@[simp] theorem State.setLeaseClock_port (s : State) (t : LeaseClock) (q : Port) :
    (s.setLeaseClock t).port q = s.port q := rfl
@[simp] theorem State.setLeaseClock_lease (s : State) (t : LeaseClock) (q : Resource) :
    (s.setLeaseClock t).lease q = s.lease q := rfl
@[simp] theorem State.setLeaseClock_leg (s : State) (t : LeaseClock) (q : Leg) :
    (s.setLeaseClock t).leg q = s.leg q := rfl
@[simp] theorem State.setLeaseClock_chan (s : State) (t : LeaseClock) (q : Chan) :
    (s.setLeaseClock t).chan q = s.chan q := rfl
@[simp] theorem State.setLeaseClock_mark (s : State) (t : LeaseClock) (q : Mark) :
    (s.setLeaseClock t).mark q = s.mark q := rfl

@[simp] theorem State.setRst_port (s : State) (r : ResetUnit) (q : Port) :
    (s.setRst r).port q = s.port q := rfl
@[simp] theorem State.setRst_lease (s : State) (r : ResetUnit) (q : Resource) :
    (s.setRst r).lease q = s.lease q := rfl
@[simp] theorem State.setRst_leg (s : State) (r : ResetUnit) (q : Leg) :
    (s.setRst r).leg q = s.leg q := rfl
@[simp] theorem State.setRst_chan (s : State) (r : ResetUnit) (q : Chan) :
    (s.setRst r).chan q = s.chan q := rfl
@[simp] theorem State.setRst_mark (s : State) (r : ResetUnit) (q : Mark) :
    (s.setRst r).mark q = s.mark q := rfl

@[simp] theorem State.setOutbox_port (s : State) (o : List Outgoing) (q : Port) :
    (s.setOutbox o).port q = s.port q := rfl
@[simp] theorem State.setOutbox_lease (s : State) (o : List Outgoing) (q : Resource) :
    (s.setOutbox o).lease q = s.lease q := rfl
@[simp] theorem State.setOutbox_leg (s : State) (o : List Outgoing) (q : Leg) :
    (s.setOutbox o).leg q = s.leg q := rfl
@[simp] theorem State.setOutbox_chan (s : State) (o : List Outgoing) (q : Chan) :
    (s.setOutbox o).chan q = s.chan q := rfl
@[simp] theorem State.setOutbox_mark (s : State) (o : List Outgoing) (q : Mark) :
    (s.setOutbox o).mark q = s.mark q := rfl

@[simp] theorem State.setChoices_port (s : State) (k : Nat) (q : Port) :
    (s.setChoices k).port q = s.port q := rfl
@[simp] theorem State.setChoices_lease (s : State) (k : Nat) (q : Resource) :
    (s.setChoices k).lease q = s.lease q := rfl
@[simp] theorem State.setChoices_leg (s : State) (k : Nat) (q : Leg) :
    (s.setChoices k).leg q = s.leg q := rfl
@[simp] theorem State.setChoices_chan (s : State) (k : Nat) (q : Chan) :
    (s.setChoices k).chan q = s.chan q := rfl
@[simp] theorem State.setChoices_mark (s : State) (k : Nat) (q : Mark) :
    (s.setChoices k).mark q = s.mark q := rfl

@[simp] theorem State.setPending_port (s : State) (w : List Instr) (q : Port) :
    (s.setPending w).port q = s.port q := rfl
@[simp] theorem State.setPending_lease (s : State) (w : List Instr) (q : Resource) :
    (s.setPending w).lease q = s.lease q := rfl
@[simp] theorem State.setPending_leg (s : State) (w : List Instr) (q : Leg) :
    (s.setPending w).leg q = s.leg q := rfl
@[simp] theorem State.setPending_chan (s : State) (w : List Instr) (q : Chan) :
    (s.setPending w).chan q = s.chan q := rfl
@[simp] theorem State.setPending_mark (s : State) (w : List Instr) (q : Mark) :
    (s.setPending w).mark q = s.mark q := rfl

/-! ### Changing one block -/

@[simp] theorem State.updPort_rst (s : State) (p : Port) (f : PortEngine → PortEngine) :
    (s.updPort p f).rst = s.rst := rfl
@[simp] theorem State.updPort_leases (s : State) (p : Port) (f : PortEngine → PortEngine) :
    (s.updPort p f).leases = s.leases := rfl
@[simp] theorem State.updPort_leaseClock (s : State) (p : Port) (f : PortEngine → PortEngine) :
    (s.updPort p f).leaseClock = s.leaseClock := rfl
@[simp] theorem State.updPort_carrier (s : State) (p : Port) (f : PortEngine → PortEngine) :
    (s.updPort p f).carrier = s.carrier := rfl
@[simp] theorem State.updPort_legs (s : State) (p : Port) (f : PortEngine → PortEngine) :
    (s.updPort p f).legs = s.legs := rfl
@[simp] theorem State.updPort_sync (s : State) (p : Port) (f : PortEngine → PortEngine) :
    (s.updPort p f).sync = s.sync := rfl
@[simp] theorem State.updPort_trip (s : State) (p : Port) (f : PortEngine → PortEngine) :
    (s.updPort p f).trip = s.trip := rfl
@[simp] theorem State.updPort_chans (s : State) (p : Port) (f : PortEngine → PortEngine) :
    (s.updPort p f).chans = s.chans := rfl
@[simp] theorem State.updPort_outbox (s : State) (p : Port) (f : PortEngine → PortEngine) :
    (s.updPort p f).outbox = s.outbox := rfl
@[simp] theorem State.updPort_choices (s : State) (p : Port) (f : PortEngine → PortEngine) :
    (s.updPort p f).choices = s.choices := rfl
@[simp] theorem State.updPort_pending (s : State) (p : Port) (f : PortEngine → PortEngine) :
    (s.updPort p f).pending = s.pending := rfl
@[simp] theorem State.updPort_port (s : State) (p : Port) (f : PortEngine → PortEngine) (q : Port) :
    (s.updPort p f).port q = if q = p then f (s.port q) else s.port q := by
  by_cases h : q = p
  · subst h; simp [State.updPort]
  · simp [State.updPort, h]
@[simp] theorem State.updPort_lease (s : State) (p : Port) (f : PortEngine → PortEngine) (q : Resource) :
    (s.updPort p f).lease q = s.lease q := rfl
@[simp] theorem State.updPort_leg (s : State) (p : Port) (f : PortEngine → PortEngine) (q : Leg) :
    (s.updPort p f).leg q = s.leg q := rfl
@[simp] theorem State.updPort_chan (s : State) (p : Port) (f : PortEngine → PortEngine) (q : Chan) :
    (s.updPort p f).chan q = s.chan q := rfl
@[simp] theorem State.updPort_mark (s : State) (p : Port) (f : PortEngine → PortEngine) (q : Mark) :
    (s.updPort p f).mark q = s.mark q := rfl

@[simp] theorem State.updLease_rst (s : State) (r : Resource) (f : Lease → Lease) :
    (s.updLease r f).rst = s.rst := rfl
@[simp] theorem State.updLease_ports (s : State) (r : Resource) (f : Lease → Lease) :
    (s.updLease r f).ports = s.ports := rfl
@[simp] theorem State.updLease_leaseClock (s : State) (r : Resource) (f : Lease → Lease) :
    (s.updLease r f).leaseClock = s.leaseClock := rfl
@[simp] theorem State.updLease_carrier (s : State) (r : Resource) (f : Lease → Lease) :
    (s.updLease r f).carrier = s.carrier := rfl
@[simp] theorem State.updLease_legs (s : State) (r : Resource) (f : Lease → Lease) :
    (s.updLease r f).legs = s.legs := rfl
@[simp] theorem State.updLease_sync (s : State) (r : Resource) (f : Lease → Lease) :
    (s.updLease r f).sync = s.sync := rfl
@[simp] theorem State.updLease_trip (s : State) (r : Resource) (f : Lease → Lease) :
    (s.updLease r f).trip = s.trip := rfl
@[simp] theorem State.updLease_chans (s : State) (r : Resource) (f : Lease → Lease) :
    (s.updLease r f).chans = s.chans := rfl
@[simp] theorem State.updLease_outbox (s : State) (r : Resource) (f : Lease → Lease) :
    (s.updLease r f).outbox = s.outbox := rfl
@[simp] theorem State.updLease_choices (s : State) (r : Resource) (f : Lease → Lease) :
    (s.updLease r f).choices = s.choices := rfl
@[simp] theorem State.updLease_pending (s : State) (r : Resource) (f : Lease → Lease) :
    (s.updLease r f).pending = s.pending := rfl
@[simp] theorem State.updLease_port (s : State) (r : Resource) (f : Lease → Lease) (q : Port) :
    (s.updLease r f).port q = s.port q := rfl
@[simp] theorem State.updLease_lease (s : State) (r : Resource) (f : Lease → Lease) (q : Resource) :
    (s.updLease r f).lease q = if q = r then f (s.lease q) else s.lease q := by
  by_cases h : q = r
  · subst h; simp [State.updLease]
  · simp [State.updLease, h]
@[simp] theorem State.updLease_leg (s : State) (r : Resource) (f : Lease → Lease) (q : Leg) :
    (s.updLease r f).leg q = s.leg q := rfl
@[simp] theorem State.updLease_chan (s : State) (r : Resource) (f : Lease → Lease) (q : Chan) :
    (s.updLease r f).chan q = s.chan q := rfl
@[simp] theorem State.updLease_mark (s : State) (r : Resource) (f : Lease → Lease) (q : Mark) :
    (s.updLease r f).mark q = s.mark q := rfl

@[simp] theorem State.updLeg_rst (s : State) (n : Leg) (f : LegUnit → LegUnit) :
    (s.updLeg n f).rst = s.rst := rfl
@[simp] theorem State.updLeg_ports (s : State) (n : Leg) (f : LegUnit → LegUnit) :
    (s.updLeg n f).ports = s.ports := rfl
@[simp] theorem State.updLeg_leases (s : State) (n : Leg) (f : LegUnit → LegUnit) :
    (s.updLeg n f).leases = s.leases := rfl
@[simp] theorem State.updLeg_leaseClock (s : State) (n : Leg) (f : LegUnit → LegUnit) :
    (s.updLeg n f).leaseClock = s.leaseClock := rfl
@[simp] theorem State.updLeg_carrier (s : State) (n : Leg) (f : LegUnit → LegUnit) :
    (s.updLeg n f).carrier = s.carrier := rfl
@[simp] theorem State.updLeg_sync (s : State) (n : Leg) (f : LegUnit → LegUnit) :
    (s.updLeg n f).sync = s.sync := rfl
@[simp] theorem State.updLeg_trip (s : State) (n : Leg) (f : LegUnit → LegUnit) :
    (s.updLeg n f).trip = s.trip := rfl
@[simp] theorem State.updLeg_chans (s : State) (n : Leg) (f : LegUnit → LegUnit) :
    (s.updLeg n f).chans = s.chans := rfl
@[simp] theorem State.updLeg_outbox (s : State) (n : Leg) (f : LegUnit → LegUnit) :
    (s.updLeg n f).outbox = s.outbox := rfl
@[simp] theorem State.updLeg_choices (s : State) (n : Leg) (f : LegUnit → LegUnit) :
    (s.updLeg n f).choices = s.choices := rfl
@[simp] theorem State.updLeg_pending (s : State) (n : Leg) (f : LegUnit → LegUnit) :
    (s.updLeg n f).pending = s.pending := rfl
@[simp] theorem State.updLeg_port (s : State) (n : Leg) (f : LegUnit → LegUnit) (q : Port) :
    (s.updLeg n f).port q = s.port q := rfl
@[simp] theorem State.updLeg_lease (s : State) (n : Leg) (f : LegUnit → LegUnit) (q : Resource) :
    (s.updLeg n f).lease q = s.lease q := rfl
@[simp] theorem State.updLeg_leg (s : State) (n : Leg) (f : LegUnit → LegUnit) (q : Leg) :
    (s.updLeg n f).leg q = if q = n then f (s.leg q) else s.leg q := by
  by_cases h : q = n
  · subst h; simp [State.updLeg]
  · simp [State.updLeg, h]
@[simp] theorem State.updLeg_chan (s : State) (n : Leg) (f : LegUnit → LegUnit) (q : Chan) :
    (s.updLeg n f).chan q = s.chan q := rfl
@[simp] theorem State.updLeg_mark (s : State) (n : Leg) (f : LegUnit → LegUnit) (q : Mark) :
    (s.updLeg n f).mark q = s.mark q := rfl

@[simp] theorem State.updChan_rst (s : State) (c : Chan) (f : Channel → Channel) :
    (s.updChan c f).rst = s.rst := rfl
@[simp] theorem State.updChan_ports (s : State) (c : Chan) (f : Channel → Channel) :
    (s.updChan c f).ports = s.ports := rfl
@[simp] theorem State.updChan_leases (s : State) (c : Chan) (f : Channel → Channel) :
    (s.updChan c f).leases = s.leases := rfl
@[simp] theorem State.updChan_leaseClock (s : State) (c : Chan) (f : Channel → Channel) :
    (s.updChan c f).leaseClock = s.leaseClock := rfl
@[simp] theorem State.updChan_carrier (s : State) (c : Chan) (f : Channel → Channel) :
    (s.updChan c f).carrier = s.carrier := rfl
@[simp] theorem State.updChan_legs (s : State) (c : Chan) (f : Channel → Channel) :
    (s.updChan c f).legs = s.legs := rfl
@[simp] theorem State.updChan_sync (s : State) (c : Chan) (f : Channel → Channel) :
    (s.updChan c f).sync = s.sync := rfl
@[simp] theorem State.updChan_trip (s : State) (c : Chan) (f : Channel → Channel) :
    (s.updChan c f).trip = s.trip := rfl
@[simp] theorem State.updChan_outbox (s : State) (c : Chan) (f : Channel → Channel) :
    (s.updChan c f).outbox = s.outbox := rfl
@[simp] theorem State.updChan_choices (s : State) (c : Chan) (f : Channel → Channel) :
    (s.updChan c f).choices = s.choices := rfl
@[simp] theorem State.updChan_pending (s : State) (c : Chan) (f : Channel → Channel) :
    (s.updChan c f).pending = s.pending := rfl
@[simp] theorem State.updChan_port (s : State) (c : Chan) (f : Channel → Channel) (q : Port) :
    (s.updChan c f).port q = s.port q := rfl
@[simp] theorem State.updChan_lease (s : State) (c : Chan) (f : Channel → Channel) (q : Resource) :
    (s.updChan c f).lease q = s.lease q := rfl
@[simp] theorem State.updChan_leg (s : State) (c : Chan) (f : Channel → Channel) (q : Leg) :
    (s.updChan c f).leg q = s.leg q := rfl
@[simp] theorem State.updChan_chan (s : State) (c : Chan) (f : Channel → Channel) (q : Chan) :
    (s.updChan c f).chan q = if q = c then f (s.chan q) else s.chan q := by
  by_cases h : q = c
  · subst h; simp [State.updChan]
  · simp [State.updChan, h]
@[simp] theorem State.updChan_mark (s : State) (c : Chan) (f : Channel → Channel) (q : Mark) :
    (s.updChan c f).mark q = s.mark q := rfl

end Sys2Proof.Machine
end

