-- ==== Sys2Proof/Laws/Frames.lean ====
section
/-! SUPPORT. What each shared operation leaves alone: one lemma for each field of the state that the
operation does not touch. -/

namespace Sys2Proof.Machine

open Sys2Proof

/-- A fold of steps that leave a view of the state alone leaves it alone. -/
theorem foldl_frame {α β : Type} (view : State → β) (f : State → α → State)
    (h : ∀ s a, view (f s a) = view s) (xs : List α) (s : State) :
    view (xs.foldl f s) = view s := by
  induction xs generalizing s with
  | nil => rfl
  | cons x xs ih => simp [List.foldl_cons, ih, h]

@[simp] theorem State.admitCopy_rst (s : State) (o : Outgoing) :
    (s.admitCopy o).rst = s.rst := by
  simp [State.admitCopy]
@[simp] theorem State.admitCopy_leases (s : State) (o : Outgoing) :
    (s.admitCopy o).leases = s.leases := by
  simp [State.admitCopy]
@[simp] theorem State.admitCopy_lease (s : State) (o : Outgoing) (q : Resource) :
    (s.admitCopy o).lease q = s.lease q := by
  simp [State.lease]
@[simp] theorem State.admitCopy_leaseClock (s : State) (o : Outgoing) :
    (s.admitCopy o).leaseClock = s.leaseClock := by
  simp [State.admitCopy]
@[simp] theorem State.admitCopy_carrier (s : State) (o : Outgoing) :
    (s.admitCopy o).carrier = s.carrier := by
  simp [State.admitCopy]
@[simp] theorem State.admitCopy_legs (s : State) (o : Outgoing) :
    (s.admitCopy o).legs = s.legs := by
  simp [State.admitCopy]
@[simp] theorem State.admitCopy_leg (s : State) (o : Outgoing) (q : Leg) :
    (s.admitCopy o).leg q = s.leg q := by
  simp [State.leg]
@[simp] theorem State.admitCopy_sync (s : State) (o : Outgoing) :
    (s.admitCopy o).sync = s.sync := by
  simp [State.admitCopy]
@[simp] theorem State.admitCopy_mark (s : State) (o : Outgoing) (q : Mark) :
    (s.admitCopy o).mark q = s.mark q := by
  simp [State.mark]
@[simp] theorem State.admitCopy_trip (s : State) (o : Outgoing) :
    (s.admitCopy o).trip = s.trip := by
  simp [State.admitCopy]
@[simp] theorem State.admitCopy_chans (s : State) (o : Outgoing) :
    (s.admitCopy o).chans = s.chans := by
  simp [State.admitCopy]
@[simp] theorem State.admitCopy_chan (s : State) (o : Outgoing) (q : Chan) :
    (s.admitCopy o).chan q = s.chan q := by
  simp [State.chan]
@[simp] theorem State.admitCopy_outbox (s : State) (o : Outgoing) :
    (s.admitCopy o).outbox = s.outbox := by
  simp [State.admitCopy]
@[simp] theorem State.admitCopy_choices (s : State) (o : Outgoing) :
    (s.admitCopy o).choices = s.choices := by
  simp [State.admitCopy]
@[simp] theorem State.admitCopy_pending (s : State) (o : Outgoing) :
    (s.admitCopy o).pending = s.pending := by
  simp [State.admitCopy]

@[simp] theorem State.post_rst (s : State) (r : Source) (ps : List Port) (x : Notice) :
    (s.post r ps x).rst = s.rst := by
  rfl
@[simp] theorem State.post_ports (s : State) (r : Source) (ps : List Port) (x : Notice) :
    (s.post r ps x).ports = s.ports := by
  rfl
@[simp] theorem State.post_port (s : State) (r : Source) (ps : List Port) (x : Notice) (q : Port) :
    (s.post r ps x).port q = s.port q := by
  simp [State.port]
@[simp] theorem State.post_leases (s : State) (r : Source) (ps : List Port) (x : Notice) :
    (s.post r ps x).leases = s.leases := by
  rfl
@[simp] theorem State.post_lease (s : State) (r : Source) (ps : List Port) (x : Notice) (q : Resource) :
    (s.post r ps x).lease q = s.lease q := by
  simp [State.lease]
@[simp] theorem State.post_leaseClock (s : State) (r : Source) (ps : List Port) (x : Notice) :
    (s.post r ps x).leaseClock = s.leaseClock := by
  rfl
@[simp] theorem State.post_carrier (s : State) (r : Source) (ps : List Port) (x : Notice) :
    (s.post r ps x).carrier = s.carrier := by
  rfl
@[simp] theorem State.post_legs (s : State) (r : Source) (ps : List Port) (x : Notice) :
    (s.post r ps x).legs = s.legs := by
  rfl
@[simp] theorem State.post_leg (s : State) (r : Source) (ps : List Port) (x : Notice) (q : Leg) :
    (s.post r ps x).leg q = s.leg q := by
  simp [State.leg]
@[simp] theorem State.post_sync (s : State) (r : Source) (ps : List Port) (x : Notice) :
    (s.post r ps x).sync = s.sync := by
  rfl
@[simp] theorem State.post_mark (s : State) (r : Source) (ps : List Port) (x : Notice) (q : Mark) :
    (s.post r ps x).mark q = s.mark q := by
  simp [State.mark]
@[simp] theorem State.post_trip (s : State) (r : Source) (ps : List Port) (x : Notice) :
    (s.post r ps x).trip = s.trip := by
  rfl
@[simp] theorem State.post_chans (s : State) (r : Source) (ps : List Port) (x : Notice) :
    (s.post r ps x).chans = s.chans := by
  rfl
@[simp] theorem State.post_chan (s : State) (r : Source) (ps : List Port) (x : Notice) (q : Chan) :
    (s.post r ps x).chan q = s.chan q := by
  simp [State.chan]
@[simp] theorem State.post_choices (s : State) (r : Source) (ps : List Port) (x : Notice) :
    (s.post r ps x).choices = s.choices := by
  rfl
@[simp] theorem State.post_pending (s : State) (r : Source) (ps : List Port) (x : Notice) :
    (s.post r ps x).pending = s.pending := by
  rfl

@[simp] theorem State.deliver_rst (s : State) :
    (s.deliver).rst = s.rst := by
  simp [State.deliver, foldl_frame (State.rst) State.admitCopy (fun s o => State.admitCopy_rst s o)]
@[simp] theorem State.deliver_leases (s : State) :
    (s.deliver).leases = s.leases := by
  simp [State.deliver, foldl_frame (State.leases) State.admitCopy (fun s o => State.admitCopy_leases s o)]
@[simp] theorem State.deliver_lease (s : State) (q : Resource) :
    (s.deliver).lease q = s.lease q := by
  simp [State.lease]
@[simp] theorem State.deliver_leaseClock (s : State) :
    (s.deliver).leaseClock = s.leaseClock := by
  simp [State.deliver, foldl_frame (State.leaseClock) State.admitCopy (fun s o => State.admitCopy_leaseClock s o)]
@[simp] theorem State.deliver_carrier (s : State) :
    (s.deliver).carrier = s.carrier := by
  simp [State.deliver, foldl_frame (State.carrier) State.admitCopy (fun s o => State.admitCopy_carrier s o)]
@[simp] theorem State.deliver_legs (s : State) :
    (s.deliver).legs = s.legs := by
  simp [State.deliver, foldl_frame (State.legs) State.admitCopy (fun s o => State.admitCopy_legs s o)]
@[simp] theorem State.deliver_leg (s : State) (q : Leg) :
    (s.deliver).leg q = s.leg q := by
  simp [State.leg]
@[simp] theorem State.deliver_sync (s : State) :
    (s.deliver).sync = s.sync := by
  simp [State.deliver, foldl_frame (State.sync) State.admitCopy (fun s o => State.admitCopy_sync s o)]
@[simp] theorem State.deliver_mark (s : State) (q : Mark) :
    (s.deliver).mark q = s.mark q := by
  simp [State.mark]
@[simp] theorem State.deliver_trip (s : State) :
    (s.deliver).trip = s.trip := by
  simp [State.deliver, foldl_frame (State.trip) State.admitCopy (fun s o => State.admitCopy_trip s o)]
@[simp] theorem State.deliver_chans (s : State) :
    (s.deliver).chans = s.chans := by
  simp [State.deliver, foldl_frame (State.chans) State.admitCopy (fun s o => State.admitCopy_chans s o)]
@[simp] theorem State.deliver_chan (s : State) (q : Chan) :
    (s.deliver).chan q = s.chan q := by
  simp [State.chan]
@[simp] theorem State.deliver_pending (s : State) :
    (s.deliver).pending = s.pending := by
  simp [State.deliver, foldl_frame (State.pending) State.admitCopy (fun s o => State.admitCopy_pending s o)]

@[simp] theorem State.postGranted_rst (s : State) (r : Resource) (p : Port) (i : Nat) :
    (s.postGranted r p i).rst = s.rst := by
  rfl
@[simp] theorem State.postGranted_ports (s : State) (r : Resource) (p : Port) (i : Nat) :
    (s.postGranted r p i).ports = s.ports := by
  rfl
@[simp] theorem State.postGranted_port (s : State) (r : Resource) (p : Port) (i : Nat) (q : Port) :
    (s.postGranted r p i).port q = s.port q := by
  simp [State.port]
@[simp] theorem State.postGranted_leases (s : State) (r : Resource) (p : Port) (i : Nat) :
    (s.postGranted r p i).leases = s.leases := by
  rfl
@[simp] theorem State.postGranted_lease (s : State) (r : Resource) (p : Port) (i : Nat) (q : Resource) :
    (s.postGranted r p i).lease q = s.lease q := by
  simp [State.lease]
@[simp] theorem State.postGranted_leaseClock (s : State) (r : Resource) (p : Port) (i : Nat) :
    (s.postGranted r p i).leaseClock = s.leaseClock := by
  rfl
@[simp] theorem State.postGranted_carrier (s : State) (r : Resource) (p : Port) (i : Nat) :
    (s.postGranted r p i).carrier = s.carrier := by
  rfl
@[simp] theorem State.postGranted_legs (s : State) (r : Resource) (p : Port) (i : Nat) :
    (s.postGranted r p i).legs = s.legs := by
  rfl
@[simp] theorem State.postGranted_leg (s : State) (r : Resource) (p : Port) (i : Nat) (q : Leg) :
    (s.postGranted r p i).leg q = s.leg q := by
  simp [State.leg]
@[simp] theorem State.postGranted_sync (s : State) (r : Resource) (p : Port) (i : Nat) :
    (s.postGranted r p i).sync = s.sync := by
  rfl
@[simp] theorem State.postGranted_mark (s : State) (r : Resource) (p : Port) (i : Nat) (q : Mark) :
    (s.postGranted r p i).mark q = s.mark q := by
  simp [State.mark]
@[simp] theorem State.postGranted_trip (s : State) (r : Resource) (p : Port) (i : Nat) :
    (s.postGranted r p i).trip = s.trip := by
  rfl
@[simp] theorem State.postGranted_chans (s : State) (r : Resource) (p : Port) (i : Nat) :
    (s.postGranted r p i).chans = s.chans := by
  rfl
@[simp] theorem State.postGranted_chan (s : State) (r : Resource) (p : Port) (i : Nat) (q : Chan) :
    (s.postGranted r p i).chan q = s.chan q := by
  simp [State.chan]
@[simp] theorem State.postGranted_choices (s : State) (r : Resource) (p : Port) (i : Nat) :
    (s.postGranted r p i).choices = s.choices := by
  rfl
@[simp] theorem State.postGranted_pending (s : State) (r : Resource) (p : Port) (i : Nat) :
    (s.postGranted r p i).pending = s.pending := by
  rfl

@[simp] theorem State.passOn_rst (s : State) (r : Resource) :
    (s.passOn r).rst = s.rst := by
  unfold State.passOn; split <;> simp
@[simp] theorem State.passOn_ports (s : State) (r : Resource) :
    (s.passOn r).ports = s.ports := by
  unfold State.passOn; split <;> simp
@[simp] theorem State.passOn_port (s : State) (r : Resource) (q : Port) :
    (s.passOn r).port q = s.port q := by
  simp [State.port]
@[simp] theorem State.passOn_leaseClock (s : State) (r : Resource) :
    (s.passOn r).leaseClock = s.leaseClock := by
  unfold State.passOn; split <;> simp
@[simp] theorem State.passOn_carrier (s : State) (r : Resource) :
    (s.passOn r).carrier = s.carrier := by
  unfold State.passOn; split <;> simp
@[simp] theorem State.passOn_legs (s : State) (r : Resource) :
    (s.passOn r).legs = s.legs := by
  unfold State.passOn; split <;> simp
@[simp] theorem State.passOn_leg (s : State) (r : Resource) (q : Leg) :
    (s.passOn r).leg q = s.leg q := by
  simp [State.leg]
@[simp] theorem State.passOn_sync (s : State) (r : Resource) :
    (s.passOn r).sync = s.sync := by
  unfold State.passOn; split <;> simp
@[simp] theorem State.passOn_mark (s : State) (r : Resource) (q : Mark) :
    (s.passOn r).mark q = s.mark q := by
  simp [State.mark]
@[simp] theorem State.passOn_trip (s : State) (r : Resource) :
    (s.passOn r).trip = s.trip := by
  unfold State.passOn; split <;> simp
@[simp] theorem State.passOn_chans (s : State) (r : Resource) :
    (s.passOn r).chans = s.chans := by
  unfold State.passOn; split <;> simp
@[simp] theorem State.passOn_chan (s : State) (r : Resource) (q : Chan) :
    (s.passOn r).chan q = s.chan q := by
  simp [State.chan]
@[simp] theorem State.passOn_choices (s : State) (r : Resource) :
    (s.passOn r).choices = s.choices := by
  unfold State.passOn; split <;> simp
@[simp] theorem State.passOn_pending (s : State) (r : Resource) :
    (s.passOn r).pending = s.pending := by
  unfold State.passOn; split <;> simp

@[simp] theorem State.legReport_rst (s : State) (n : Leg) :
    (s.legReport n).rst = s.rst := by
  unfold State.legReport; split <;> simp
@[simp] theorem State.legReport_ports (s : State) (n : Leg) :
    (s.legReport n).ports = s.ports := by
  unfold State.legReport; split <;> simp
@[simp] theorem State.legReport_port (s : State) (n : Leg) (q : Port) :
    (s.legReport n).port q = s.port q := by
  simp [State.port]
@[simp] theorem State.legReport_leaseClock (s : State) (n : Leg) :
    (s.legReport n).leaseClock = s.leaseClock := by
  unfold State.legReport; split <;> simp
@[simp] theorem State.legReport_carrier (s : State) (n : Leg) :
    (s.legReport n).carrier = s.carrier := by
  unfold State.legReport; split <;> simp
@[simp] theorem State.legReport_legs (s : State) (n : Leg) :
    (s.legReport n).legs = s.legs := by
  unfold State.legReport; split <;> simp
@[simp] theorem State.legReport_leg (s : State) (n : Leg) (q : Leg) :
    (s.legReport n).leg q = s.leg q := by
  simp [State.leg]
@[simp] theorem State.legReport_sync (s : State) (n : Leg) :
    (s.legReport n).sync = s.sync := by
  unfold State.legReport; split <;> simp
@[simp] theorem State.legReport_mark (s : State) (n : Leg) (q : Mark) :
    (s.legReport n).mark q = s.mark q := by
  simp [State.mark]
@[simp] theorem State.legReport_trip (s : State) (n : Leg) :
    (s.legReport n).trip = s.trip := by
  unfold State.legReport; split <;> simp
@[simp] theorem State.legReport_chans (s : State) (n : Leg) :
    (s.legReport n).chans = s.chans := by
  unfold State.legReport; split <;> simp
@[simp] theorem State.legReport_chan (s : State) (n : Leg) (q : Chan) :
    (s.legReport n).chan q = s.chan q := by
  simp [State.chan]
@[simp] theorem State.legReport_choices (s : State) (n : Leg) :
    (s.legReport n).choices = s.choices := by
  unfold State.legReport; split <;> simp
@[simp] theorem State.legReport_pending (s : State) (n : Leg) :
    (s.legReport n).pending = s.pending := by
  unfold State.legReport; split <;> simp

@[simp] theorem State.unhold_rst (s : State) (n : Leg) :
    (s.unhold n).rst = s.rst := by
  rfl
@[simp] theorem State.unhold_ports (s : State) (n : Leg) :
    (s.unhold n).ports = s.ports := by
  rfl
@[simp] theorem State.unhold_port (s : State) (n : Leg) (q : Port) :
    (s.unhold n).port q = s.port q := by
  simp [State.port]
@[simp] theorem State.unhold_leases (s : State) (n : Leg) :
    (s.unhold n).leases = s.leases := by
  rfl
@[simp] theorem State.unhold_lease (s : State) (n : Leg) (q : Resource) :
    (s.unhold n).lease q = s.lease q := by
  simp [State.lease]
@[simp] theorem State.unhold_leaseClock (s : State) (n : Leg) :
    (s.unhold n).leaseClock = s.leaseClock := by
  rfl
@[simp] theorem State.unhold_carrier (s : State) (n : Leg) :
    (s.unhold n).carrier = s.carrier := by
  rfl
@[simp] theorem State.unhold_legs (s : State) (n : Leg) :
    (s.unhold n).legs = s.legs := by
  rfl
@[simp] theorem State.unhold_leg (s : State) (n : Leg) (q : Leg) :
    (s.unhold n).leg q = s.leg q := by
  simp [State.leg]
@[simp] theorem State.unhold_trip (s : State) (n : Leg) :
    (s.unhold n).trip = s.trip := by
  rfl
@[simp] theorem State.unhold_chans (s : State) (n : Leg) :
    (s.unhold n).chans = s.chans := by
  rfl
@[simp] theorem State.unhold_chan (s : State) (n : Leg) (q : Chan) :
    (s.unhold n).chan q = s.chan q := by
  simp [State.chan]
@[simp] theorem State.unhold_outbox (s : State) (n : Leg) :
    (s.unhold n).outbox = s.outbox := by
  rfl
@[simp] theorem State.unhold_choices (s : State) (n : Leg) :
    (s.unhold n).choices = s.choices := by
  rfl
@[simp] theorem State.unhold_pending (s : State) (n : Leg) :
    (s.unhold n).pending = s.pending := by
  rfl

@[simp] theorem State.flushQueue_rst (s : State) (n : Leg) :
    (s.flushQueue n).rst = s.rst := by
  unfold State.flushQueue; split <;> simp
@[simp] theorem State.flushQueue_ports (s : State) (n : Leg) :
    (s.flushQueue n).ports = s.ports := by
  unfold State.flushQueue; split <;> simp
@[simp] theorem State.flushQueue_port (s : State) (n : Leg) (q : Port) :
    (s.flushQueue n).port q = s.port q := by
  simp [State.port]
@[simp] theorem State.flushQueue_leases (s : State) (n : Leg) :
    (s.flushQueue n).leases = s.leases := by
  unfold State.flushQueue; split <;> simp
@[simp] theorem State.flushQueue_lease (s : State) (n : Leg) (q : Resource) :
    (s.flushQueue n).lease q = s.lease q := by
  simp [State.lease]
@[simp] theorem State.flushQueue_leaseClock (s : State) (n : Leg) :
    (s.flushQueue n).leaseClock = s.leaseClock := by
  unfold State.flushQueue; split <;> simp
@[simp] theorem State.flushQueue_carrier (s : State) (n : Leg) :
    (s.flushQueue n).carrier = s.carrier := by
  unfold State.flushQueue; split <;> simp
@[simp] theorem State.flushQueue_trip (s : State) (n : Leg) :
    (s.flushQueue n).trip = s.trip := by
  unfold State.flushQueue; split <;> simp
@[simp] theorem State.flushQueue_chans (s : State) (n : Leg) :
    (s.flushQueue n).chans = s.chans := by
  unfold State.flushQueue; split <;> simp
@[simp] theorem State.flushQueue_chan (s : State) (n : Leg) (q : Chan) :
    (s.flushQueue n).chan q = s.chan q := by
  simp [State.chan]
@[simp] theorem State.flushQueue_outbox (s : State) (n : Leg) :
    (s.flushQueue n).outbox = s.outbox := by
  unfold State.flushQueue; split <;> simp
@[simp] theorem State.flushQueue_choices (s : State) (n : Leg) :
    (s.flushQueue n).choices = s.choices := by
  unfold State.flushQueue; split <;> simp
@[simp] theorem State.flushQueue_pending (s : State) (n : Leg) :
    (s.flushQueue n).pending = s.pending := by
  unfold State.flushQueue; split <;> simp

@[simp] theorem State.flushAndCut_rst (s : State) (n : Leg) :
    (s.flushAndCut n).rst = s.rst := by
  unfold State.flushAndCut; dsimp only; split <;> simp
@[simp] theorem State.flushAndCut_ports (s : State) (n : Leg) :
    (s.flushAndCut n).ports = s.ports := by
  unfold State.flushAndCut; dsimp only; split <;> simp
@[simp] theorem State.flushAndCut_port (s : State) (n : Leg) (q : Port) :
    (s.flushAndCut n).port q = s.port q := by
  simp [State.port]
@[simp] theorem State.flushAndCut_leaseClock (s : State) (n : Leg) :
    (s.flushAndCut n).leaseClock = s.leaseClock := by
  unfold State.flushAndCut; dsimp only; split <;> simp
@[simp] theorem State.flushAndCut_carrier (s : State) (n : Leg) :
    (s.flushAndCut n).carrier = s.carrier := by
  unfold State.flushAndCut; dsimp only; split <;> simp
@[simp] theorem State.flushAndCut_trip (s : State) (n : Leg) :
    (s.flushAndCut n).trip = s.trip := by
  unfold State.flushAndCut; dsimp only; split <;> simp
@[simp] theorem State.flushAndCut_chans (s : State) (n : Leg) :
    (s.flushAndCut n).chans = s.chans := by
  unfold State.flushAndCut; dsimp only; split <;> simp
@[simp] theorem State.flushAndCut_chan (s : State) (n : Leg) (q : Chan) :
    (s.flushAndCut n).chan q = s.chan q := by
  simp [State.chan]
@[simp] theorem State.flushAndCut_choices (s : State) (n : Leg) :
    (s.flushAndCut n).choices = s.choices := by
  unfold State.flushAndCut; dsimp only; split <;> simp
@[simp] theorem State.flushAndCut_pending (s : State) (n : Leg) :
    (s.flushAndCut n).pending = s.pending := by
  unfold State.flushAndCut; dsimp only; split <;> simp

@[simp] theorem State.endLease_rst (s : State) (r : Resource) :
    (s.endLease r).rst = s.rst := by
  unfold State.endLease; split <;> simp
@[simp] theorem State.endLease_ports (s : State) (r : Resource) :
    (s.endLease r).ports = s.ports := by
  unfold State.endLease; split <;> simp
@[simp] theorem State.endLease_port (s : State) (r : Resource) (q : Port) :
    (s.endLease r).port q = s.port q := by
  simp [State.port]
@[simp] theorem State.endLease_leaseClock (s : State) (r : Resource) :
    (s.endLease r).leaseClock = s.leaseClock := by
  unfold State.endLease; split <;> simp
@[simp] theorem State.endLease_carrier (s : State) (r : Resource) :
    (s.endLease r).carrier = s.carrier := by
  unfold State.endLease; split <;> simp
@[simp] theorem State.endLease_trip (s : State) (r : Resource) :
    (s.endLease r).trip = s.trip := by
  unfold State.endLease; split <;> simp
@[simp] theorem State.endLease_chans (s : State) (r : Resource) :
    (s.endLease r).chans = s.chans := by
  unfold State.endLease; split <;> simp
@[simp] theorem State.endLease_chan (s : State) (r : Resource) (q : Chan) :
    (s.endLease r).chan q = s.chan q := by
  simp [State.chan]
@[simp] theorem State.endLease_choices (s : State) (r : Resource) :
    (s.endLease r).choices = s.choices := by
  unfold State.endLease; split <;> simp
@[simp] theorem State.endLease_pending (s : State) (r : Resource) :
    (s.endLease r).pending = s.pending := by
  unfold State.endLease; split <;> simp

@[simp] theorem State.expire_rst (s : State) (r : Resource) (p : Port) :
    (s.expire r p).rst = s.rst := by
  simp [State.expire]
@[simp] theorem State.expire_ports (s : State) (r : Resource) (p : Port) :
    (s.expire r p).ports = s.ports := by
  simp [State.expire]
@[simp] theorem State.expire_port (s : State) (r : Resource) (p : Port) (q : Port) :
    (s.expire r p).port q = s.port q := by
  simp [State.port]
@[simp] theorem State.expire_leaseClock (s : State) (r : Resource) (p : Port) :
    (s.expire r p).leaseClock = s.leaseClock := by
  simp [State.expire]
@[simp] theorem State.expire_carrier (s : State) (r : Resource) (p : Port) :
    (s.expire r p).carrier = s.carrier := by
  simp [State.expire]
@[simp] theorem State.expire_trip (s : State) (r : Resource) (p : Port) :
    (s.expire r p).trip = s.trip := by
  simp [State.expire]
@[simp] theorem State.expire_chans (s : State) (r : Resource) (p : Port) :
    (s.expire r p).chans = s.chans := by
  simp [State.expire]
@[simp] theorem State.expire_chan (s : State) (r : Resource) (p : Port) (q : Chan) :
    (s.expire r p).chan q = s.chan q := by
  simp [State.chan]
@[simp] theorem State.expire_choices (s : State) (r : Resource) (p : Port) :
    (s.expire r p).choices = s.choices := by
  simp [State.expire]
@[simp] theorem State.expire_pending (s : State) (r : Resource) (p : Port) :
    (s.expire r p).pending = s.pending := by
  simp [State.expire]

@[simp] theorem State.leaseCount_rst (s : State) (r : Resource) :
    (s.leaseCount r).rst = s.rst := by
  unfold State.leaseCount; split; · rfl
  · rfl
  · split
    · simp
    · split <;> simp
@[simp] theorem State.leaseCount_ports (s : State) (r : Resource) :
    (s.leaseCount r).ports = s.ports := by
  unfold State.leaseCount; split; · rfl
  · rfl
  · split
    · simp
    · split <;> simp
@[simp] theorem State.leaseCount_port (s : State) (r : Resource) (q : Port) :
    (s.leaseCount r).port q = s.port q := by
  simp [State.port]
@[simp] theorem State.leaseCount_leaseClock (s : State) (r : Resource) :
    (s.leaseCount r).leaseClock = s.leaseClock := by
  unfold State.leaseCount; split; · rfl
  · rfl
  · split
    · simp
    · split <;> simp
@[simp] theorem State.leaseCount_carrier (s : State) (r : Resource) :
    (s.leaseCount r).carrier = s.carrier := by
  unfold State.leaseCount; split; · rfl
  · rfl
  · split
    · simp
    · split <;> simp
@[simp] theorem State.leaseCount_trip (s : State) (r : Resource) :
    (s.leaseCount r).trip = s.trip := by
  unfold State.leaseCount; split; · rfl
  · rfl
  · split
    · simp
    · split <;> simp
@[simp] theorem State.leaseCount_chans (s : State) (r : Resource) :
    (s.leaseCount r).chans = s.chans := by
  unfold State.leaseCount; split; · rfl
  · rfl
  · split
    · simp
    · split <;> simp
@[simp] theorem State.leaseCount_chan (s : State) (r : Resource) (q : Chan) :
    (s.leaseCount r).chan q = s.chan q := by
  simp [State.chan]
@[simp] theorem State.leaseCount_choices (s : State) (r : Resource) :
    (s.leaseCount r).choices = s.choices := by
  unfold State.leaseCount; split; · rfl
  · rfl
  · split
    · simp
    · split <;> simp
@[simp] theorem State.leaseCount_pending (s : State) (r : Resource) :
    (s.leaseCount r).pending = s.pending := by
  unfold State.leaseCount; split; · rfl
  · rfl
  · split
    · simp
    · split <;> simp

@[simp] theorem State.leaseTickAll_rst (s : State) :
    (s.leaseTickAll).rst = s.rst := by
  simp [State.leaseTickAll, foldl_frame (State.rst) State.leaseCount (fun s r => State.leaseCount_rst s r)]
@[simp] theorem State.leaseTickAll_ports (s : State) :
    (s.leaseTickAll).ports = s.ports := by
  simp [State.leaseTickAll, foldl_frame (State.ports) State.leaseCount (fun s r => State.leaseCount_ports s r)]
@[simp] theorem State.leaseTickAll_port (s : State) (q : Port) :
    (s.leaseTickAll).port q = s.port q := by
  simp [State.port]
@[simp] theorem State.leaseTickAll_choices (s : State) :
    (s.leaseTickAll).choices = s.choices := by
  simp [State.leaseTickAll, foldl_frame (State.choices) State.leaseCount (fun s r => State.leaseCount_choices s r)]
@[simp] theorem State.leaseTickAll_carrier (s : State) :
    (s.leaseTickAll).carrier = s.carrier := by
  simp [State.leaseTickAll, foldl_frame (State.carrier) State.leaseCount (fun s r => State.leaseCount_carrier s r)]
@[simp] theorem State.leaseTickAll_trip (s : State) :
    (s.leaseTickAll).trip = s.trip := by
  simp [State.leaseTickAll, foldl_frame (State.trip) State.leaseCount (fun s r => State.leaseCount_trip s r)]
@[simp] theorem State.leaseTickAll_chans (s : State) :
    (s.leaseTickAll).chans = s.chans := by
  simp [State.leaseTickAll, foldl_frame (State.chans) State.leaseCount (fun s r => State.leaseCount_chans s r)]
@[simp] theorem State.leaseTickAll_chan (s : State) (q : Chan) :
    (s.leaseTickAll).chan q = s.chan q := by
  simp [State.chan]
@[simp] theorem State.leaseTickAll_pending (s : State) :
    (s.leaseTickAll).pending = s.pending := by
  simp [State.leaseTickAll, foldl_frame (State.pending) State.leaseCount (fun s r => State.leaseCount_pending s r)]

@[simp] theorem State.changeLeg_rst (s : State) (n : Leg) (f : LegUnit → LegUnit) :
    (s.changeLeg n f).rst = s.rst := by
  rfl
@[simp] theorem State.changeLeg_ports (s : State) (n : Leg) (f : LegUnit → LegUnit) :
    (s.changeLeg n f).ports = s.ports := by
  rfl
@[simp] theorem State.changeLeg_port (s : State) (n : Leg) (f : LegUnit → LegUnit) (q : Port) :
    (s.changeLeg n f).port q = s.port q := by
  simp [State.port]
@[simp] theorem State.changeLeg_leases (s : State) (n : Leg) (f : LegUnit → LegUnit) :
    (s.changeLeg n f).leases = s.leases := by
  rfl
@[simp] theorem State.changeLeg_lease (s : State) (n : Leg) (f : LegUnit → LegUnit) (q : Resource) :
    (s.changeLeg n f).lease q = s.lease q := by
  simp [State.lease]
@[simp] theorem State.changeLeg_leaseClock (s : State) (n : Leg) (f : LegUnit → LegUnit) :
    (s.changeLeg n f).leaseClock = s.leaseClock := by
  rfl
@[simp] theorem State.changeLeg_carrier (s : State) (n : Leg) (f : LegUnit → LegUnit) :
    (s.changeLeg n f).carrier = s.carrier := by
  rfl
@[simp] theorem State.changeLeg_sync (s : State) (n : Leg) (f : LegUnit → LegUnit) :
    (s.changeLeg n f).sync = s.sync := by
  rfl
@[simp] theorem State.changeLeg_mark (s : State) (n : Leg) (f : LegUnit → LegUnit) (q : Mark) :
    (s.changeLeg n f).mark q = s.mark q := by
  simp [State.mark]
@[simp] theorem State.changeLeg_trip (s : State) (n : Leg) (f : LegUnit → LegUnit) :
    (s.changeLeg n f).trip = s.trip := by
  rfl
@[simp] theorem State.changeLeg_chans (s : State) (n : Leg) (f : LegUnit → LegUnit) :
    (s.changeLeg n f).chans = s.chans := by
  rfl
@[simp] theorem State.changeLeg_chan (s : State) (n : Leg) (f : LegUnit → LegUnit) (q : Chan) :
    (s.changeLeg n f).chan q = s.chan q := by
  simp [State.chan]
@[simp] theorem State.changeLeg_outbox (s : State) (n : Leg) (f : LegUnit → LegUnit) :
    (s.changeLeg n f).outbox = s.outbox := by
  rfl
@[simp] theorem State.changeLeg_choices (s : State) (n : Leg) (f : LegUnit → LegUnit) :
    (s.changeLeg n f).choices = s.choices := by
  rfl
@[simp] theorem State.changeLeg_pending (s : State) (n : Leg) (f : LegUnit → LegUnit) :
    (s.changeLeg n f).pending = s.pending := by
  rfl

@[simp] theorem State.settleAll_rst (s : State) :
    (s.settleAll).rst = s.rst := by
  rfl
@[simp] theorem State.settleAll_ports (s : State) :
    (s.settleAll).ports = s.ports := by
  rfl
@[simp] theorem State.settleAll_port (s : State) (q : Port) :
    (s.settleAll).port q = s.port q := by
  simp [State.port]
@[simp] theorem State.settleAll_leases (s : State) :
    (s.settleAll).leases = s.leases := by
  rfl
@[simp] theorem State.settleAll_lease (s : State) (q : Resource) :
    (s.settleAll).lease q = s.lease q := by
  simp [State.lease]
@[simp] theorem State.settleAll_leaseClock (s : State) :
    (s.settleAll).leaseClock = s.leaseClock := by
  rfl
@[simp] theorem State.settleAll_carrier (s : State) :
    (s.settleAll).carrier = s.carrier := by
  rfl
@[simp] theorem State.settleAll_sync (s : State) :
    (s.settleAll).sync = s.sync := by
  rfl
@[simp] theorem State.settleAll_mark (s : State) (q : Mark) :
    (s.settleAll).mark q = s.mark q := by
  simp [State.mark]
@[simp] theorem State.settleAll_trip (s : State) :
    (s.settleAll).trip = s.trip := by
  rfl
@[simp] theorem State.settleAll_chans (s : State) :
    (s.settleAll).chans = s.chans := by
  rfl
@[simp] theorem State.settleAll_chan (s : State) (q : Chan) :
    (s.settleAll).chan q = s.chan q := by
  simp [State.chan]
@[simp] theorem State.settleAll_outbox (s : State) :
    (s.settleAll).outbox = s.outbox := by
  rfl
@[simp] theorem State.settleAll_choices (s : State) :
    (s.settleAll).choices = s.choices := by
  rfl
@[simp] theorem State.settleAll_pending (s : State) :
    (s.settleAll).pending = s.pending := by
  rfl

@[simp] theorem State.sampleStages_rst (s : State) :
    (s.sampleStages).rst = s.rst := by
  rfl
@[simp] theorem State.sampleStages_ports (s : State) :
    (s.sampleStages).ports = s.ports := by
  rfl
@[simp] theorem State.sampleStages_port (s : State) (q : Port) :
    (s.sampleStages).port q = s.port q := by
  simp [State.port]
@[simp] theorem State.sampleStages_leases (s : State) :
    (s.sampleStages).leases = s.leases := by
  rfl
@[simp] theorem State.sampleStages_lease (s : State) (q : Resource) :
    (s.sampleStages).lease q = s.lease q := by
  simp [State.lease]
@[simp] theorem State.sampleStages_leaseClock (s : State) :
    (s.sampleStages).leaseClock = s.leaseClock := by
  rfl
@[simp] theorem State.sampleStages_carrier (s : State) :
    (s.sampleStages).carrier = s.carrier := by
  rfl
@[simp] theorem State.sampleStages_sync (s : State) :
    (s.sampleStages).sync = s.sync := by
  rfl
@[simp] theorem State.sampleStages_mark (s : State) (q : Mark) :
    (s.sampleStages).mark q = s.mark q := by
  simp [State.mark]
@[simp] theorem State.sampleStages_trip (s : State) :
    (s.sampleStages).trip = s.trip := by
  rfl
@[simp] theorem State.sampleStages_chans (s : State) :
    (s.sampleStages).chans = s.chans := by
  rfl
@[simp] theorem State.sampleStages_chan (s : State) (q : Chan) :
    (s.sampleStages).chan q = s.chan q := by
  simp [State.chan]
@[simp] theorem State.sampleStages_outbox (s : State) :
    (s.sampleStages).outbox = s.outbox := by
  rfl
@[simp] theorem State.sampleStages_choices (s : State) :
    (s.sampleStages).choices = s.choices := by
  rfl
@[simp] theorem State.sampleStages_pending (s : State) :
    (s.sampleStages).pending = s.pending := by
  rfl

@[simp] theorem State.postLeg_rst (s : State) (n : Leg) (b : NoticeBody) (t : Option Byte) :
    (s.postLeg n b t).rst = s.rst := by
  rfl
@[simp] theorem State.postLeg_ports (s : State) (n : Leg) (b : NoticeBody) (t : Option Byte) :
    (s.postLeg n b t).ports = s.ports := by
  rfl
@[simp] theorem State.postLeg_port (s : State) (n : Leg) (b : NoticeBody) (t : Option Byte) (q : Port) :
    (s.postLeg n b t).port q = s.port q := by
  simp [State.port]
@[simp] theorem State.postLeg_leases (s : State) (n : Leg) (b : NoticeBody) (t : Option Byte) :
    (s.postLeg n b t).leases = s.leases := by
  rfl
@[simp] theorem State.postLeg_lease (s : State) (n : Leg) (b : NoticeBody) (t : Option Byte) (q : Resource) :
    (s.postLeg n b t).lease q = s.lease q := by
  simp [State.lease]
@[simp] theorem State.postLeg_leaseClock (s : State) (n : Leg) (b : NoticeBody) (t : Option Byte) :
    (s.postLeg n b t).leaseClock = s.leaseClock := by
  rfl
@[simp] theorem State.postLeg_carrier (s : State) (n : Leg) (b : NoticeBody) (t : Option Byte) :
    (s.postLeg n b t).carrier = s.carrier := by
  rfl
@[simp] theorem State.postLeg_legs (s : State) (n : Leg) (b : NoticeBody) (t : Option Byte) :
    (s.postLeg n b t).legs = s.legs := by
  rfl
@[simp] theorem State.postLeg_leg (s : State) (n : Leg) (b : NoticeBody) (t : Option Byte) (q : Leg) :
    (s.postLeg n b t).leg q = s.leg q := by
  simp [State.leg]
@[simp] theorem State.postLeg_sync (s : State) (n : Leg) (b : NoticeBody) (t : Option Byte) :
    (s.postLeg n b t).sync = s.sync := by
  rfl
@[simp] theorem State.postLeg_mark (s : State) (n : Leg) (b : NoticeBody) (t : Option Byte) (q : Mark) :
    (s.postLeg n b t).mark q = s.mark q := by
  simp [State.mark]
@[simp] theorem State.postLeg_trip (s : State) (n : Leg) (b : NoticeBody) (t : Option Byte) :
    (s.postLeg n b t).trip = s.trip := by
  rfl
@[simp] theorem State.postLeg_chans (s : State) (n : Leg) (b : NoticeBody) (t : Option Byte) :
    (s.postLeg n b t).chans = s.chans := by
  rfl
@[simp] theorem State.postLeg_chan (s : State) (n : Leg) (b : NoticeBody) (t : Option Byte) (q : Chan) :
    (s.postLeg n b t).chan q = s.chan q := by
  simp [State.chan]
@[simp] theorem State.postLeg_choices (s : State) (n : Leg) (b : NoticeBody) (t : Option Byte) :
    (s.postLeg n b t).choices = s.choices := by
  rfl
@[simp] theorem State.postLeg_pending (s : State) (n : Leg) (b : NoticeBody) (t : Option Byte) :
    (s.postLeg n b t).pending = s.pending := by
  rfl

@[simp] theorem State.activate_rst (s : State) (n : Leg) (head : Segment) (rest : List Segment) :
    (s.activate n head rest).rst = s.rst := by
  unfold State.activate; dsimp only; split <;> simp
@[simp] theorem State.activate_ports (s : State) (n : Leg) (head : Segment) (rest : List Segment) :
    (s.activate n head rest).ports = s.ports := by
  unfold State.activate; dsimp only; split <;> simp
@[simp] theorem State.activate_port (s : State) (n : Leg) (head : Segment) (rest : List Segment) (q : Port) :
    (s.activate n head rest).port q = s.port q := by
  simp [State.port]
@[simp] theorem State.activate_leases (s : State) (n : Leg) (head : Segment) (rest : List Segment) :
    (s.activate n head rest).leases = s.leases := by
  unfold State.activate; dsimp only; split <;> simp
@[simp] theorem State.activate_lease (s : State) (n : Leg) (head : Segment) (rest : List Segment) (q : Resource) :
    (s.activate n head rest).lease q = s.lease q := by
  simp [State.lease]
@[simp] theorem State.activate_leaseClock (s : State) (n : Leg) (head : Segment) (rest : List Segment) :
    (s.activate n head rest).leaseClock = s.leaseClock := by
  unfold State.activate; dsimp only; split <;> simp
@[simp] theorem State.activate_carrier (s : State) (n : Leg) (head : Segment) (rest : List Segment) :
    (s.activate n head rest).carrier = s.carrier := by
  unfold State.activate; dsimp only; split <;> simp
@[simp] theorem State.activate_sync (s : State) (n : Leg) (head : Segment) (rest : List Segment) :
    (s.activate n head rest).sync = s.sync := by
  unfold State.activate; dsimp only; split <;> simp
@[simp] theorem State.activate_mark (s : State) (n : Leg) (head : Segment) (rest : List Segment) (q : Mark) :
    (s.activate n head rest).mark q = s.mark q := by
  simp [State.mark]
@[simp] theorem State.activate_trip (s : State) (n : Leg) (head : Segment) (rest : List Segment) :
    (s.activate n head rest).trip = s.trip := by
  unfold State.activate; dsimp only; split <;> simp
@[simp] theorem State.activate_chans (s : State) (n : Leg) (head : Segment) (rest : List Segment) :
    (s.activate n head rest).chans = s.chans := by
  unfold State.activate; dsimp only; split <;> simp
@[simp] theorem State.activate_chan (s : State) (n : Leg) (head : Segment) (rest : List Segment) (q : Chan) :
    (s.activate n head rest).chan q = s.chan q := by
  simp [State.chan]
@[simp] theorem State.activate_choices (s : State) (n : Leg) (head : Segment) (rest : List Segment) :
    (s.activate n head rest).choices = s.choices := by
  unfold State.activate; dsimp only; split <;> simp
@[simp] theorem State.activate_pending (s : State) (n : Leg) (head : Segment) (rest : List Segment) :
    (s.activate n head rest).pending = s.pending := by
  unfold State.activate; dsimp only; split <;> simp

@[simp] theorem State.postEnd_rst (s : State) (n : Leg) (a : Active) (x : EndReason) :
    (s.postEnd n a x).rst = s.rst := by
  unfold State.postEnd; split <;> simp
@[simp] theorem State.postEnd_ports (s : State) (n : Leg) (a : Active) (x : EndReason) :
    (s.postEnd n a x).ports = s.ports := by
  unfold State.postEnd; split <;> simp
@[simp] theorem State.postEnd_port (s : State) (n : Leg) (a : Active) (x : EndReason) (q : Port) :
    (s.postEnd n a x).port q = s.port q := by
  simp [State.port]
@[simp] theorem State.postEnd_leases (s : State) (n : Leg) (a : Active) (x : EndReason) :
    (s.postEnd n a x).leases = s.leases := by
  unfold State.postEnd; split <;> simp
@[simp] theorem State.postEnd_lease (s : State) (n : Leg) (a : Active) (x : EndReason) (q : Resource) :
    (s.postEnd n a x).lease q = s.lease q := by
  simp [State.lease]
@[simp] theorem State.postEnd_leaseClock (s : State) (n : Leg) (a : Active) (x : EndReason) :
    (s.postEnd n a x).leaseClock = s.leaseClock := by
  unfold State.postEnd; split <;> simp
@[simp] theorem State.postEnd_carrier (s : State) (n : Leg) (a : Active) (x : EndReason) :
    (s.postEnd n a x).carrier = s.carrier := by
  unfold State.postEnd; split <;> simp
@[simp] theorem State.postEnd_legs (s : State) (n : Leg) (a : Active) (x : EndReason) :
    (s.postEnd n a x).legs = s.legs := by
  unfold State.postEnd; split <;> simp
@[simp] theorem State.postEnd_leg (s : State) (n : Leg) (a : Active) (x : EndReason) (q : Leg) :
    (s.postEnd n a x).leg q = s.leg q := by
  simp [State.leg]
@[simp] theorem State.postEnd_sync (s : State) (n : Leg) (a : Active) (x : EndReason) :
    (s.postEnd n a x).sync = s.sync := by
  unfold State.postEnd; split <;> simp
@[simp] theorem State.postEnd_mark (s : State) (n : Leg) (a : Active) (x : EndReason) (q : Mark) :
    (s.postEnd n a x).mark q = s.mark q := by
  simp [State.mark]
@[simp] theorem State.postEnd_trip (s : State) (n : Leg) (a : Active) (x : EndReason) :
    (s.postEnd n a x).trip = s.trip := by
  unfold State.postEnd; split <;> simp
@[simp] theorem State.postEnd_chans (s : State) (n : Leg) (a : Active) (x : EndReason) :
    (s.postEnd n a x).chans = s.chans := by
  unfold State.postEnd; split <;> simp
@[simp] theorem State.postEnd_chan (s : State) (n : Leg) (a : Active) (x : EndReason) (q : Chan) :
    (s.postEnd n a x).chan q = s.chan q := by
  simp [State.chan]
@[simp] theorem State.postEnd_choices (s : State) (n : Leg) (a : Active) (x : EndReason) :
    (s.postEnd n a x).choices = s.choices := by
  unfold State.postEnd; split <;> simp
@[simp] theorem State.postEnd_pending (s : State) (n : Leg) (a : Active) (x : EndReason) :
    (s.postEnd n a x).pending = s.pending := by
  unfold State.postEnd; split <;> simp

@[simp] theorem State.goIdle_rst (s : State) (n : Leg) :
    (s.goIdle n).rst = s.rst := by
  unfold State.goIdle; dsimp only; split <;> simp
@[simp] theorem State.goIdle_ports (s : State) (n : Leg) :
    (s.goIdle n).ports = s.ports := by
  unfold State.goIdle; dsimp only; split <;> simp
@[simp] theorem State.goIdle_port (s : State) (n : Leg) (q : Port) :
    (s.goIdle n).port q = s.port q := by
  simp [State.port]
@[simp] theorem State.goIdle_leaseClock (s : State) (n : Leg) :
    (s.goIdle n).leaseClock = s.leaseClock := by
  unfold State.goIdle; dsimp only; split <;> simp
@[simp] theorem State.goIdle_carrier (s : State) (n : Leg) :
    (s.goIdle n).carrier = s.carrier := by
  unfold State.goIdle; dsimp only; split <;> simp
@[simp] theorem State.goIdle_sync (s : State) (n : Leg) :
    (s.goIdle n).sync = s.sync := by
  unfold State.goIdle; dsimp only; split <;> simp
@[simp] theorem State.goIdle_mark (s : State) (n : Leg) (q : Mark) :
    (s.goIdle n).mark q = s.mark q := by
  simp [State.mark]
@[simp] theorem State.goIdle_trip (s : State) (n : Leg) :
    (s.goIdle n).trip = s.trip := by
  unfold State.goIdle; dsimp only; split <;> simp
@[simp] theorem State.goIdle_chans (s : State) (n : Leg) :
    (s.goIdle n).chans = s.chans := by
  unfold State.goIdle; dsimp only; split <;> simp
@[simp] theorem State.goIdle_chan (s : State) (n : Leg) (q : Chan) :
    (s.goIdle n).chan q = s.chan q := by
  simp [State.chan]
@[simp] theorem State.goIdle_choices (s : State) (n : Leg) :
    (s.goIdle n).choices = s.choices := by
  unfold State.goIdle; dsimp only; split <;> simp
@[simp] theorem State.goIdle_pending (s : State) (n : Leg) :
    (s.goIdle n).pending = s.pending := by
  unfold State.goIdle; dsimp only; split <;> simp

@[simp] theorem State.breakLeg_rst (s : State) (n : Leg) (head : Segment) (f : SyncField) :
    (s.breakLeg n head f).rst = s.rst := by
  simp [State.breakLeg]
@[simp] theorem State.breakLeg_ports (s : State) (n : Leg) (head : Segment) (f : SyncField) :
    (s.breakLeg n head f).ports = s.ports := by
  simp [State.breakLeg]
@[simp] theorem State.breakLeg_port (s : State) (n : Leg) (head : Segment) (f : SyncField) (q : Port) :
    (s.breakLeg n head f).port q = s.port q := by
  simp [State.port]
@[simp] theorem State.breakLeg_leaseClock (s : State) (n : Leg) (head : Segment) (f : SyncField) :
    (s.breakLeg n head f).leaseClock = s.leaseClock := by
  simp [State.breakLeg]
@[simp] theorem State.breakLeg_carrier (s : State) (n : Leg) (head : Segment) (f : SyncField) :
    (s.breakLeg n head f).carrier = s.carrier := by
  simp [State.breakLeg]
@[simp] theorem State.breakLeg_sync (s : State) (n : Leg) (head : Segment) (f : SyncField) :
    (s.breakLeg n head f).sync = s.sync := by
  simp [State.breakLeg]
@[simp] theorem State.breakLeg_mark (s : State) (n : Leg) (head : Segment) (f : SyncField) (q : Mark) :
    (s.breakLeg n head f).mark q = s.mark q := by
  simp [State.mark]
@[simp] theorem State.breakLeg_trip (s : State) (n : Leg) (head : Segment) (f : SyncField) :
    (s.breakLeg n head f).trip = s.trip := by
  simp [State.breakLeg]
@[simp] theorem State.breakLeg_chans (s : State) (n : Leg) (head : Segment) (f : SyncField) :
    (s.breakLeg n head f).chans = s.chans := by
  simp [State.breakLeg]
@[simp] theorem State.breakLeg_chan (s : State) (n : Leg) (head : Segment) (f : SyncField) (q : Chan) :
    (s.breakLeg n head f).chan q = s.chan q := by
  simp [State.chan]
@[simp] theorem State.breakLeg_choices (s : State) (n : Leg) (head : Segment) (f : SyncField) :
    (s.breakLeg n head f).choices = s.choices := by
  simp [State.breakLeg]
@[simp] theorem State.breakLeg_pending (s : State) (n : Leg) (head : Segment) (f : SyncField) :
    (s.breakLeg n head f).pending = s.pending := by
  simp [State.breakLeg]

@[simp] theorem State.follow_rst (s : State) (n : Leg) (e : Option (Active × EndReason)) (a : Option SyncAnswer) :
    (s.follow n e a).rst = s.rst := by
  unfold State.follow; repeat' (first | rfl | simp | split)
@[simp] theorem State.follow_ports (s : State) (n : Leg) (e : Option (Active × EndReason)) (a : Option SyncAnswer) :
    (s.follow n e a).ports = s.ports := by
  unfold State.follow; repeat' (first | rfl | simp | split)
@[simp] theorem State.follow_port (s : State) (n : Leg) (e : Option (Active × EndReason)) (a : Option SyncAnswer) (q : Port) :
    (s.follow n e a).port q = s.port q := by
  simp [State.port]
@[simp] theorem State.follow_leaseClock (s : State) (n : Leg) (e : Option (Active × EndReason)) (a : Option SyncAnswer) :
    (s.follow n e a).leaseClock = s.leaseClock := by
  unfold State.follow; repeat' (first | rfl | simp | split)
@[simp] theorem State.follow_carrier (s : State) (n : Leg) (e : Option (Active × EndReason)) (a : Option SyncAnswer) :
    (s.follow n e a).carrier = s.carrier := by
  unfold State.follow; repeat' (first | rfl | simp | split)
@[simp] theorem State.follow_sync (s : State) (n : Leg) (e : Option (Active × EndReason)) (a : Option SyncAnswer) :
    (s.follow n e a).sync = s.sync := by
  unfold State.follow; repeat' (first | rfl | simp | split)
@[simp] theorem State.follow_mark (s : State) (n : Leg) (e : Option (Active × EndReason)) (a : Option SyncAnswer) (q : Mark) :
    (s.follow n e a).mark q = s.mark q := by
  simp [State.mark]
@[simp] theorem State.follow_trip (s : State) (n : Leg) (e : Option (Active × EndReason)) (a : Option SyncAnswer) :
    (s.follow n e a).trip = s.trip := by
  unfold State.follow; repeat' (first | rfl | simp | split)
@[simp] theorem State.follow_chans (s : State) (n : Leg) (e : Option (Active × EndReason)) (a : Option SyncAnswer) :
    (s.follow n e a).chans = s.chans := by
  unfold State.follow; repeat' (first | rfl | simp | split)
@[simp] theorem State.follow_chan (s : State) (n : Leg) (e : Option (Active × EndReason)) (a : Option SyncAnswer) (q : Chan) :
    (s.follow n e a).chan q = s.chan q := by
  simp [State.chan]
@[simp] theorem State.follow_choices (s : State) (n : Leg) (e : Option (Active × EndReason)) (a : Option SyncAnswer) :
    (s.follow n e a).choices = s.choices := by
  unfold State.follow; repeat' (first | rfl | simp | split)
@[simp] theorem State.follow_pending (s : State) (n : Leg) (e : Option (Active × EndReason)) (a : Option SyncAnswer) :
    (s.follow n e a).pending = s.pending := by
  unfold State.follow; repeat' (first | rfl | simp | split)

@[simp] theorem State.takeBoundary_rst (s : State) (n : Leg) (a : Option SyncAnswer) :
    (s.takeBoundary n a).rst = s.rst := by
  unfold State.takeBoundary; repeat' (first | rfl | simp | split)
@[simp] theorem State.takeBoundary_ports (s : State) (n : Leg) (a : Option SyncAnswer) :
    (s.takeBoundary n a).ports = s.ports := by
  unfold State.takeBoundary; repeat' (first | rfl | simp | split)
@[simp] theorem State.takeBoundary_port (s : State) (n : Leg) (a : Option SyncAnswer) (q : Port) :
    (s.takeBoundary n a).port q = s.port q := by
  simp [State.port]
@[simp] theorem State.takeBoundary_leaseClock (s : State) (n : Leg) (a : Option SyncAnswer) :
    (s.takeBoundary n a).leaseClock = s.leaseClock := by
  unfold State.takeBoundary; repeat' (first | rfl | simp | split)
@[simp] theorem State.takeBoundary_carrier (s : State) (n : Leg) (a : Option SyncAnswer) :
    (s.takeBoundary n a).carrier = s.carrier := by
  unfold State.takeBoundary; repeat' (first | rfl | simp | split)
@[simp] theorem State.takeBoundary_sync (s : State) (n : Leg) (a : Option SyncAnswer) :
    (s.takeBoundary n a).sync = s.sync := by
  unfold State.takeBoundary; repeat' (first | rfl | simp | split)
@[simp] theorem State.takeBoundary_mark (s : State) (n : Leg) (a : Option SyncAnswer) (q : Mark) :
    (s.takeBoundary n a).mark q = s.mark q := by
  simp [State.mark]
@[simp] theorem State.takeBoundary_trip (s : State) (n : Leg) (a : Option SyncAnswer) :
    (s.takeBoundary n a).trip = s.trip := by
  unfold State.takeBoundary; repeat' (first | rfl | simp | split)
@[simp] theorem State.takeBoundary_chans (s : State) (n : Leg) (a : Option SyncAnswer) :
    (s.takeBoundary n a).chans = s.chans := by
  unfold State.takeBoundary; repeat' (first | rfl | simp | split)
@[simp] theorem State.takeBoundary_chan (s : State) (n : Leg) (a : Option SyncAnswer) (q : Chan) :
    (s.takeBoundary n a).chan q = s.chan q := by
  simp [State.chan]
@[simp] theorem State.takeBoundary_choices (s : State) (n : Leg) (a : Option SyncAnswer) :
    (s.takeBoundary n a).choices = s.choices := by
  unfold State.takeBoundary; repeat' (first | rfl | simp | split)
@[simp] theorem State.takeBoundary_pending (s : State) (n : Leg) (a : Option SyncAnswer) :
    (s.takeBoundary n a).pending = s.pending := by
  unfold State.takeBoundary; repeat' (first | rfl | simp | split)

@[simp] theorem State.syncBoundary_rst (s : State) (o : PerLeg (Option SyncField)) :
    (s.syncBoundary o).rst = s.rst := by
  rfl
@[simp] theorem State.syncBoundary_ports (s : State) (o : PerLeg (Option SyncField)) :
    (s.syncBoundary o).ports = s.ports := by
  rfl
@[simp] theorem State.syncBoundary_port (s : State) (o : PerLeg (Option SyncField)) (q : Port) :
    (s.syncBoundary o).port q = s.port q := by
  simp [State.port]
@[simp] theorem State.syncBoundary_leases (s : State) (o : PerLeg (Option SyncField)) :
    (s.syncBoundary o).leases = s.leases := by
  rfl
@[simp] theorem State.syncBoundary_lease (s : State) (o : PerLeg (Option SyncField)) (q : Resource) :
    (s.syncBoundary o).lease q = s.lease q := by
  simp [State.lease]
@[simp] theorem State.syncBoundary_leaseClock (s : State) (o : PerLeg (Option SyncField)) :
    (s.syncBoundary o).leaseClock = s.leaseClock := by
  rfl
@[simp] theorem State.syncBoundary_carrier (s : State) (o : PerLeg (Option SyncField)) :
    (s.syncBoundary o).carrier = s.carrier := by
  rfl
@[simp] theorem State.syncBoundary_legs (s : State) (o : PerLeg (Option SyncField)) :
    (s.syncBoundary o).legs = s.legs := by
  rfl
@[simp] theorem State.syncBoundary_leg (s : State) (o : PerLeg (Option SyncField)) (q : Leg) :
    (s.syncBoundary o).leg q = s.leg q := by
  simp [State.leg]
@[simp] theorem State.syncBoundary_trip (s : State) (o : PerLeg (Option SyncField)) :
    (s.syncBoundary o).trip = s.trip := by
  rfl
@[simp] theorem State.syncBoundary_chans (s : State) (o : PerLeg (Option SyncField)) :
    (s.syncBoundary o).chans = s.chans := by
  rfl
@[simp] theorem State.syncBoundary_chan (s : State) (o : PerLeg (Option SyncField)) (q : Chan) :
    (s.syncBoundary o).chan q = s.chan q := by
  simp [State.chan]
@[simp] theorem State.syncBoundary_outbox (s : State) (o : PerLeg (Option SyncField)) :
    (s.syncBoundary o).outbox = s.outbox := by
  rfl
@[simp] theorem State.syncBoundary_choices (s : State) (o : PerLeg (Option SyncField)) :
    (s.syncBoundary o).choices = s.choices := by
  rfl
@[simp] theorem State.syncBoundary_pending (s : State) (o : PerLeg (Option SyncField)) :
    (s.syncBoundary o).pending = s.pending := by
  rfl

@[simp] theorem State.latchTrip_rst (s : State) (n : Leg) (c : Cause) :
    (s.latchTrip n c).rst = s.rst := by
  unfold State.latchTrip; dsimp only; split <;> simp
@[simp] theorem State.latchTrip_ports (s : State) (n : Leg) (c : Cause) :
    (s.latchTrip n c).ports = s.ports := by
  unfold State.latchTrip; dsimp only; split <;> simp
@[simp] theorem State.latchTrip_port (s : State) (n : Leg) (c : Cause) (q : Port) :
    (s.latchTrip n c).port q = s.port q := by
  simp [State.port]
@[simp] theorem State.latchTrip_leaseClock (s : State) (n : Leg) (c : Cause) :
    (s.latchTrip n c).leaseClock = s.leaseClock := by
  unfold State.latchTrip; dsimp only; split <;> simp
@[simp] theorem State.latchTrip_carrier (s : State) (n : Leg) (c : Cause) :
    (s.latchTrip n c).carrier = s.carrier := by
  unfold State.latchTrip; dsimp only; split <;> simp
@[simp] theorem State.latchTrip_trip (s : State) (n : Leg) (c : Cause) :
    (s.latchTrip n c).trip = s.trip := by
  unfold State.latchTrip; dsimp only; split <;> simp
@[simp] theorem State.latchTrip_chans (s : State) (n : Leg) (c : Cause) :
    (s.latchTrip n c).chans = s.chans := by
  unfold State.latchTrip; dsimp only; split <;> simp
@[simp] theorem State.latchTrip_chan (s : State) (n : Leg) (c : Cause) (q : Chan) :
    (s.latchTrip n c).chan q = s.chan q := by
  simp [State.chan]
@[simp] theorem State.latchTrip_choices (s : State) (n : Leg) (c : Cause) :
    (s.latchTrip n c).choices = s.choices := by
  unfold State.latchTrip; dsimp only; split <;> simp
@[simp] theorem State.latchTrip_pending (s : State) (n : Leg) (c : Cause) :
    (s.latchTrip n c).pending = s.pending := by
  unfold State.latchTrip; dsimp only; split <;> simp

@[simp] theorem State.causeArises_rst (s : State) (n : Leg) (c : Cause) :
    (s.causeArises n c).rst = s.rst := by
  unfold State.causeArises; split <;> simp
@[simp] theorem State.causeArises_ports (s : State) (n : Leg) (c : Cause) :
    (s.causeArises n c).ports = s.ports := by
  unfold State.causeArises; split <;> simp
@[simp] theorem State.causeArises_port (s : State) (n : Leg) (c : Cause) (q : Port) :
    (s.causeArises n c).port q = s.port q := by
  simp [State.port]
@[simp] theorem State.causeArises_leaseClock (s : State) (n : Leg) (c : Cause) :
    (s.causeArises n c).leaseClock = s.leaseClock := by
  unfold State.causeArises; split <;> simp
@[simp] theorem State.causeArises_carrier (s : State) (n : Leg) (c : Cause) :
    (s.causeArises n c).carrier = s.carrier := by
  unfold State.causeArises; split <;> simp
@[simp] theorem State.causeArises_trip (s : State) (n : Leg) (c : Cause) :
    (s.causeArises n c).trip = s.trip := by
  unfold State.causeArises; split <;> simp
@[simp] theorem State.causeArises_chans (s : State) (n : Leg) (c : Cause) :
    (s.causeArises n c).chans = s.chans := by
  unfold State.causeArises; split <;> simp
@[simp] theorem State.causeArises_chan (s : State) (n : Leg) (c : Cause) (q : Chan) :
    (s.causeArises n c).chan q = s.chan q := by
  simp [State.chan]
@[simp] theorem State.causeArises_choices (s : State) (n : Leg) (c : Cause) :
    (s.causeArises n c).choices = s.choices := by
  unfold State.causeArises; split <;> simp
@[simp] theorem State.causeArises_pending (s : State) (n : Leg) (c : Cause) :
    (s.causeArises n c).pending = s.pending := by
  unfold State.causeArises; split <;> simp

@[simp] theorem State.postLimitStart_rst (s : State) (n : Leg) :
    (s.postLimitStart n).rst = s.rst := by
  rfl
@[simp] theorem State.postLimitStart_ports (s : State) (n : Leg) :
    (s.postLimitStart n).ports = s.ports := by
  rfl
@[simp] theorem State.postLimitStart_port (s : State) (n : Leg) (q : Port) :
    (s.postLimitStart n).port q = s.port q := by
  simp [State.port]
@[simp] theorem State.postLimitStart_leases (s : State) (n : Leg) :
    (s.postLimitStart n).leases = s.leases := by
  rfl
@[simp] theorem State.postLimitStart_lease (s : State) (n : Leg) (q : Resource) :
    (s.postLimitStart n).lease q = s.lease q := by
  simp [State.lease]
@[simp] theorem State.postLimitStart_leaseClock (s : State) (n : Leg) :
    (s.postLimitStart n).leaseClock = s.leaseClock := by
  rfl
@[simp] theorem State.postLimitStart_carrier (s : State) (n : Leg) :
    (s.postLimitStart n).carrier = s.carrier := by
  rfl
@[simp] theorem State.postLimitStart_legs (s : State) (n : Leg) :
    (s.postLimitStart n).legs = s.legs := by
  rfl
@[simp] theorem State.postLimitStart_leg (s : State) (n : Leg) (q : Leg) :
    (s.postLimitStart n).leg q = s.leg q := by
  simp [State.leg]
@[simp] theorem State.postLimitStart_sync (s : State) (n : Leg) :
    (s.postLimitStart n).sync = s.sync := by
  rfl
@[simp] theorem State.postLimitStart_mark (s : State) (n : Leg) (q : Mark) :
    (s.postLimitStart n).mark q = s.mark q := by
  simp [State.mark]
@[simp] theorem State.postLimitStart_trip (s : State) (n : Leg) :
    (s.postLimitStart n).trip = s.trip := by
  rfl
@[simp] theorem State.postLimitStart_chans (s : State) (n : Leg) :
    (s.postLimitStart n).chans = s.chans := by
  rfl
@[simp] theorem State.postLimitStart_chan (s : State) (n : Leg) (q : Chan) :
    (s.postLimitStart n).chan q = s.chan q := by
  simp [State.chan]
@[simp] theorem State.postLimitStart_choices (s : State) (n : Leg) :
    (s.postLimitStart n).choices = s.choices := by
  rfl
@[simp] theorem State.postLimitStart_pending (s : State) (n : Leg) :
    (s.postLimitStart n).pending = s.pending := by
  rfl

@[simp] theorem State.setCut_rst (s : State) (n : Leg) :
    (s.setCut n).rst = s.rst := by
  unfold State.setCut; dsimp only; split <;> simp
@[simp] theorem State.setCut_ports (s : State) (n : Leg) :
    (s.setCut n).ports = s.ports := by
  unfold State.setCut; dsimp only; split <;> simp
@[simp] theorem State.setCut_port (s : State) (n : Leg) (q : Port) :
    (s.setCut n).port q = s.port q := by
  simp [State.port]
@[simp] theorem State.setCut_leases (s : State) (n : Leg) :
    (s.setCut n).leases = s.leases := by
  unfold State.setCut; dsimp only; split <;> simp
@[simp] theorem State.setCut_lease (s : State) (n : Leg) (q : Resource) :
    (s.setCut n).lease q = s.lease q := by
  simp [State.lease]
@[simp] theorem State.setCut_leaseClock (s : State) (n : Leg) :
    (s.setCut n).leaseClock = s.leaseClock := by
  unfold State.setCut; dsimp only; split <;> simp
@[simp] theorem State.setCut_carrier (s : State) (n : Leg) :
    (s.setCut n).carrier = s.carrier := by
  unfold State.setCut; dsimp only; split <;> simp
@[simp] theorem State.setCut_sync (s : State) (n : Leg) :
    (s.setCut n).sync = s.sync := by
  unfold State.setCut; dsimp only; split <;> simp
@[simp] theorem State.setCut_mark (s : State) (n : Leg) (q : Mark) :
    (s.setCut n).mark q = s.mark q := by
  simp [State.mark]
@[simp] theorem State.setCut_trip (s : State) (n : Leg) :
    (s.setCut n).trip = s.trip := by
  unfold State.setCut; dsimp only; split <;> simp
@[simp] theorem State.setCut_chans (s : State) (n : Leg) :
    (s.setCut n).chans = s.chans := by
  unfold State.setCut; dsimp only; split <;> simp
@[simp] theorem State.setCut_chan (s : State) (n : Leg) (q : Chan) :
    (s.setCut n).chan q = s.chan q := by
  simp [State.chan]
@[simp] theorem State.setCut_choices (s : State) (n : Leg) :
    (s.setCut n).choices = s.choices := by
  unfold State.setCut; dsimp only; split <;> simp
@[simp] theorem State.setCut_pending (s : State) (n : Leg) :
    (s.setCut n).pending = s.pending := by
  unfold State.setCut; dsimp only; split <;> simp

@[simp] theorem State.trip0Reaches_rst (s : State) (n : Leg) :
    (s.trip0Reaches n).rst = s.rst := by
  unfold State.trip0Reaches; dsimp only; repeat' (first | rfl | simp | split)
@[simp] theorem State.trip0Reaches_ports (s : State) (n : Leg) :
    (s.trip0Reaches n).ports = s.ports := by
  unfold State.trip0Reaches; dsimp only; repeat' (first | rfl | simp | split)
@[simp] theorem State.trip0Reaches_port (s : State) (n : Leg) (q : Port) :
    (s.trip0Reaches n).port q = s.port q := by
  simp [State.port]
@[simp] theorem State.trip0Reaches_leaseClock (s : State) (n : Leg) :
    (s.trip0Reaches n).leaseClock = s.leaseClock := by
  unfold State.trip0Reaches; dsimp only; repeat' (first | rfl | simp | split)
@[simp] theorem State.trip0Reaches_carrier (s : State) (n : Leg) :
    (s.trip0Reaches n).carrier = s.carrier := by
  unfold State.trip0Reaches; dsimp only; repeat' (first | rfl | simp | split)
@[simp] theorem State.trip0Reaches_trip (s : State) (n : Leg) :
    (s.trip0Reaches n).trip = s.trip := by
  unfold State.trip0Reaches; dsimp only; repeat' (first | rfl | simp | split)
@[simp] theorem State.trip0Reaches_chans (s : State) (n : Leg) :
    (s.trip0Reaches n).chans = s.chans := by
  unfold State.trip0Reaches; dsimp only; repeat' (first | rfl | simp | split)
@[simp] theorem State.trip0Reaches_chan (s : State) (n : Leg) (q : Chan) :
    (s.trip0Reaches n).chan q = s.chan q := by
  simp [State.chan]
@[simp] theorem State.trip0Reaches_choices (s : State) (n : Leg) :
    (s.trip0Reaches n).choices = s.choices := by
  unfold State.trip0Reaches; dsimp only; repeat' (first | rfl | simp | split)
@[simp] theorem State.trip0Reaches_pending (s : State) (n : Leg) :
    (s.trip0Reaches n).pending = s.pending := by
  unfold State.trip0Reaches; dsimp only; repeat' (first | rfl | simp | split)

@[simp] theorem State.completeRearm_rst (s : State) (n : Leg) :
    (s.completeRearm n).rst = s.rst := by
  unfold State.completeRearm; split <;> simp
@[simp] theorem State.completeRearm_ports (s : State) (n : Leg) :
    (s.completeRearm n).ports = s.ports := by
  unfold State.completeRearm; split <;> simp
@[simp] theorem State.completeRearm_port (s : State) (n : Leg) (q : Port) :
    (s.completeRearm n).port q = s.port q := by
  simp [State.port]
@[simp] theorem State.completeRearm_leases (s : State) (n : Leg) :
    (s.completeRearm n).leases = s.leases := by
  unfold State.completeRearm; split <;> simp
@[simp] theorem State.completeRearm_lease (s : State) (n : Leg) (q : Resource) :
    (s.completeRearm n).lease q = s.lease q := by
  simp [State.lease]
@[simp] theorem State.completeRearm_leaseClock (s : State) (n : Leg) :
    (s.completeRearm n).leaseClock = s.leaseClock := by
  unfold State.completeRearm; split <;> simp
@[simp] theorem State.completeRearm_carrier (s : State) (n : Leg) :
    (s.completeRearm n).carrier = s.carrier := by
  unfold State.completeRearm; split <;> simp
@[simp] theorem State.completeRearm_sync (s : State) (n : Leg) :
    (s.completeRearm n).sync = s.sync := by
  unfold State.completeRearm; split <;> simp
@[simp] theorem State.completeRearm_mark (s : State) (n : Leg) (q : Mark) :
    (s.completeRearm n).mark q = s.mark q := by
  simp [State.mark]
@[simp] theorem State.completeRearm_trip (s : State) (n : Leg) :
    (s.completeRearm n).trip = s.trip := by
  unfold State.completeRearm; split <;> simp
@[simp] theorem State.completeRearm_chans (s : State) (n : Leg) :
    (s.completeRearm n).chans = s.chans := by
  unfold State.completeRearm; split <;> simp
@[simp] theorem State.completeRearm_chan (s : State) (n : Leg) (q : Chan) :
    (s.completeRearm n).chan q = s.chan q := by
  simp [State.chan]
@[simp] theorem State.completeRearm_choices (s : State) (n : Leg) :
    (s.completeRearm n).choices = s.choices := by
  unfold State.completeRearm; split <;> simp
@[simp] theorem State.completeRearm_pending (s : State) (n : Leg) :
    (s.completeRearm n).pending = s.pending := by
  unfold State.completeRearm; split <;> simp

@[simp] theorem State.completeIfPending_rst (s : State) (n : Leg) :
    (s.completeIfPending n).rst = s.rst := by
  unfold State.completeIfPending; split <;> simp
@[simp] theorem State.completeIfPending_ports (s : State) (n : Leg) :
    (s.completeIfPending n).ports = s.ports := by
  unfold State.completeIfPending; split <;> simp
@[simp] theorem State.completeIfPending_port (s : State) (n : Leg) (q : Port) :
    (s.completeIfPending n).port q = s.port q := by
  simp [State.port]
@[simp] theorem State.completeIfPending_leases (s : State) (n : Leg) :
    (s.completeIfPending n).leases = s.leases := by
  unfold State.completeIfPending; split <;> simp
@[simp] theorem State.completeIfPending_lease (s : State) (n : Leg) (q : Resource) :
    (s.completeIfPending n).lease q = s.lease q := by
  simp [State.lease]
@[simp] theorem State.completeIfPending_leaseClock (s : State) (n : Leg) :
    (s.completeIfPending n).leaseClock = s.leaseClock := by
  unfold State.completeIfPending; split <;> simp
@[simp] theorem State.completeIfPending_carrier (s : State) (n : Leg) :
    (s.completeIfPending n).carrier = s.carrier := by
  unfold State.completeIfPending; split <;> simp
@[simp] theorem State.completeIfPending_sync (s : State) (n : Leg) :
    (s.completeIfPending n).sync = s.sync := by
  unfold State.completeIfPending; split <;> simp
@[simp] theorem State.completeIfPending_mark (s : State) (n : Leg) (q : Mark) :
    (s.completeIfPending n).mark q = s.mark q := by
  simp [State.mark]
@[simp] theorem State.completeIfPending_trip (s : State) (n : Leg) :
    (s.completeIfPending n).trip = s.trip := by
  unfold State.completeIfPending; split <;> simp
@[simp] theorem State.completeIfPending_chans (s : State) (n : Leg) :
    (s.completeIfPending n).chans = s.chans := by
  unfold State.completeIfPending; split <;> simp
@[simp] theorem State.completeIfPending_chan (s : State) (n : Leg) (q : Chan) :
    (s.completeIfPending n).chan q = s.chan q := by
  simp [State.chan]
@[simp] theorem State.completeIfPending_choices (s : State) (n : Leg) :
    (s.completeIfPending n).choices = s.choices := by
  unfold State.completeIfPending; split <;> simp
@[simp] theorem State.completeIfPending_pending (s : State) (n : Leg) :
    (s.completeIfPending n).pending = s.pending := by
  unfold State.completeIfPending; split <;> simp

@[simp] theorem State.escalate_rst (s : State) (n : Leg) (k : Nat) :
    (s.escalate n k).rst = s.rst := by
  simp [State.escalate]
@[simp] theorem State.escalate_ports (s : State) (n : Leg) (k : Nat) :
    (s.escalate n k).ports = s.ports := by
  simp [State.escalate]
@[simp] theorem State.escalate_port (s : State) (n : Leg) (k : Nat) (q : Port) :
    (s.escalate n k).port q = s.port q := by
  simp [State.port]
@[simp] theorem State.escalate_leaseClock (s : State) (n : Leg) (k : Nat) :
    (s.escalate n k).leaseClock = s.leaseClock := by
  simp [State.escalate]
@[simp] theorem State.escalate_carrier (s : State) (n : Leg) (k : Nat) :
    (s.escalate n k).carrier = s.carrier := by
  simp [State.escalate]
@[simp] theorem State.escalate_trip (s : State) (n : Leg) (k : Nat) :
    (s.escalate n k).trip = s.trip := by
  simp [State.escalate]
@[simp] theorem State.escalate_chans (s : State) (n : Leg) (k : Nat) :
    (s.escalate n k).chans = s.chans := by
  simp [State.escalate]
@[simp] theorem State.escalate_chan (s : State) (n : Leg) (k : Nat) (q : Chan) :
    (s.escalate n k).chan q = s.chan q := by
  simp [State.chan]
@[simp] theorem State.escalate_choices (s : State) (n : Leg) (k : Nat) :
    (s.escalate n k).choices = s.choices := by
  simp [State.escalate]
@[simp] theorem State.escalate_pending (s : State) (n : Leg) (k : Nat) :
    (s.escalate n k).pending = s.pending := by
  simp [State.escalate]

@[simp] theorem State.closePeriod_rst (s : State) (n : Leg) (u : LegUnit) :
    (s.closePeriod n u).rst = s.rst := by
  unfold State.closePeriod; dsimp only; repeat' (first | rfl | simp | split)
@[simp] theorem State.closePeriod_ports (s : State) (n : Leg) (u : LegUnit) :
    (s.closePeriod n u).ports = s.ports := by
  unfold State.closePeriod; dsimp only; repeat' (first | rfl | simp | split)
@[simp] theorem State.closePeriod_port (s : State) (n : Leg) (u : LegUnit) (q : Port) :
    (s.closePeriod n u).port q = s.port q := by
  simp [State.port]
@[simp] theorem State.closePeriod_leaseClock (s : State) (n : Leg) (u : LegUnit) :
    (s.closePeriod n u).leaseClock = s.leaseClock := by
  unfold State.closePeriod; dsimp only; repeat' (first | rfl | simp | split)
@[simp] theorem State.closePeriod_carrier (s : State) (n : Leg) (u : LegUnit) :
    (s.closePeriod n u).carrier = s.carrier := by
  unfold State.closePeriod; dsimp only; repeat' (first | rfl | simp | split)
@[simp] theorem State.closePeriod_trip (s : State) (n : Leg) (u : LegUnit) :
    (s.closePeriod n u).trip = s.trip := by
  unfold State.closePeriod; dsimp only; repeat' (first | rfl | simp | split)
@[simp] theorem State.closePeriod_chans (s : State) (n : Leg) (u : LegUnit) :
    (s.closePeriod n u).chans = s.chans := by
  unfold State.closePeriod; dsimp only; repeat' (first | rfl | simp | split)
@[simp] theorem State.closePeriod_chan (s : State) (n : Leg) (u : LegUnit) (q : Chan) :
    (s.closePeriod n u).chan q = s.chan q := by
  simp [State.chan]
@[simp] theorem State.closePeriod_choices (s : State) (n : Leg) (u : LegUnit) :
    (s.closePeriod n u).choices = s.choices := by
  unfold State.closePeriod; dsimp only; repeat' (first | rfl | simp | split)
@[simp] theorem State.closePeriod_pending (s : State) (n : Leg) (u : LegUnit) :
    (s.closePeriod n u).pending = s.pending := by
  unfold State.closePeriod; dsimp only; repeat' (first | rfl | simp | split)

@[simp] theorem State.escalateEarly_rst (s : State) (x : PerLeg Bool) :
    (s.escalateEarly x).rst = s.rst := by
  exact foldl_frame (State.rst) _ (fun s n => by split <;> simp) _ _
@[simp] theorem State.escalateEarly_ports (s : State) (x : PerLeg Bool) :
    (s.escalateEarly x).ports = s.ports := by
  exact foldl_frame (State.ports) _ (fun s n => by split <;> simp) _ _
@[simp] theorem State.escalateEarly_port (s : State) (x : PerLeg Bool) (q : Port) :
    (s.escalateEarly x).port q = s.port q := by
  simp [State.port]
@[simp] theorem State.escalateEarly_leaseClock (s : State) (x : PerLeg Bool) :
    (s.escalateEarly x).leaseClock = s.leaseClock := by
  exact foldl_frame (State.leaseClock) _ (fun s n => by split <;> simp) _ _
@[simp] theorem State.escalateEarly_carrier (s : State) (x : PerLeg Bool) :
    (s.escalateEarly x).carrier = s.carrier := by
  exact foldl_frame (State.carrier) _ (fun s n => by split <;> simp) _ _
@[simp] theorem State.escalateEarly_trip (s : State) (x : PerLeg Bool) :
    (s.escalateEarly x).trip = s.trip := by
  exact foldl_frame (State.trip) _ (fun s n => by split <;> simp) _ _
@[simp] theorem State.escalateEarly_chans (s : State) (x : PerLeg Bool) :
    (s.escalateEarly x).chans = s.chans := by
  exact foldl_frame (State.chans) _ (fun s n => by split <;> simp) _ _
@[simp] theorem State.escalateEarly_chan (s : State) (x : PerLeg Bool) (q : Chan) :
    (s.escalateEarly x).chan q = s.chan q := by
  simp [State.chan]
@[simp] theorem State.escalateEarly_choices (s : State) (x : PerLeg Bool) :
    (s.escalateEarly x).choices = s.choices := by
  exact foldl_frame (State.choices) _ (fun s n => by split <;> simp) _ _
@[simp] theorem State.escalateEarly_pending (s : State) (x : PerLeg Bool) :
    (s.escalateEarly x).pending = s.pending := by
  exact foldl_frame (State.pending) _ (fun s n => by split <;> simp) _ _

@[simp] theorem State.legsTake_rst (s : State) (x : PerLeg (Option SyncAnswer)) :
    (s.legsTake x).rst = s.rst := by
  exact foldl_frame (State.rst) _ (fun s n => by simp) _ _
@[simp] theorem State.legsTake_ports (s : State) (x : PerLeg (Option SyncAnswer)) :
    (s.legsTake x).ports = s.ports := by
  exact foldl_frame (State.ports) _ (fun s n => by simp) _ _
@[simp] theorem State.legsTake_port (s : State) (x : PerLeg (Option SyncAnswer)) (q : Port) :
    (s.legsTake x).port q = s.port q := by
  simp [State.port]
@[simp] theorem State.legsTake_leaseClock (s : State) (x : PerLeg (Option SyncAnswer)) :
    (s.legsTake x).leaseClock = s.leaseClock := by
  exact foldl_frame (State.leaseClock) _ (fun s n => by simp) _ _
@[simp] theorem State.legsTake_carrier (s : State) (x : PerLeg (Option SyncAnswer)) :
    (s.legsTake x).carrier = s.carrier := by
  exact foldl_frame (State.carrier) _ (fun s n => by simp) _ _
@[simp] theorem State.legsTake_sync (s : State) (x : PerLeg (Option SyncAnswer)) :
    (s.legsTake x).sync = s.sync := by
  exact foldl_frame (State.sync) _ (fun s n => by simp) _ _
@[simp] theorem State.legsTake_mark (s : State) (x : PerLeg (Option SyncAnswer)) (q : Mark) :
    (s.legsTake x).mark q = s.mark q := by
  simp [State.mark]
@[simp] theorem State.legsTake_trip (s : State) (x : PerLeg (Option SyncAnswer)) :
    (s.legsTake x).trip = s.trip := by
  exact foldl_frame (State.trip) _ (fun s n => by simp) _ _
@[simp] theorem State.legsTake_chans (s : State) (x : PerLeg (Option SyncAnswer)) :
    (s.legsTake x).chans = s.chans := by
  exact foldl_frame (State.chans) _ (fun s n => by simp) _ _
@[simp] theorem State.legsTake_chan (s : State) (x : PerLeg (Option SyncAnswer)) (q : Chan) :
    (s.legsTake x).chan q = s.chan q := by
  simp [State.chan]
@[simp] theorem State.legsTake_choices (s : State) (x : PerLeg (Option SyncAnswer)) :
    (s.legsTake x).choices = s.choices := by
  exact foldl_frame (State.choices) _ (fun s n => by simp) _ _
@[simp] theorem State.legsTake_pending (s : State) (x : PerLeg (Option SyncAnswer)) :
    (s.legsTake x).pending = s.pending := by
  exact foldl_frame (State.pending) _ (fun s n => by simp) _ _

@[simp] theorem State.tripUnitTakes_rst (s : State) (x : PerLeg LegUnit) :
    (s.tripUnitTakes x).rst = s.rst := by
  exact foldl_frame (State.rst) _ (fun s n => by simp) _ _
@[simp] theorem State.tripUnitTakes_ports (s : State) (x : PerLeg LegUnit) :
    (s.tripUnitTakes x).ports = s.ports := by
  exact foldl_frame (State.ports) _ (fun s n => by simp) _ _
@[simp] theorem State.tripUnitTakes_port (s : State) (x : PerLeg LegUnit) (q : Port) :
    (s.tripUnitTakes x).port q = s.port q := by
  simp [State.port]
@[simp] theorem State.tripUnitTakes_leaseClock (s : State) (x : PerLeg LegUnit) :
    (s.tripUnitTakes x).leaseClock = s.leaseClock := by
  exact foldl_frame (State.leaseClock) _ (fun s n => by simp) _ _
@[simp] theorem State.tripUnitTakes_carrier (s : State) (x : PerLeg LegUnit) :
    (s.tripUnitTakes x).carrier = s.carrier := by
  exact foldl_frame (State.carrier) _ (fun s n => by simp) _ _
@[simp] theorem State.tripUnitTakes_trip (s : State) (x : PerLeg LegUnit) :
    (s.tripUnitTakes x).trip = s.trip := by
  exact foldl_frame (State.trip) _ (fun s n => by simp) _ _
@[simp] theorem State.tripUnitTakes_chans (s : State) (x : PerLeg LegUnit) :
    (s.tripUnitTakes x).chans = s.chans := by
  exact foldl_frame (State.chans) _ (fun s n => by simp) _ _
@[simp] theorem State.tripUnitTakes_chan (s : State) (x : PerLeg LegUnit) (q : Chan) :
    (s.tripUnitTakes x).chan q = s.chan q := by
  simp [State.chan]
@[simp] theorem State.tripUnitTakes_choices (s : State) (x : PerLeg LegUnit) :
    (s.tripUnitTakes x).choices = s.choices := by
  exact foldl_frame (State.choices) _ (fun s n => by simp) _ _
@[simp] theorem State.tripUnitTakes_pending (s : State) (x : PerLeg LegUnit) :
    (s.tripUnitTakes x).pending = s.pending := by
  exact foldl_frame (State.pending) _ (fun s n => by simp) _ _

@[simp] theorem State.boundaryWith_rst (s : State) (x : PerLeg Bool) :
    (s.boundaryWith x).rst = s.rst := by
  simp [State.boundaryWith]
@[simp] theorem State.boundaryWith_ports (s : State) (x : PerLeg Bool) :
    (s.boundaryWith x).ports = s.ports := by
  simp [State.boundaryWith]
@[simp] theorem State.boundaryWith_port (s : State) (x : PerLeg Bool) (q : Port) :
    (s.boundaryWith x).port q = s.port q := by
  simp [State.port]
@[simp] theorem State.boundaryWith_choices (s : State) (x : PerLeg Bool) :
    (s.boundaryWith x).choices = s.choices := by
  simp [State.boundaryWith]
@[simp] theorem State.boundaryWith_leaseClock (s : State) (x : PerLeg Bool) :
    (s.boundaryWith x).leaseClock = s.leaseClock := by
  simp [State.boundaryWith]
@[simp] theorem State.boundaryWith_trip (s : State) (x : PerLeg Bool) :
    (s.boundaryWith x).trip = s.trip := by
  simp [State.boundaryWith]
@[simp] theorem State.boundaryWith_chans (s : State) (x : PerLeg Bool) :
    (s.boundaryWith x).chans = s.chans := by
  simp [State.boundaryWith]
@[simp] theorem State.boundaryWith_chan (s : State) (x : PerLeg Bool) (q : Chan) :
    (s.boundaryWith x).chan q = s.chan q := by
  simp [State.chan]
@[simp] theorem State.boundaryWith_pending (s : State) (x : PerLeg Bool) :
    (s.boundaryWith x).pending = s.pending := by
  simp [State.boundaryWith]

@[simp] theorem State.boundary_rst (s : State) :
    (s.boundary).rst = s.rst := by
  simp [State.boundary]
@[simp] theorem State.boundary_ports (s : State) :
    (s.boundary).ports = s.ports := by
  simp [State.boundary]
@[simp] theorem State.boundary_port (s : State) (q : Port) :
    (s.boundary).port q = s.port q := by
  simp [State.port]
@[simp] theorem State.boundary_leaseClock (s : State) :
    (s.boundary).leaseClock = s.leaseClock := by
  simp [State.boundary]
@[simp] theorem State.boundary_trip (s : State) :
    (s.boundary).trip = s.trip := by
  simp [State.boundary]
@[simp] theorem State.boundary_chans (s : State) :
    (s.boundary).chans = s.chans := by
  simp [State.boundary]
@[simp] theorem State.boundary_chan (s : State) (q : Chan) :
    (s.boundary).chan q = s.chan q := by
  simp [State.chan]
@[simp] theorem State.boundary_pending (s : State) :
    (s.boundary).pending = s.pending := by
  simp [State.boundary]

@[simp] theorem State.carrierTicks_rst (s : State) :
    (s.carrierTicks).rst = s.rst := by
  unfold State.carrierTicks; repeat' (first | rfl | simp | split)
@[simp] theorem State.carrierTicks_ports (s : State) :
    (s.carrierTicks).ports = s.ports := by
  unfold State.carrierTicks; repeat' (first | rfl | simp | split)
@[simp] theorem State.carrierTicks_port (s : State) (q : Port) :
    (s.carrierTicks).port q = s.port q := by
  simp [State.port]
@[simp] theorem State.carrierTicks_leaseClock (s : State) :
    (s.carrierTicks).leaseClock = s.leaseClock := by
  unfold State.carrierTicks; repeat' (first | rfl | simp | split)
@[simp] theorem State.carrierTicks_trip (s : State) :
    (s.carrierTicks).trip = s.trip := by
  unfold State.carrierTicks; repeat' (first | rfl | simp | split)
@[simp] theorem State.carrierTicks_chans (s : State) :
    (s.carrierTicks).chans = s.chans := by
  unfold State.carrierTicks; repeat' (first | rfl | simp | split)
@[simp] theorem State.carrierTicks_chan (s : State) (q : Chan) :
    (s.carrierTicks).chan q = s.chan q := by
  simp [State.chan]
@[simp] theorem State.carrierTicks_pending (s : State) :
    (s.carrierTicks).pending = s.pending := by
  unfold State.carrierTicks; repeat' (first | rfl | simp | split)

@[simp] theorem State.postChan_rst (s : State) (c : Chan) (b : NoticeBody) :
    (s.postChan c b).rst = s.rst := by
  rfl
@[simp] theorem State.postChan_ports (s : State) (c : Chan) (b : NoticeBody) :
    (s.postChan c b).ports = s.ports := by
  rfl
@[simp] theorem State.postChan_port (s : State) (c : Chan) (b : NoticeBody) (q : Port) :
    (s.postChan c b).port q = s.port q := by
  simp [State.port]
@[simp] theorem State.postChan_leases (s : State) (c : Chan) (b : NoticeBody) :
    (s.postChan c b).leases = s.leases := by
  rfl
@[simp] theorem State.postChan_lease (s : State) (c : Chan) (b : NoticeBody) (q : Resource) :
    (s.postChan c b).lease q = s.lease q := by
  simp [State.lease]
@[simp] theorem State.postChan_leaseClock (s : State) (c : Chan) (b : NoticeBody) :
    (s.postChan c b).leaseClock = s.leaseClock := by
  rfl
@[simp] theorem State.postChan_carrier (s : State) (c : Chan) (b : NoticeBody) :
    (s.postChan c b).carrier = s.carrier := by
  rfl
@[simp] theorem State.postChan_legs (s : State) (c : Chan) (b : NoticeBody) :
    (s.postChan c b).legs = s.legs := by
  rfl
@[simp] theorem State.postChan_leg (s : State) (c : Chan) (b : NoticeBody) (q : Leg) :
    (s.postChan c b).leg q = s.leg q := by
  simp [State.leg]
@[simp] theorem State.postChan_sync (s : State) (c : Chan) (b : NoticeBody) :
    (s.postChan c b).sync = s.sync := by
  rfl
@[simp] theorem State.postChan_mark (s : State) (c : Chan) (b : NoticeBody) (q : Mark) :
    (s.postChan c b).mark q = s.mark q := by
  simp [State.mark]
@[simp] theorem State.postChan_trip (s : State) (c : Chan) (b : NoticeBody) :
    (s.postChan c b).trip = s.trip := by
  rfl
@[simp] theorem State.postChan_chans (s : State) (c : Chan) (b : NoticeBody) :
    (s.postChan c b).chans = s.chans := by
  rfl
@[simp] theorem State.postChan_chan (s : State) (c : Chan) (b : NoticeBody) (q : Chan) :
    (s.postChan c b).chan q = s.chan q := by
  simp [State.chan]
@[simp] theorem State.postChan_choices (s : State) (c : Chan) (b : NoticeBody) :
    (s.postChan c b).choices = s.choices := by
  rfl
@[simp] theorem State.postChan_pending (s : State) (c : Chan) (b : NoticeBody) :
    (s.postChan c b).pending = s.pending := by
  rfl

@[simp] theorem State.countStep_rst (s : State) (c : Chan) (up : Bool) :
    (s.countStep c up).rst = s.rst := by
  unfold State.countStep; dsimp only; split <;> simp
@[simp] theorem State.countStep_ports (s : State) (c : Chan) (up : Bool) :
    (s.countStep c up).ports = s.ports := by
  unfold State.countStep; dsimp only; split <;> simp
@[simp] theorem State.countStep_port (s : State) (c : Chan) (up : Bool) (q : Port) :
    (s.countStep c up).port q = s.port q := by
  simp [State.port]
@[simp] theorem State.countStep_leases (s : State) (c : Chan) (up : Bool) :
    (s.countStep c up).leases = s.leases := by
  unfold State.countStep; dsimp only; split <;> simp
@[simp] theorem State.countStep_lease (s : State) (c : Chan) (up : Bool) (q : Resource) :
    (s.countStep c up).lease q = s.lease q := by
  simp [State.lease]
@[simp] theorem State.countStep_leaseClock (s : State) (c : Chan) (up : Bool) :
    (s.countStep c up).leaseClock = s.leaseClock := by
  unfold State.countStep; dsimp only; split <;> simp
@[simp] theorem State.countStep_carrier (s : State) (c : Chan) (up : Bool) :
    (s.countStep c up).carrier = s.carrier := by
  unfold State.countStep; dsimp only; split <;> simp
@[simp] theorem State.countStep_sync (s : State) (c : Chan) (up : Bool) :
    (s.countStep c up).sync = s.sync := by
  unfold State.countStep; dsimp only; split <;> simp
@[simp] theorem State.countStep_mark (s : State) (c : Chan) (up : Bool) (q : Mark) :
    (s.countStep c up).mark q = s.mark q := by
  simp [State.mark]
@[simp] theorem State.countStep_trip (s : State) (c : Chan) (up : Bool) :
    (s.countStep c up).trip = s.trip := by
  unfold State.countStep; dsimp only; split <;> simp
@[simp] theorem State.countStep_choices (s : State) (c : Chan) (up : Bool) :
    (s.countStep c up).choices = s.choices := by
  unfold State.countStep; dsimp only; split <;> simp
@[simp] theorem State.countStep_pending (s : State) (c : Chan) (up : Bool) :
    (s.countStep c up).pending = s.pending := by
  unfold State.countStep; dsimp only; split <;> simp

@[simp] theorem State.indexEdge_rst (s : State) (c : Chan) :
    (s.indexEdge c).rst = s.rst := by
  simp [State.indexEdge]
@[simp] theorem State.indexEdge_ports (s : State) (c : Chan) :
    (s.indexEdge c).ports = s.ports := by
  simp [State.indexEdge]
@[simp] theorem State.indexEdge_port (s : State) (c : Chan) (q : Port) :
    (s.indexEdge c).port q = s.port q := by
  simp [State.port]
@[simp] theorem State.indexEdge_leases (s : State) (c : Chan) :
    (s.indexEdge c).leases = s.leases := by
  simp [State.indexEdge]
@[simp] theorem State.indexEdge_lease (s : State) (c : Chan) (q : Resource) :
    (s.indexEdge c).lease q = s.lease q := by
  simp [State.lease]
@[simp] theorem State.indexEdge_leaseClock (s : State) (c : Chan) :
    (s.indexEdge c).leaseClock = s.leaseClock := by
  simp [State.indexEdge]
@[simp] theorem State.indexEdge_carrier (s : State) (c : Chan) :
    (s.indexEdge c).carrier = s.carrier := by
  simp [State.indexEdge]
@[simp] theorem State.indexEdge_legs (s : State) (c : Chan) :
    (s.indexEdge c).legs = s.legs := by
  simp [State.indexEdge]
@[simp] theorem State.indexEdge_leg (s : State) (c : Chan) (q : Leg) :
    (s.indexEdge c).leg q = s.leg q := by
  simp [State.leg]
@[simp] theorem State.indexEdge_sync (s : State) (c : Chan) :
    (s.indexEdge c).sync = s.sync := by
  simp [State.indexEdge]
@[simp] theorem State.indexEdge_mark (s : State) (c : Chan) (q : Mark) :
    (s.indexEdge c).mark q = s.mark q := by
  simp [State.mark]
@[simp] theorem State.indexEdge_trip (s : State) (c : Chan) :
    (s.indexEdge c).trip = s.trip := by
  simp [State.indexEdge]
@[simp] theorem State.indexEdge_choices (s : State) (c : Chan) :
    (s.indexEdge c).choices = s.choices := by
  simp [State.indexEdge]
@[simp] theorem State.indexEdge_pending (s : State) (c : Chan) :
    (s.indexEdge c).pending = s.pending := by
  simp [State.indexEdge]

@[simp] theorem State.captureEdge_rst (s : State) (c : Chan) (x : Bool) :
    (s.captureEdge c x).rst = s.rst := by
  unfold State.captureEdge; dsimp only; split <;> simp
@[simp] theorem State.captureEdge_ports (s : State) (c : Chan) (x : Bool) :
    (s.captureEdge c x).ports = s.ports := by
  unfold State.captureEdge; dsimp only; split <;> simp
@[simp] theorem State.captureEdge_port (s : State) (c : Chan) (x : Bool) (q : Port) :
    (s.captureEdge c x).port q = s.port q := by
  simp [State.port]
@[simp] theorem State.captureEdge_leases (s : State) (c : Chan) (x : Bool) :
    (s.captureEdge c x).leases = s.leases := by
  unfold State.captureEdge; dsimp only; split <;> simp
@[simp] theorem State.captureEdge_lease (s : State) (c : Chan) (x : Bool) (q : Resource) :
    (s.captureEdge c x).lease q = s.lease q := by
  simp [State.lease]
@[simp] theorem State.captureEdge_leaseClock (s : State) (c : Chan) (x : Bool) :
    (s.captureEdge c x).leaseClock = s.leaseClock := by
  unfold State.captureEdge; dsimp only; split <;> simp
@[simp] theorem State.captureEdge_carrier (s : State) (c : Chan) (x : Bool) :
    (s.captureEdge c x).carrier = s.carrier := by
  unfold State.captureEdge; dsimp only; split <;> simp
@[simp] theorem State.captureEdge_legs (s : State) (c : Chan) (x : Bool) :
    (s.captureEdge c x).legs = s.legs := by
  unfold State.captureEdge; dsimp only; split <;> simp
@[simp] theorem State.captureEdge_leg (s : State) (c : Chan) (x : Bool) (q : Leg) :
    (s.captureEdge c x).leg q = s.leg q := by
  simp [State.leg]
@[simp] theorem State.captureEdge_sync (s : State) (c : Chan) (x : Bool) :
    (s.captureEdge c x).sync = s.sync := by
  unfold State.captureEdge; dsimp only; split <;> simp
@[simp] theorem State.captureEdge_mark (s : State) (c : Chan) (x : Bool) (q : Mark) :
    (s.captureEdge c x).mark q = s.mark q := by
  simp [State.mark]
@[simp] theorem State.captureEdge_trip (s : State) (c : Chan) (x : Bool) :
    (s.captureEdge c x).trip = s.trip := by
  unfold State.captureEdge; dsimp only; split <;> simp
@[simp] theorem State.captureEdge_choices (s : State) (c : Chan) (x : Bool) :
    (s.captureEdge c x).choices = s.choices := by
  unfold State.captureEdge; dsimp only; split <;> simp
@[simp] theorem State.captureEdge_pending (s : State) (c : Chan) (x : Bool) :
    (s.captureEdge c x).pending = s.pending := by
  unfold State.captureEdge; dsimp only; split <;> simp

@[simp] theorem State.acceptLevels_rst (s : State) (c : Chan) (x y z : Bool) :
    (s.acceptLevels c x y z).rst = s.rst := by
  unfold State.acceptLevels; dsimp only; split <;> split <;> split <;> simp
@[simp] theorem State.acceptLevels_ports (s : State) (c : Chan) (x y z : Bool) :
    (s.acceptLevels c x y z).ports = s.ports := by
  unfold State.acceptLevels; dsimp only; split <;> split <;> split <;> simp
@[simp] theorem State.acceptLevels_port (s : State) (c : Chan) (x y z : Bool) (q : Port) :
    (s.acceptLevels c x y z).port q = s.port q := by
  simp [State.port]
@[simp] theorem State.acceptLevels_leases (s : State) (c : Chan) (x y z : Bool) :
    (s.acceptLevels c x y z).leases = s.leases := by
  unfold State.acceptLevels; dsimp only; split <;> split <;> split <;> simp
@[simp] theorem State.acceptLevels_lease (s : State) (c : Chan) (x y z : Bool) (q : Resource) :
    (s.acceptLevels c x y z).lease q = s.lease q := by
  simp [State.lease]
@[simp] theorem State.acceptLevels_leaseClock (s : State) (c : Chan) (x y z : Bool) :
    (s.acceptLevels c x y z).leaseClock = s.leaseClock := by
  unfold State.acceptLevels; dsimp only; split <;> split <;> split <;> simp
@[simp] theorem State.acceptLevels_carrier (s : State) (c : Chan) (x y z : Bool) :
    (s.acceptLevels c x y z).carrier = s.carrier := by
  unfold State.acceptLevels; dsimp only; split <;> split <;> split <;> simp
@[simp] theorem State.acceptLevels_sync (s : State) (c : Chan) (x y z : Bool) :
    (s.acceptLevels c x y z).sync = s.sync := by
  unfold State.acceptLevels; dsimp only; split <;> split <;> split <;> simp
@[simp] theorem State.acceptLevels_mark (s : State) (c : Chan) (x y z : Bool) (q : Mark) :
    (s.acceptLevels c x y z).mark q = s.mark q := by
  simp [State.mark]
@[simp] theorem State.acceptLevels_trip (s : State) (c : Chan) (x y z : Bool) :
    (s.acceptLevels c x y z).trip = s.trip := by
  unfold State.acceptLevels; dsimp only; split <;> split <;> split <;> simp
@[simp] theorem State.acceptLevels_choices (s : State) (c : Chan) (x y z : Bool) :
    (s.acceptLevels c x y z).choices = s.choices := by
  unfold State.acceptLevels; dsimp only; split <;> split <;> split <;> simp
@[simp] theorem State.acceptLevels_pending (s : State) (c : Chan) (x y z : Bool) :
    (s.acceptLevels c x y z).pending = s.pending := by
  unfold State.acceptLevels; dsimp only; split <;> split <;> split <;> simp

@[simp] theorem State.stallChan_rst (s : State) (c : Chan) :
    (s.stallChan c).rst = s.rst := by
  simp [State.stallChan]
@[simp] theorem State.stallChan_ports (s : State) (c : Chan) :
    (s.stallChan c).ports = s.ports := by
  simp [State.stallChan]
@[simp] theorem State.stallChan_port (s : State) (c : Chan) (q : Port) :
    (s.stallChan c).port q = s.port q := by
  simp [State.port]
@[simp] theorem State.stallChan_leases (s : State) (c : Chan) :
    (s.stallChan c).leases = s.leases := by
  simp [State.stallChan]
@[simp] theorem State.stallChan_lease (s : State) (c : Chan) (q : Resource) :
    (s.stallChan c).lease q = s.lease q := by
  simp [State.lease]
@[simp] theorem State.stallChan_leaseClock (s : State) (c : Chan) :
    (s.stallChan c).leaseClock = s.leaseClock := by
  simp [State.stallChan]
@[simp] theorem State.stallChan_carrier (s : State) (c : Chan) :
    (s.stallChan c).carrier = s.carrier := by
  simp [State.stallChan]
@[simp] theorem State.stallChan_legs (s : State) (c : Chan) :
    (s.stallChan c).legs = s.legs := by
  simp [State.stallChan]
@[simp] theorem State.stallChan_leg (s : State) (c : Chan) (q : Leg) :
    (s.stallChan c).leg q = s.leg q := by
  simp [State.leg]
@[simp] theorem State.stallChan_sync (s : State) (c : Chan) :
    (s.stallChan c).sync = s.sync := by
  simp [State.stallChan]
@[simp] theorem State.stallChan_mark (s : State) (c : Chan) (q : Mark) :
    (s.stallChan c).mark q = s.mark q := by
  simp [State.mark]
@[simp] theorem State.stallChan_trip (s : State) (c : Chan) :
    (s.stallChan c).trip = s.trip := by
  simp [State.stallChan]
@[simp] theorem State.stallChan_choices (s : State) (c : Chan) :
    (s.stallChan c).choices = s.choices := by
  simp [State.stallChan]
@[simp] theorem State.stallChan_pending (s : State) (c : Chan) :
    (s.stallChan c).pending = s.pending := by
  simp [State.stallChan]

@[simp] theorem State.saturateCapture_rst (s : State) (c : Chan) :
    (s.saturateCapture c).rst = s.rst := by
  simp [State.saturateCapture]
@[simp] theorem State.saturateCapture_ports (s : State) (c : Chan) :
    (s.saturateCapture c).ports = s.ports := by
  simp [State.saturateCapture]
@[simp] theorem State.saturateCapture_port (s : State) (c : Chan) (q : Port) :
    (s.saturateCapture c).port q = s.port q := by
  simp [State.port]
@[simp] theorem State.saturateCapture_leases (s : State) (c : Chan) :
    (s.saturateCapture c).leases = s.leases := by
  simp [State.saturateCapture]
@[simp] theorem State.saturateCapture_lease (s : State) (c : Chan) (q : Resource) :
    (s.saturateCapture c).lease q = s.lease q := by
  simp [State.lease]
@[simp] theorem State.saturateCapture_leaseClock (s : State) (c : Chan) :
    (s.saturateCapture c).leaseClock = s.leaseClock := by
  simp [State.saturateCapture]
@[simp] theorem State.saturateCapture_carrier (s : State) (c : Chan) :
    (s.saturateCapture c).carrier = s.carrier := by
  simp [State.saturateCapture]
@[simp] theorem State.saturateCapture_legs (s : State) (c : Chan) :
    (s.saturateCapture c).legs = s.legs := by
  simp [State.saturateCapture]
@[simp] theorem State.saturateCapture_leg (s : State) (c : Chan) (q : Leg) :
    (s.saturateCapture c).leg q = s.leg q := by
  simp [State.leg]
@[simp] theorem State.saturateCapture_sync (s : State) (c : Chan) :
    (s.saturateCapture c).sync = s.sync := by
  simp [State.saturateCapture]
@[simp] theorem State.saturateCapture_mark (s : State) (c : Chan) (q : Mark) :
    (s.saturateCapture c).mark q = s.mark q := by
  simp [State.mark]
@[simp] theorem State.saturateCapture_trip (s : State) (c : Chan) :
    (s.saturateCapture c).trip = s.trip := by
  simp [State.saturateCapture]
@[simp] theorem State.saturateCapture_choices (s : State) (c : Chan) :
    (s.saturateCapture c).choices = s.choices := by
  simp [State.saturateCapture]
@[simp] theorem State.saturateCapture_pending (s : State) (c : Chan) :
    (s.saturateCapture c).pending = s.pending := by
  simp [State.saturateCapture]

@[simp] theorem State.saturate_rst (s : State) (c : Chan) (b : Nat) :
    (s.saturate c b).rst = s.rst := by
  unfold State.saturate; dsimp only; repeat' (first | rfl | simp | split)
@[simp] theorem State.saturate_ports (s : State) (c : Chan) (b : Nat) :
    (s.saturate c b).ports = s.ports := by
  unfold State.saturate; dsimp only; repeat' (first | rfl | simp | split)
@[simp] theorem State.saturate_port (s : State) (c : Chan) (b : Nat) (q : Port) :
    (s.saturate c b).port q = s.port q := by
  simp [State.port]
@[simp] theorem State.saturate_leases (s : State) (c : Chan) (b : Nat) :
    (s.saturate c b).leases = s.leases := by
  unfold State.saturate; dsimp only; repeat' (first | rfl | simp | split)
@[simp] theorem State.saturate_lease (s : State) (c : Chan) (b : Nat) (q : Resource) :
    (s.saturate c b).lease q = s.lease q := by
  simp [State.lease]
@[simp] theorem State.saturate_leaseClock (s : State) (c : Chan) (b : Nat) :
    (s.saturate c b).leaseClock = s.leaseClock := by
  unfold State.saturate; dsimp only; repeat' (first | rfl | simp | split)
@[simp] theorem State.saturate_carrier (s : State) (c : Chan) (b : Nat) :
    (s.saturate c b).carrier = s.carrier := by
  unfold State.saturate; dsimp only; repeat' (first | rfl | simp | split)
@[simp] theorem State.saturate_legs (s : State) (c : Chan) (b : Nat) :
    (s.saturate c b).legs = s.legs := by
  unfold State.saturate; dsimp only; repeat' (first | rfl | simp | split)
@[simp] theorem State.saturate_leg (s : State) (c : Chan) (b : Nat) (q : Leg) :
    (s.saturate c b).leg q = s.leg q := by
  simp [State.leg]
@[simp] theorem State.saturate_sync (s : State) (c : Chan) (b : Nat) :
    (s.saturate c b).sync = s.sync := by
  unfold State.saturate; dsimp only; repeat' (first | rfl | simp | split)
@[simp] theorem State.saturate_mark (s : State) (c : Chan) (b : Nat) (q : Mark) :
    (s.saturate c b).mark q = s.mark q := by
  simp [State.mark]
@[simp] theorem State.saturate_trip (s : State) (c : Chan) (b : Nat) :
    (s.saturate c b).trip = s.trip := by
  unfold State.saturate; dsimp only; repeat' (first | rfl | simp | split)
@[simp] theorem State.saturate_choices (s : State) (c : Chan) (b : Nat) :
    (s.saturate c b).choices = s.choices := by
  unfold State.saturate; dsimp only; repeat' (first | rfl | simp | split)
@[simp] theorem State.saturate_pending (s : State) (c : Chan) (b : Nat) :
    (s.saturate c b).pending = s.pending := by
  unfold State.saturate; dsimp only; repeat' (first | rfl | simp | split)

@[simp] theorem State.intervalTicks_rst (s : State) (c : Chan) :
    (s.intervalTicks c).rst = s.rst := by
  simp [State.intervalTicks]
@[simp] theorem State.intervalTicks_ports (s : State) (c : Chan) :
    (s.intervalTicks c).ports = s.ports := by
  simp [State.intervalTicks]
@[simp] theorem State.intervalTicks_port (s : State) (c : Chan) (q : Port) :
    (s.intervalTicks c).port q = s.port q := by
  simp [State.port]
@[simp] theorem State.intervalTicks_leases (s : State) (c : Chan) :
    (s.intervalTicks c).leases = s.leases := by
  simp [State.intervalTicks]
@[simp] theorem State.intervalTicks_lease (s : State) (c : Chan) (q : Resource) :
    (s.intervalTicks c).lease q = s.lease q := by
  simp [State.lease]
@[simp] theorem State.intervalTicks_leaseClock (s : State) (c : Chan) :
    (s.intervalTicks c).leaseClock = s.leaseClock := by
  simp [State.intervalTicks]
@[simp] theorem State.intervalTicks_carrier (s : State) (c : Chan) :
    (s.intervalTicks c).carrier = s.carrier := by
  simp [State.intervalTicks]
@[simp] theorem State.intervalTicks_legs (s : State) (c : Chan) :
    (s.intervalTicks c).legs = s.legs := by
  simp [State.intervalTicks]
@[simp] theorem State.intervalTicks_leg (s : State) (c : Chan) (q : Leg) :
    (s.intervalTicks c).leg q = s.leg q := by
  simp [State.leg]
@[simp] theorem State.intervalTicks_sync (s : State) (c : Chan) :
    (s.intervalTicks c).sync = s.sync := by
  simp [State.intervalTicks]
@[simp] theorem State.intervalTicks_mark (s : State) (c : Chan) (q : Mark) :
    (s.intervalTicks c).mark q = s.mark q := by
  simp [State.mark]
@[simp] theorem State.intervalTicks_trip (s : State) (c : Chan) :
    (s.intervalTicks c).trip = s.trip := by
  simp [State.intervalTicks]
@[simp] theorem State.intervalTicks_choices (s : State) (c : Chan) :
    (s.intervalTicks c).choices = s.choices := by
  simp [State.intervalTicks]
@[simp] theorem State.intervalTicks_pending (s : State) (c : Chan) :
    (s.intervalTicks c).pending = s.pending := by
  simp [State.intervalTicks]

@[simp] theorem State.chosen_rst (s : State) :
    (s.chosen).rst = s.rst := by
  rfl
@[simp] theorem State.chosen_ports (s : State) :
    (s.chosen).ports = s.ports := by
  rfl
@[simp] theorem State.chosen_port (s : State) (q : Port) :
    (s.chosen).port q = s.port q := by
  simp [State.port]
@[simp] theorem State.chosen_leases (s : State) :
    (s.chosen).leases = s.leases := by
  rfl
@[simp] theorem State.chosen_lease (s : State) (q : Resource) :
    (s.chosen).lease q = s.lease q := by
  simp [State.lease]
@[simp] theorem State.chosen_leaseClock (s : State) :
    (s.chosen).leaseClock = s.leaseClock := by
  rfl
@[simp] theorem State.chosen_carrier (s : State) :
    (s.chosen).carrier = s.carrier := by
  rfl
@[simp] theorem State.chosen_legs (s : State) :
    (s.chosen).legs = s.legs := by
  rfl
@[simp] theorem State.chosen_leg (s : State) (q : Leg) :
    (s.chosen).leg q = s.leg q := by
  simp [State.leg]
@[simp] theorem State.chosen_sync (s : State) :
    (s.chosen).sync = s.sync := by
  rfl
@[simp] theorem State.chosen_mark (s : State) (q : Mark) :
    (s.chosen).mark q = s.mark q := by
  simp [State.mark]
@[simp] theorem State.chosen_trip (s : State) :
    (s.chosen).trip = s.trip := by
  rfl
@[simp] theorem State.chosen_chans (s : State) :
    (s.chosen).chans = s.chans := by
  rfl
@[simp] theorem State.chosen_chan (s : State) (q : Chan) :
    (s.chosen).chan q = s.chan q := by
  simp [State.chan]
@[simp] theorem State.chosen_outbox (s : State) :
    (s.chosen).outbox = s.outbox := by
  rfl
@[simp] theorem State.chosen_pending (s : State) :
    (s.chosen).pending = s.pending := by
  rfl

@[simp] theorem State.tickAndAccept_rst (s : State) (c : Chan) (x y z : Bool) :
    (s.tickAndAccept c x y z).rst = s.rst := by
  unfold State.tickAndAccept; dsimp only; repeat' (first | rfl | simp | split)
@[simp] theorem State.tickAndAccept_ports (s : State) (c : Chan) (x y z : Bool) :
    (s.tickAndAccept c x y z).ports = s.ports := by
  unfold State.tickAndAccept; dsimp only; repeat' (first | rfl | simp | split)
@[simp] theorem State.tickAndAccept_port (s : State) (c : Chan) (x y z : Bool) (q : Port) :
    (s.tickAndAccept c x y z).port q = s.port q := by
  simp [State.port]
@[simp] theorem State.tickAndAccept_leases (s : State) (c : Chan) (x y z : Bool) :
    (s.tickAndAccept c x y z).leases = s.leases := by
  unfold State.tickAndAccept; dsimp only; repeat' (first | rfl | simp | split)
@[simp] theorem State.tickAndAccept_lease (s : State) (c : Chan) (x y z : Bool) (q : Resource) :
    (s.tickAndAccept c x y z).lease q = s.lease q := by
  simp [State.lease]
@[simp] theorem State.tickAndAccept_leaseClock (s : State) (c : Chan) (x y z : Bool) :
    (s.tickAndAccept c x y z).leaseClock = s.leaseClock := by
  unfold State.tickAndAccept; dsimp only; repeat' (first | rfl | simp | split)
@[simp] theorem State.tickAndAccept_carrier (s : State) (c : Chan) (x y z : Bool) :
    (s.tickAndAccept c x y z).carrier = s.carrier := by
  unfold State.tickAndAccept; dsimp only; repeat' (first | rfl | simp | split)
@[simp] theorem State.tickAndAccept_sync (s : State) (c : Chan) (x y z : Bool) :
    (s.tickAndAccept c x y z).sync = s.sync := by
  unfold State.tickAndAccept; dsimp only; repeat' (first | rfl | simp | split)
@[simp] theorem State.tickAndAccept_mark (s : State) (c : Chan) (x y z : Bool) (q : Mark) :
    (s.tickAndAccept c x y z).mark q = s.mark q := by
  simp [State.mark]
@[simp] theorem State.tickAndAccept_trip (s : State) (c : Chan) (x y z : Bool) :
    (s.tickAndAccept c x y z).trip = s.trip := by
  unfold State.tickAndAccept; dsimp only; repeat' (first | rfl | simp | split)
@[simp] theorem State.tickAndAccept_pending (s : State) (c : Chan) (x y z : Bool) :
    (s.tickAndAccept c x y z).pending = s.pending := by
  unfold State.tickAndAccept; dsimp only; repeat' (first | rfl | simp | split)

@[simp] theorem State.carrierTickGiven_rst (s : State) :
    (s.carrierTickGiven).rst = s.rst := by
  rfl
@[simp] theorem State.carrierTickGiven_ports (s : State) :
    (s.carrierTickGiven).ports = s.ports := by
  rfl
@[simp] theorem State.carrierTickGiven_port (s : State) (q : Port) :
    (s.carrierTickGiven).port q = s.port q := by
  simp [State.port]
@[simp] theorem State.carrierTickGiven_leases (s : State) :
    (s.carrierTickGiven).leases = s.leases := by
  rfl
@[simp] theorem State.carrierTickGiven_lease (s : State) (q : Resource) :
    (s.carrierTickGiven).lease q = s.lease q := by
  simp [State.lease]
@[simp] theorem State.carrierTickGiven_leaseClock (s : State) :
    (s.carrierTickGiven).leaseClock = s.leaseClock := by
  rfl
@[simp] theorem State.carrierTickGiven_legs (s : State) :
    (s.carrierTickGiven).legs = s.legs := by
  rfl
@[simp] theorem State.carrierTickGiven_leg (s : State) (q : Leg) :
    (s.carrierTickGiven).leg q = s.leg q := by
  simp [State.leg]
@[simp] theorem State.carrierTickGiven_sync (s : State) :
    (s.carrierTickGiven).sync = s.sync := by
  rfl
@[simp] theorem State.carrierTickGiven_mark (s : State) (q : Mark) :
    (s.carrierTickGiven).mark q = s.mark q := by
  simp [State.mark]
@[simp] theorem State.carrierTickGiven_trip (s : State) :
    (s.carrierTickGiven).trip = s.trip := by
  rfl
@[simp] theorem State.carrierTickGiven_chans (s : State) :
    (s.carrierTickGiven).chans = s.chans := by
  rfl
@[simp] theorem State.carrierTickGiven_chan (s : State) (q : Chan) :
    (s.carrierTickGiven).chan q = s.chan q := by
  simp [State.chan]
@[simp] theorem State.carrierTickGiven_outbox (s : State) :
    (s.carrierTickGiven).outbox = s.outbox := by
  rfl
@[simp] theorem State.carrierTickGiven_choices (s : State) :
    (s.carrierTickGiven).choices = s.choices := by
  rfl
@[simp] theorem State.carrierTickGiven_pending (s : State) :
    (s.carrierTickGiven).pending = s.pending := by
  rfl

@[simp] theorem State.tickGiven_rst (s : State) (c : Chan) :
    (s.tickGiven c).rst = s.rst := by
  rfl
@[simp] theorem State.tickGiven_ports (s : State) (c : Chan) :
    (s.tickGiven c).ports = s.ports := by
  rfl
@[simp] theorem State.tickGiven_port (s : State) (c : Chan) (q : Port) :
    (s.tickGiven c).port q = s.port q := by
  simp [State.port]
@[simp] theorem State.tickGiven_leases (s : State) (c : Chan) :
    (s.tickGiven c).leases = s.leases := by
  rfl
@[simp] theorem State.tickGiven_lease (s : State) (c : Chan) (q : Resource) :
    (s.tickGiven c).lease q = s.lease q := by
  simp [State.lease]
@[simp] theorem State.tickGiven_leaseClock (s : State) (c : Chan) :
    (s.tickGiven c).leaseClock = s.leaseClock := by
  rfl
@[simp] theorem State.tickGiven_carrier (s : State) (c : Chan) :
    (s.tickGiven c).carrier = s.carrier := by
  rfl
@[simp] theorem State.tickGiven_legs (s : State) (c : Chan) :
    (s.tickGiven c).legs = s.legs := by
  rfl
@[simp] theorem State.tickGiven_leg (s : State) (c : Chan) (q : Leg) :
    (s.tickGiven c).leg q = s.leg q := by
  simp [State.leg]
@[simp] theorem State.tickGiven_sync (s : State) (c : Chan) :
    (s.tickGiven c).sync = s.sync := by
  rfl
@[simp] theorem State.tickGiven_mark (s : State) (c : Chan) (q : Mark) :
    (s.tickGiven c).mark q = s.mark q := by
  simp [State.mark]
@[simp] theorem State.tickGiven_trip (s : State) (c : Chan) :
    (s.tickGiven c).trip = s.trip := by
  rfl
@[simp] theorem State.tickGiven_outbox (s : State) (c : Chan) :
    (s.tickGiven c).outbox = s.outbox := by
  rfl
@[simp] theorem State.tickGiven_choices (s : State) (c : Chan) :
    (s.tickGiven c).choices = s.choices := by
  rfl
@[simp] theorem State.tickGiven_pending (s : State) (c : Chan) :
    (s.tickGiven c).pending = s.pending := by
  rfl

@[simp] theorem State.escalationBoundary_rst (s : State) (n : Leg) :
    (s.escalationBoundary n).rst = s.rst := by
  unfold State.escalationBoundary; split <;> simp
@[simp] theorem State.escalationBoundary_ports (s : State) (n : Leg) :
    (s.escalationBoundary n).ports = s.ports := by
  unfold State.escalationBoundary; split <;> simp
@[simp] theorem State.escalationBoundary_port (s : State) (n : Leg) (q : Port) :
    (s.escalationBoundary n).port q = s.port q := by
  simp [State.port]
@[simp] theorem State.escalationBoundary_leaseClock (s : State) (n : Leg) :
    (s.escalationBoundary n).leaseClock = s.leaseClock := by
  unfold State.escalationBoundary; split <;> simp
@[simp] theorem State.escalationBoundary_trip (s : State) (n : Leg) :
    (s.escalationBoundary n).trip = s.trip := by
  unfold State.escalationBoundary; split <;> simp
@[simp] theorem State.escalationBoundary_chans (s : State) (n : Leg) :
    (s.escalationBoundary n).chans = s.chans := by
  unfold State.escalationBoundary; split <;> simp
@[simp] theorem State.escalationBoundary_chan (s : State) (n : Leg) (q : Chan) :
    (s.escalationBoundary n).chan q = s.chan q := by
  simp [State.chan]
@[simp] theorem State.escalationBoundary_pending (s : State) (n : Leg) :
    (s.escalationBoundary n).pending = s.pending := by
  unfold State.escalationBoundary; split <;> simp

@[simp] theorem State.unsubscribe_rst (s : State) (p : Port) :
    (s.unsubscribe p).rst = s.rst := by
  rfl
@[simp] theorem State.unsubscribe_ports (s : State) (p : Port) :
    (s.unsubscribe p).ports = s.ports := by
  rfl
@[simp] theorem State.unsubscribe_port (s : State) (p : Port) (q : Port) :
    (s.unsubscribe p).port q = s.port q := by
  simp [State.port]
@[simp] theorem State.unsubscribe_leases (s : State) (p : Port) :
    (s.unsubscribe p).leases = s.leases := by
  rfl
@[simp] theorem State.unsubscribe_lease (s : State) (p : Port) (q : Resource) :
    (s.unsubscribe p).lease q = s.lease q := by
  simp [State.lease]
@[simp] theorem State.unsubscribe_leaseClock (s : State) (p : Port) :
    (s.unsubscribe p).leaseClock = s.leaseClock := by
  rfl
@[simp] theorem State.unsubscribe_carrier (s : State) (p : Port) :
    (s.unsubscribe p).carrier = s.carrier := by
  rfl
@[simp] theorem State.unsubscribe_legs (s : State) (p : Port) :
    (s.unsubscribe p).legs = s.legs := by
  rfl
@[simp] theorem State.unsubscribe_leg (s : State) (p : Port) (q : Leg) :
    (s.unsubscribe p).leg q = s.leg q := by
  simp [State.leg]
@[simp] theorem State.unsubscribe_sync (s : State) (p : Port) :
    (s.unsubscribe p).sync = s.sync := by
  rfl
@[simp] theorem State.unsubscribe_mark (s : State) (p : Port) (q : Mark) :
    (s.unsubscribe p).mark q = s.mark q := by
  simp [State.mark]
@[simp] theorem State.unsubscribe_trip (s : State) (p : Port) :
    (s.unsubscribe p).trip = s.trip := by
  rfl
@[simp] theorem State.unsubscribe_outbox (s : State) (p : Port) :
    (s.unsubscribe p).outbox = s.outbox := by
  rfl
@[simp] theorem State.unsubscribe_choices (s : State) (p : Port) :
    (s.unsubscribe p).choices = s.choices := by
  rfl
@[simp] theorem State.unsubscribe_pending (s : State) (p : Port) :
    (s.unsubscribe p).pending = s.pending := by
  rfl

@[simp] theorem State.dropWaiters_rst (s : State) (p : Port) :
    (s.dropWaiters p).rst = s.rst := by
  exact foldl_frame (State.rst) _ (fun s n => by simp) _ _
@[simp] theorem State.dropWaiters_ports (s : State) (p : Port) :
    (s.dropWaiters p).ports = s.ports := by
  exact foldl_frame (State.ports) _ (fun s n => by simp) _ _
@[simp] theorem State.dropWaiters_port (s : State) (p : Port) (q : Port) :
    (s.dropWaiters p).port q = s.port q := by
  simp [State.port]
@[simp] theorem State.dropWaiters_leaseClock (s : State) (p : Port) :
    (s.dropWaiters p).leaseClock = s.leaseClock := by
  exact foldl_frame (State.leaseClock) _ (fun s n => by simp) _ _
@[simp] theorem State.dropWaiters_carrier (s : State) (p : Port) :
    (s.dropWaiters p).carrier = s.carrier := by
  exact foldl_frame (State.carrier) _ (fun s n => by simp) _ _
@[simp] theorem State.dropWaiters_legs (s : State) (p : Port) :
    (s.dropWaiters p).legs = s.legs := by
  exact foldl_frame (State.legs) _ (fun s n => by simp) _ _
@[simp] theorem State.dropWaiters_leg (s : State) (p : Port) (q : Leg) :
    (s.dropWaiters p).leg q = s.leg q := by
  simp [State.leg]
@[simp] theorem State.dropWaiters_sync (s : State) (p : Port) :
    (s.dropWaiters p).sync = s.sync := by
  exact foldl_frame (State.sync) _ (fun s n => by simp) _ _
@[simp] theorem State.dropWaiters_mark (s : State) (p : Port) (q : Mark) :
    (s.dropWaiters p).mark q = s.mark q := by
  simp [State.mark]
@[simp] theorem State.dropWaiters_trip (s : State) (p : Port) :
    (s.dropWaiters p).trip = s.trip := by
  exact foldl_frame (State.trip) _ (fun s n => by simp) _ _
@[simp] theorem State.dropWaiters_chans (s : State) (p : Port) :
    (s.dropWaiters p).chans = s.chans := by
  exact foldl_frame (State.chans) _ (fun s n => by simp) _ _
@[simp] theorem State.dropWaiters_chan (s : State) (p : Port) (q : Chan) :
    (s.dropWaiters p).chan q = s.chan q := by
  simp [State.chan]
@[simp] theorem State.dropWaiters_outbox (s : State) (p : Port) :
    (s.dropWaiters p).outbox = s.outbox := by
  exact foldl_frame (State.outbox) _ (fun s n => by simp) _ _
@[simp] theorem State.dropWaiters_choices (s : State) (p : Port) :
    (s.dropWaiters p).choices = s.choices := by
  exact foldl_frame (State.choices) _ (fun s n => by simp) _ _
@[simp] theorem State.dropWaiters_pending (s : State) (p : Port) :
    (s.dropWaiters p).pending = s.pending := by
  exact foldl_frame (State.pending) _ (fun s n => by simp) _ _

@[simp] theorem State.endIfHeld_rst (s : State) (p : Port) (r : Resource) :
    (s.endIfHeld p r).rst = s.rst := by
  unfold State.endIfHeld; split <;> simp
@[simp] theorem State.endIfHeld_ports (s : State) (p : Port) (r : Resource) :
    (s.endIfHeld p r).ports = s.ports := by
  unfold State.endIfHeld; split <;> simp
@[simp] theorem State.endIfHeld_port (s : State) (p : Port) (r : Resource) (q : Port) :
    (s.endIfHeld p r).port q = s.port q := by
  simp [State.port]
@[simp] theorem State.endIfHeld_leaseClock (s : State) (p : Port) (r : Resource) :
    (s.endIfHeld p r).leaseClock = s.leaseClock := by
  unfold State.endIfHeld; split <;> simp
@[simp] theorem State.endIfHeld_carrier (s : State) (p : Port) (r : Resource) :
    (s.endIfHeld p r).carrier = s.carrier := by
  unfold State.endIfHeld; split <;> simp
@[simp] theorem State.endIfHeld_trip (s : State) (p : Port) (r : Resource) :
    (s.endIfHeld p r).trip = s.trip := by
  unfold State.endIfHeld; split <;> simp
@[simp] theorem State.endIfHeld_chans (s : State) (p : Port) (r : Resource) :
    (s.endIfHeld p r).chans = s.chans := by
  unfold State.endIfHeld; split <;> simp
@[simp] theorem State.endIfHeld_chan (s : State) (p : Port) (r : Resource) (q : Chan) :
    (s.endIfHeld p r).chan q = s.chan q := by
  simp [State.chan]
@[simp] theorem State.endIfHeld_choices (s : State) (p : Port) (r : Resource) :
    (s.endIfHeld p r).choices = s.choices := by
  unfold State.endIfHeld; split <;> simp
@[simp] theorem State.endIfHeld_pending (s : State) (p : Port) (r : Resource) :
    (s.endIfHeld p r).pending = s.pending := by
  unfold State.endIfHeld; split <;> simp

@[simp] theorem State.presenceFalls_rst (s : State) (p : Port) :
    (s.presenceFalls p).rst = s.rst := by
  simp [State.presenceFalls, foldl_frame (State.rst) (fun s r => s.endIfHeld p r) (fun s r => State.endIfHeld_rst s p r)]
@[simp] theorem State.presenceFalls_leaseClock (s : State) (p : Port) :
    (s.presenceFalls p).leaseClock = s.leaseClock := by
  simp [State.presenceFalls, foldl_frame (State.leaseClock) (fun s r => s.endIfHeld p r) (fun s r => State.endIfHeld_leaseClock s p r)]
@[simp] theorem State.presenceFalls_carrier (s : State) (p : Port) :
    (s.presenceFalls p).carrier = s.carrier := by
  simp [State.presenceFalls, foldl_frame (State.carrier) (fun s r => s.endIfHeld p r) (fun s r => State.endIfHeld_carrier s p r)]
@[simp] theorem State.presenceFalls_trip (s : State) (p : Port) :
    (s.presenceFalls p).trip = s.trip := by
  simp [State.presenceFalls, foldl_frame (State.trip) (fun s r => s.endIfHeld p r) (fun s r => State.endIfHeld_trip s p r)]
@[simp] theorem State.presenceFalls_pending (s : State) (p : Port) :
    (s.presenceFalls p).pending = s.pending := by
  simp [State.presenceFalls, foldl_frame (State.pending) (fun s r => s.endIfHeld p r) (fun s r => State.endIfHeld_pending s p r)]

@[simp] theorem State.presenceRises_rst (s : State) (p : Port) :
    (s.presenceRises p).rst = s.rst := by
  simp [State.presenceRises]
@[simp] theorem State.presenceRises_leases (s : State) (p : Port) :
    (s.presenceRises p).leases = s.leases := by
  simp [State.presenceRises]
@[simp] theorem State.presenceRises_lease (s : State) (p : Port) (q : Resource) :
    (s.presenceRises p).lease q = s.lease q := by
  simp [State.lease]
@[simp] theorem State.presenceRises_leaseClock (s : State) (p : Port) :
    (s.presenceRises p).leaseClock = s.leaseClock := by
  simp [State.presenceRises]
@[simp] theorem State.presenceRises_carrier (s : State) (p : Port) :
    (s.presenceRises p).carrier = s.carrier := by
  simp [State.presenceRises]
@[simp] theorem State.presenceRises_legs (s : State) (p : Port) :
    (s.presenceRises p).legs = s.legs := by
  simp [State.presenceRises]
@[simp] theorem State.presenceRises_leg (s : State) (p : Port) (q : Leg) :
    (s.presenceRises p).leg q = s.leg q := by
  simp [State.leg]
@[simp] theorem State.presenceRises_sync (s : State) (p : Port) :
    (s.presenceRises p).sync = s.sync := by
  simp [State.presenceRises]
@[simp] theorem State.presenceRises_mark (s : State) (p : Port) (q : Mark) :
    (s.presenceRises p).mark q = s.mark q := by
  simp [State.mark]
@[simp] theorem State.presenceRises_trip (s : State) (p : Port) :
    (s.presenceRises p).trip = s.trip := by
  simp [State.presenceRises]
@[simp] theorem State.presenceRises_chans (s : State) (p : Port) :
    (s.presenceRises p).chans = s.chans := by
  simp [State.presenceRises]
@[simp] theorem State.presenceRises_chan (s : State) (p : Port) (q : Chan) :
    (s.presenceRises p).chan q = s.chan q := by
  simp [State.chan]
@[simp] theorem State.presenceRises_outbox (s : State) (p : Port) :
    (s.presenceRises p).outbox = s.outbox := by
  simp [State.presenceRises]
@[simp] theorem State.presenceRises_choices (s : State) (p : Port) :
    (s.presenceRises p).choices = s.choices := by
  simp [State.presenceRises]
@[simp] theorem State.presenceRises_pending (s : State) (p : Port) :
    (s.presenceRises p).pending = s.pending := by
  simp [State.presenceRises]

@[simp] theorem State.causeOnAll_rst (s : State) (c : Cause) :
    (s.causeOnAll c).rst = s.rst := by
  exact foldl_frame (State.rst) _ (fun s n => by simp) _ _
@[simp] theorem State.causeOnAll_ports (s : State) (c : Cause) :
    (s.causeOnAll c).ports = s.ports := by
  exact foldl_frame (State.ports) _ (fun s n => by simp) _ _
@[simp] theorem State.causeOnAll_port (s : State) (c : Cause) (q : Port) :
    (s.causeOnAll c).port q = s.port q := by
  simp [State.port]
@[simp] theorem State.causeOnAll_leaseClock (s : State) (c : Cause) :
    (s.causeOnAll c).leaseClock = s.leaseClock := by
  exact foldl_frame (State.leaseClock) _ (fun s n => by simp) _ _
@[simp] theorem State.causeOnAll_carrier (s : State) (c : Cause) :
    (s.causeOnAll c).carrier = s.carrier := by
  exact foldl_frame (State.carrier) _ (fun s n => by simp) _ _
@[simp] theorem State.causeOnAll_trip (s : State) (c : Cause) :
    (s.causeOnAll c).trip = s.trip := by
  exact foldl_frame (State.trip) _ (fun s n => by simp) _ _
@[simp] theorem State.causeOnAll_chans (s : State) (c : Cause) :
    (s.causeOnAll c).chans = s.chans := by
  exact foldl_frame (State.chans) _ (fun s n => by simp) _ _
@[simp] theorem State.causeOnAll_chan (s : State) (c : Cause) (q : Chan) :
    (s.causeOnAll c).chan q = s.chan q := by
  simp [State.chan]
@[simp] theorem State.causeOnAll_choices (s : State) (c : Cause) :
    (s.causeOnAll c).choices = s.choices := by
  exact foldl_frame (State.choices) _ (fun s n => by simp) _ _
@[simp] theorem State.causeOnAll_pending (s : State) (c : Cause) :
    (s.causeOnAll c).pending = s.pending := by
  exact foldl_frame (State.pending) _ (fun s n => by simp) _ _

@[simp] theorem State.evaluateAtRelease_rst (s : State) :
    (s.evaluateAtRelease).rst = s.rst := by
  unfold State.evaluateAtRelease; dsimp only; split <;> split <;> split <;> simp
@[simp] theorem State.evaluateAtRelease_ports (s : State) :
    (s.evaluateAtRelease).ports = s.ports := by
  unfold State.evaluateAtRelease; dsimp only; split <;> split <;> split <;> simp
@[simp] theorem State.evaluateAtRelease_port (s : State) (q : Port) :
    (s.evaluateAtRelease).port q = s.port q := by
  simp [State.port]
@[simp] theorem State.evaluateAtRelease_leaseClock (s : State) :
    (s.evaluateAtRelease).leaseClock = s.leaseClock := by
  unfold State.evaluateAtRelease; dsimp only; split <;> split <;> split <;> simp
@[simp] theorem State.evaluateAtRelease_carrier (s : State) :
    (s.evaluateAtRelease).carrier = s.carrier := by
  unfold State.evaluateAtRelease; dsimp only; split <;> split <;> split <;> simp
@[simp] theorem State.evaluateAtRelease_trip (s : State) :
    (s.evaluateAtRelease).trip = s.trip := by
  unfold State.evaluateAtRelease; dsimp only; split <;> split <;> split <;> simp
@[simp] theorem State.evaluateAtRelease_chans (s : State) :
    (s.evaluateAtRelease).chans = s.chans := by
  unfold State.evaluateAtRelease; dsimp only; split <;> split <;> split <;> simp
@[simp] theorem State.evaluateAtRelease_chan (s : State) (q : Chan) :
    (s.evaluateAtRelease).chan q = s.chan q := by
  simp [State.chan]
@[simp] theorem State.evaluateAtRelease_choices (s : State) :
    (s.evaluateAtRelease).choices = s.choices := by
  unfold State.evaluateAtRelease; dsimp only; split <;> split <;> split <;> simp
@[simp] theorem State.evaluateAtRelease_pending (s : State) :
    (s.evaluateAtRelease).pending = s.pending := by
  unfold State.evaluateAtRelease; dsimp only; split <;> split <;> split <;> simp

@[simp] theorem State.trip0Rises_rst (s : State) :
    (s.trip0Rises).rst = s.rst := by
  simp [State.trip0Rises, foldl_frame (State.rst) State.trip0Reaches (fun s n => State.trip0Reaches_rst s n)]
@[simp] theorem State.trip0Rises_ports (s : State) :
    (s.trip0Rises).ports = s.ports := by
  simp [State.trip0Rises, foldl_frame (State.ports) State.trip0Reaches (fun s n => State.trip0Reaches_ports s n)]
@[simp] theorem State.trip0Rises_port (s : State) (q : Port) :
    (s.trip0Rises).port q = s.port q := by
  simp [State.port]
@[simp] theorem State.trip0Rises_leaseClock (s : State) :
    (s.trip0Rises).leaseClock = s.leaseClock := by
  simp [State.trip0Rises, foldl_frame (State.leaseClock) State.trip0Reaches (fun s n => State.trip0Reaches_leaseClock s n)]
@[simp] theorem State.trip0Rises_carrier (s : State) :
    (s.trip0Rises).carrier = s.carrier := by
  simp [State.trip0Rises, foldl_frame (State.carrier) State.trip0Reaches (fun s n => State.trip0Reaches_carrier s n)]
@[simp] theorem State.trip0Rises_chans (s : State) :
    (s.trip0Rises).chans = s.chans := by
  simp [State.trip0Rises, foldl_frame (State.chans) State.trip0Reaches (fun s n => State.trip0Reaches_chans s n)]
@[simp] theorem State.trip0Rises_chan (s : State) (q : Chan) :
    (s.trip0Rises).chan q = s.chan q := by
  simp [State.chan]
@[simp] theorem State.trip0Rises_pending (s : State) :
    (s.trip0Rises).pending = s.pending := by
  simp [State.trip0Rises, foldl_frame (State.pending) State.trip0Reaches (fun s n => State.trip0Reaches_pending s n)]

@[simp] theorem State.trip1Rises_rst (s : State) :
    (s.trip1Rises).rst = s.rst := by
  simp [State.trip1Rises, foldl_frame (State.rst) (fun s n => s.causeArises n .trip1) (fun s n => State.causeArises_rst s n .trip1)]
@[simp] theorem State.trip1Rises_ports (s : State) :
    (s.trip1Rises).ports = s.ports := by
  simp [State.trip1Rises, foldl_frame (State.ports) (fun s n => s.causeArises n .trip1) (fun s n => State.causeArises_ports s n _)]
@[simp] theorem State.trip1Rises_port (s : State) (q : Port) :
    (s.trip1Rises).port q = s.port q := by
  simp [State.port]
@[simp] theorem State.trip1Rises_leaseClock (s : State) :
    (s.trip1Rises).leaseClock = s.leaseClock := by
  simp [State.trip1Rises, foldl_frame (State.leaseClock) (fun s n => s.causeArises n .trip1) (fun s n => State.causeArises_leaseClock s n .trip1)]
@[simp] theorem State.trip1Rises_carrier (s : State) :
    (s.trip1Rises).carrier = s.carrier := by
  simp [State.trip1Rises, foldl_frame (State.carrier) (fun s n => s.causeArises n .trip1) (fun s n => State.causeArises_carrier s n .trip1)]
@[simp] theorem State.trip1Rises_chans (s : State) :
    (s.trip1Rises).chans = s.chans := by
  simp [State.trip1Rises, foldl_frame (State.chans) (fun s n => s.causeArises n .trip1) (fun s n => State.causeArises_chans s n .trip1)]
@[simp] theorem State.trip1Rises_chan (s : State) (q : Chan) :
    (s.trip1Rises).chan q = s.chan q := by
  simp [State.chan]
@[simp] theorem State.trip1Rises_pending (s : State) :
    (s.trip1Rises).pending = s.pending := by
  simp [State.trip1Rises, foldl_frame (State.pending) (fun s n => s.causeArises n .trip1) (fun s n => State.causeArises_pending s n .trip1)]

@[simp] theorem State.armFalls_rst (s : State) :
    (s.armFalls).rst = s.rst := by
  simp [State.armFalls, foldl_frame (State.rst) (fun s n => s.causeArises n .disarm) (fun s n => State.causeArises_rst s n .disarm)]
@[simp] theorem State.armFalls_ports (s : State) :
    (s.armFalls).ports = s.ports := by
  simp [State.armFalls, foldl_frame (State.ports) (fun s n => s.causeArises n .disarm) (fun s n => State.causeArises_ports s n _)]
@[simp] theorem State.armFalls_port (s : State) (q : Port) :
    (s.armFalls).port q = s.port q := by
  simp [State.port]
@[simp] theorem State.armFalls_leaseClock (s : State) :
    (s.armFalls).leaseClock = s.leaseClock := by
  simp [State.armFalls, foldl_frame (State.leaseClock) (fun s n => s.causeArises n .disarm) (fun s n => State.causeArises_leaseClock s n .disarm)]
@[simp] theorem State.armFalls_carrier (s : State) :
    (s.armFalls).carrier = s.carrier := by
  simp [State.armFalls, foldl_frame (State.carrier) (fun s n => s.causeArises n .disarm) (fun s n => State.causeArises_carrier s n .disarm)]
@[simp] theorem State.armFalls_chans (s : State) :
    (s.armFalls).chans = s.chans := by
  simp [State.armFalls, foldl_frame (State.chans) (fun s n => s.causeArises n .disarm) (fun s n => State.causeArises_chans s n .disarm)]
@[simp] theorem State.armFalls_chan (s : State) (q : Chan) :
    (s.armFalls).chan q = s.chan q := by
  simp [State.chan]
@[simp] theorem State.armFalls_pending (s : State) :
    (s.armFalls).pending = s.pending := by
  simp [State.armFalls, foldl_frame (State.pending) (fun s n => s.causeArises n .disarm) (fun s n => State.causeArises_pending s n .disarm)]

@[simp] theorem State.trip0Falls_rst (s : State) :
    (s.trip0Falls).rst = s.rst := by
  rfl
@[simp] theorem State.trip0Falls_ports (s : State) :
    (s.trip0Falls).ports = s.ports := by
  rfl
@[simp] theorem State.trip0Falls_port (s : State) (q : Port) :
    (s.trip0Falls).port q = s.port q := by
  simp [State.port]
@[simp] theorem State.trip0Falls_leases (s : State) :
    (s.trip0Falls).leases = s.leases := by
  rfl
@[simp] theorem State.trip0Falls_lease (s : State) (q : Resource) :
    (s.trip0Falls).lease q = s.lease q := by
  simp [State.lease]
@[simp] theorem State.trip0Falls_leaseClock (s : State) :
    (s.trip0Falls).leaseClock = s.leaseClock := by
  rfl
@[simp] theorem State.trip0Falls_carrier (s : State) :
    (s.trip0Falls).carrier = s.carrier := by
  rfl
@[simp] theorem State.trip0Falls_legs (s : State) :
    (s.trip0Falls).legs = s.legs := by
  rfl
@[simp] theorem State.trip0Falls_leg (s : State) (q : Leg) :
    (s.trip0Falls).leg q = s.leg q := by
  simp [State.leg]
@[simp] theorem State.trip0Falls_sync (s : State) :
    (s.trip0Falls).sync = s.sync := by
  rfl
@[simp] theorem State.trip0Falls_mark (s : State) (q : Mark) :
    (s.trip0Falls).mark q = s.mark q := by
  simp [State.mark]
@[simp] theorem State.trip0Falls_chans (s : State) :
    (s.trip0Falls).chans = s.chans := by
  rfl
@[simp] theorem State.trip0Falls_chan (s : State) (q : Chan) :
    (s.trip0Falls).chan q = s.chan q := by
  simp [State.chan]
@[simp] theorem State.trip0Falls_outbox (s : State) :
    (s.trip0Falls).outbox = s.outbox := by
  rfl
@[simp] theorem State.trip0Falls_choices (s : State) :
    (s.trip0Falls).choices = s.choices := by
  rfl
@[simp] theorem State.trip0Falls_pending (s : State) :
    (s.trip0Falls).pending = s.pending := by
  rfl

@[simp] theorem State.trip1Falls_rst (s : State) :
    (s.trip1Falls).rst = s.rst := by
  rfl
@[simp] theorem State.trip1Falls_ports (s : State) :
    (s.trip1Falls).ports = s.ports := by
  rfl
@[simp] theorem State.trip1Falls_port (s : State) (q : Port) :
    (s.trip1Falls).port q = s.port q := by
  simp [State.port]
@[simp] theorem State.trip1Falls_leases (s : State) :
    (s.trip1Falls).leases = s.leases := by
  rfl
@[simp] theorem State.trip1Falls_lease (s : State) (q : Resource) :
    (s.trip1Falls).lease q = s.lease q := by
  simp [State.lease]
@[simp] theorem State.trip1Falls_leaseClock (s : State) :
    (s.trip1Falls).leaseClock = s.leaseClock := by
  rfl
@[simp] theorem State.trip1Falls_carrier (s : State) :
    (s.trip1Falls).carrier = s.carrier := by
  rfl
@[simp] theorem State.trip1Falls_legs (s : State) :
    (s.trip1Falls).legs = s.legs := by
  rfl
@[simp] theorem State.trip1Falls_leg (s : State) (q : Leg) :
    (s.trip1Falls).leg q = s.leg q := by
  simp [State.leg]
@[simp] theorem State.trip1Falls_sync (s : State) :
    (s.trip1Falls).sync = s.sync := by
  rfl
@[simp] theorem State.trip1Falls_mark (s : State) (q : Mark) :
    (s.trip1Falls).mark q = s.mark q := by
  simp [State.mark]
@[simp] theorem State.trip1Falls_chans (s : State) :
    (s.trip1Falls).chans = s.chans := by
  rfl
@[simp] theorem State.trip1Falls_chan (s : State) (q : Chan) :
    (s.trip1Falls).chan q = s.chan q := by
  simp [State.chan]
@[simp] theorem State.trip1Falls_outbox (s : State) :
    (s.trip1Falls).outbox = s.outbox := by
  rfl
@[simp] theorem State.trip1Falls_choices (s : State) :
    (s.trip1Falls).choices = s.choices := by
  rfl
@[simp] theorem State.trip1Falls_pending (s : State) :
    (s.trip1Falls).pending = s.pending := by
  rfl

@[simp] theorem State.armRises_rst (s : State) :
    (s.armRises).rst = s.rst := by
  rfl
@[simp] theorem State.armRises_ports (s : State) :
    (s.armRises).ports = s.ports := by
  rfl
@[simp] theorem State.armRises_port (s : State) (q : Port) :
    (s.armRises).port q = s.port q := by
  simp [State.port]
@[simp] theorem State.armRises_leases (s : State) :
    (s.armRises).leases = s.leases := by
  rfl
@[simp] theorem State.armRises_lease (s : State) (q : Resource) :
    (s.armRises).lease q = s.lease q := by
  simp [State.lease]
@[simp] theorem State.armRises_leaseClock (s : State) :
    (s.armRises).leaseClock = s.leaseClock := by
  rfl
@[simp] theorem State.armRises_carrier (s : State) :
    (s.armRises).carrier = s.carrier := by
  rfl
@[simp] theorem State.armRises_legs (s : State) :
    (s.armRises).legs = s.legs := by
  rfl
@[simp] theorem State.armRises_leg (s : State) (q : Leg) :
    (s.armRises).leg q = s.leg q := by
  simp [State.leg]
@[simp] theorem State.armRises_sync (s : State) :
    (s.armRises).sync = s.sync := by
  rfl
@[simp] theorem State.armRises_mark (s : State) (q : Mark) :
    (s.armRises).mark q = s.mark q := by
  simp [State.mark]
@[simp] theorem State.armRises_chans (s : State) :
    (s.armRises).chans = s.chans := by
  rfl
@[simp] theorem State.armRises_chan (s : State) (q : Chan) :
    (s.armRises).chan q = s.chan q := by
  simp [State.chan]
@[simp] theorem State.armRises_outbox (s : State) :
    (s.armRises).outbox = s.outbox := by
  rfl
@[simp] theorem State.armRises_choices (s : State) :
    (s.armRises).choices = s.choices := by
  rfl
@[simp] theorem State.armRises_pending (s : State) :
    (s.armRises).pending = s.pending := by
  rfl

@[simp] theorem State.chanTakes_rst (s : State) (c : Chan) (b x y z : Bool) :
    (s.chanTakes c b x y z).rst = s.rst := by
  unfold State.chanTakes; split <;> simp
@[simp] theorem State.chanTakes_ports (s : State) (c : Chan) (b x y z : Bool) :
    (s.chanTakes c b x y z).ports = s.ports := by
  unfold State.chanTakes; split <;> simp
@[simp] theorem State.chanTakes_port (s : State) (c : Chan) (b x y z : Bool) (q : Port) :
    (s.chanTakes c b x y z).port q = s.port q := by
  simp [State.port]
@[simp] theorem State.chanTakes_leases (s : State) (c : Chan) (b x y z : Bool) :
    (s.chanTakes c b x y z).leases = s.leases := by
  unfold State.chanTakes; split <;> simp
@[simp] theorem State.chanTakes_lease (s : State) (c : Chan) (b x y z : Bool) (q : Resource) :
    (s.chanTakes c b x y z).lease q = s.lease q := by
  simp [State.lease]
@[simp] theorem State.chanTakes_leaseClock (s : State) (c : Chan) (b x y z : Bool) :
    (s.chanTakes c b x y z).leaseClock = s.leaseClock := by
  unfold State.chanTakes; split <;> simp
@[simp] theorem State.chanTakes_carrier (s : State) (c : Chan) (b x y z : Bool) :
    (s.chanTakes c b x y z).carrier = s.carrier := by
  unfold State.chanTakes; split <;> simp
@[simp] theorem State.chanTakes_sync (s : State) (c : Chan) (b x y z : Bool) :
    (s.chanTakes c b x y z).sync = s.sync := by
  unfold State.chanTakes; split <;> simp
@[simp] theorem State.chanTakes_mark (s : State) (c : Chan) (b x y z : Bool) (q : Mark) :
    (s.chanTakes c b x y z).mark q = s.mark q := by
  simp [State.mark]
@[simp] theorem State.chanTakes_trip (s : State) (c : Chan) (b x y z : Bool) :
    (s.chanTakes c b x y z).trip = s.trip := by
  unfold State.chanTakes; split <;> simp
@[simp] theorem State.chanTakes_pending (s : State) (c : Chan) (b x y z : Bool) :
    (s.chanTakes c b x y z).pending = s.pending := by
  unfold State.chanTakes; split <;> simp

@[simp] theorem State.inputsChange_rst (s : State) (c : Chan) (l : Levels) :
    (s.inputsChange c l).rst = s.rst := by
  unfold State.inputsChange; dsimp only; split <;> simp
@[simp] theorem State.inputsChange_leases (s : State) (c : Chan) (l : Levels) :
    (s.inputsChange c l).leases = s.leases := by
  unfold State.inputsChange; dsimp only; split <;> simp
@[simp] theorem State.inputsChange_lease (s : State) (c : Chan) (l : Levels) (q : Resource) :
    (s.inputsChange c l).lease q = s.lease q := by
  simp [State.lease]
@[simp] theorem State.inputsChange_leaseClock (s : State) (c : Chan) (l : Levels) :
    (s.inputsChange c l).leaseClock = s.leaseClock := by
  unfold State.inputsChange; dsimp only; split <;> simp
@[simp] theorem State.inputsChange_carrier (s : State) (c : Chan) (l : Levels) :
    (s.inputsChange c l).carrier = s.carrier := by
  unfold State.inputsChange; dsimp only; split <;> simp
@[simp] theorem State.inputsChange_sync (s : State) (c : Chan) (l : Levels) :
    (s.inputsChange c l).sync = s.sync := by
  unfold State.inputsChange; dsimp only; split <;> simp
@[simp] theorem State.inputsChange_mark (s : State) (c : Chan) (l : Levels) (q : Mark) :
    (s.inputsChange c l).mark q = s.mark q := by
  simp [State.mark]
@[simp] theorem State.inputsChange_trip (s : State) (c : Chan) (l : Levels) :
    (s.inputsChange c l).trip = s.trip := by
  unfold State.inputsChange; dsimp only; split <;> simp
@[simp] theorem State.inputsChange_pending (s : State) (c : Chan) (l : Levels) :
    (s.inputsChange c l).pending = s.pending := by
  unfold State.inputsChange; dsimp only; split <;> simp

end Sys2Proof.Machine
end

