-- ==== Sys2Proof/Laws/Ops.lean ====
section
/-! SUPPORT. What each shared operation does, said once: the lemmas that later proofs cite instead of
unfolding the operation. -/

namespace Sys2Proof.Machine

open Sys2Proof

/-! ### Tables written back -/

@[simp] theorem PerPort.set_get {α : Type} (t : PerPort α) (p : Port) : t.set p (t.get p) = t := by
  cases p <;> rfl

@[simp] theorem State.setPort_port_self (s : State) (p : Port) : s.setPort p (s.port p) = s := by
  simp [State.setPort, State.port]

/-- Two changes of one port engine are one change. -/
theorem State.updPort_updPort (s : State) (p : Port) (f g : PortEngine → PortEngine) :
    (s.updPort p f).updPort p g = s.updPort p fun e => g (f e) := by
  cases p <;> rfl

/-! ### A copy of a notice at its port (R168) -/

/-- Everything a port engine can do with a copy: nothing while absent or masked, count it while the
queue is full, or append it. -/
theorem PortEngine.receiveCopy_cases (e : PortEngine) (n : Notice) :
    (e.presence.level = false ∧ e.receiveCopy n = e)
      ∨ (e.presence.level = true ∧ e.mask.admits n.body = false ∧ e.receiveCopy n = e)
      ∨ (e.presence.level = true ∧ e.mask.admits n.body = true ∧ 16 ≤ e.notices.length
          ∧ e.receiveCopy n = { e with lost := min 255 (e.lost + 1) })
      ∨ (e.presence.level = true ∧ e.mask.admits n.body = true ∧ e.notices.length < 16
          ∧ e.receiveCopy n = { e with notices := e.notices ++ [n] }) := by
  unfold PortEngine.receiveCopy
  cases h1 : e.presence.level <;> cases h2 : e.mask.admits n.body <;>
    by_cases h3 : 16 ≤ e.notices.length <;> simp [h3]
  omega

@[simp] theorem PortEngine.receiveCopy_role (e : PortEngine) (n : Notice) : (e.receiveCopy n).role = e.role := by
  unfold PortEngine.receiveCopy; split_ifs <;> rfl
@[simp] theorem PortEngine.receiveCopy_strap (e : PortEngine) (n : Notice) :
    (e.receiveCopy n).strap = e.strap := by
  unfold PortEngine.receiveCopy; split_ifs <;> rfl
@[simp] theorem PortEngine.receiveCopy_presence (e : PortEngine) (n : Notice) :
    (e.receiveCopy n).presence = e.presence := by
  unfold PortEngine.receiveCopy; split_ifs <;> rfl
@[simp] theorem PortEngine.receiveCopy_commands (e : PortEngine) (n : Notice) :
    (e.receiveCopy n).commands = e.commands := by
  unfold PortEngine.receiveCopy; split_ifs <;> rfl
@[simp] theorem PortEngine.receiveCopy_responses (e : PortEngine) (n : Notice) :
    (e.receiveCopy n).responses = e.responses := by
  unfold PortEngine.receiveCopy; split_ifs <;> rfl
@[simp] theorem PortEngine.receiveCopy_sticky (e : PortEngine) (n : Notice) :
    (e.receiveCopy n).sticky = e.sticky := by
  unfold PortEngine.receiveCopy; split_ifs <;> rfl
@[simp] theorem PortEngine.receiveCopy_mask (e : PortEngine) (n : Notice) : (e.receiveCopy n).mask = e.mask := by
  unfold PortEngine.receiveCopy; split_ifs <;> rfl
@[simp] theorem PortEngine.receiveCopy_txn (e : PortEngine) (n : Notice) : (e.receiveCopy n).txn = e.txn := by
  unfold PortEngine.receiveCopy; split_ifs <;> rfl
@[simp] theorem PortEngine.receiveCopy_ignoring (e : PortEngine) (n : Notice) :
    (e.receiveCopy n).ignoring = e.ignoring := by
  unfold PortEngine.receiveCopy; split_ifs <;> rfl

/-! ### Delivering the copies of a step -/

@[simp] theorem State.admitCopy_port (s : State) (o : Outgoing) (p : Port) :
    (s.admitCopy o).port p = if p = o.port then (s.port p).receiveCopy o.notice else s.port p := by
  simp [State.admitCopy]

/-- What the copies of a list do to one port: those addressed to it, in the order of the list. -/
theorem foldl_admitCopy_port (os : List Outgoing) (s : State) (p : Port) :
    (os.foldl State.admitCopy s).port p
      = ((os.filter fun o => o.port = p).map Outgoing.notice).foldl PortEngine.receiveCopy (s.port p) := by
  induction os generalizing s with
  | nil => rfl
  | cons o os ih =>
    simp only [List.foldl_cons, ih, State.admitCopy_port]
    by_cases h : o.port = p
    · subst h; simp
    · simp [h, Ne.symm h]

/-- With no copy on its way there is nothing to deliver. -/
theorem State.deliver_quiet (s : State) (h : s.outbox = []) : s.deliver = s := by
  cases s
  simp only at h
  subst h
  rfl

@[simp] theorem State.deliver_outbox (s : State) : s.deliver.outbox = [] := by
  simp [State.deliver, foldl_frame State.outbox State.admitCopy (fun s o => State.admitCopy_outbox s o)]

/-- Taking the first copy of a source out of a list leaves the others in their order. -/
theorem takeFrom_perm {r : Source} {out : List Outgoing} {o : Outgoing} {rest : List Outgoing}
    (h : takeFrom r out = some (o, rest)) : (o :: rest).Perm out ∧ o.source = r := by
  induction out generalizing o rest with
  | nil => simp [takeFrom] at h
  | cons x xs ih =>
    simp only [takeFrom] at h
    split at h
    · rename_i hx
      simp only [Option.some.injEq, Prod.mk.injEq] at h
      obtain ⟨rfl, rfl⟩ := h
      exact ⟨.refl _, hx⟩
    · simp only [Option.map_eq_some_iff, Prod.exists, Prod.mk.injEq] at h
      obtain ⟨y, ys, hy, rfl, rfl⟩ := h
      obtain ⟨hp, hs⟩ := ih hy
      exact ⟨(List.Perm.swap _ _ _).trans (hp.cons x), hs⟩

theorem takeFrom_isSome {r : Source} {out : List Outgoing} (h : ∃ o ∈ out, o.source = r) :
    ∃ o rest, takeFrom r out = some (o, rest) := by
  induction out with
  | nil => simp at h
  | cons x xs ih =>
    by_cases hx : x.source = r
    · exact ⟨x, xs, by simp [takeFrom, hx]⟩
    · obtain ⟨o, ho, hr⟩ := h
      rcases List.mem_cons.mp ho with rfl | ho
      · exact absurd hr hx
      · obtain ⟨y, ys, hy⟩ := ih ⟨o, ho, hr⟩
        exact ⟨y, x :: ys, by simp [takeFrom, hx, hy]⟩

theorem Resource.mem_all (r : Resource) : r ∈ Resource.all := by
  cases r with
  | leg n => cases n <;> simp [Resource.all]
  | carrier => simp [Resource.all]
  | chan c => cases c <;> simp [Resource.all]

theorem Source.mem_all (r : Source) : r ∈ Source.all := by
  cases r with
  | resource r => exact List.mem_append_left _ (List.mem_map_of_mem (Resource.mem_all r))
  | chan c => cases c <;> simp [Source.all, Chan.all]

/-- A choice among at least one alternative is one of them. -/
theorem Config.pick_lt (k : Nat) {n : Nat} (h : 0 < n) : Config.pick k n < n := by
  unfold Config.pick
  split
  · omega
  · exact Nat.mod_lt _ h

/-- The copies of a step are delivered each once, in some order. -/
theorem interleave_perm (out : List Outgoing) (k : Nat) :
    (interleave k out.length out).Perm out := by
  induction hn : out.length generalizing out k with
  | zero => simp [List.length_eq_zero_iff.mp hn, interleave]
  | succ n ih =>
    have hne : out ≠ [] := by rintro rfl; simp at hn
    obtain ⟨o0, ho0⟩ := List.exists_mem_of_ne_nil out hne
    have hpos : 0 < (sourcesOf out).length := by
      refine List.length_pos_of_mem (a := o0.source) ?_
      simp only [sourcesOf, List.mem_filter, Source.mem_all, true_and, List.any_eq_true,
        beq_iff_eq]
      exact ⟨o0, ho0, rfl⟩
    have hlt := Config.pick_lt k hpos
    simp only [interleave, List.getElem?_eq_getElem hlt]
    set r := (sourcesOf out)[Config.pick k (sourcesOf out).length] with hr
    have hmem : r ∈ sourcesOf out := List.getElem_mem hlt
    simp only [sourcesOf, List.mem_filter, List.any_eq_true, beq_iff_eq] at hmem
    obtain ⟨o, rest, ht⟩ := takeFrom_isSome hmem.2
    simp only [ht]
    have hp := (takeFrom_perm ht).1
    have hl : rest.length = n := by
      have := hp.length_eq
      simp at this
      omega
    exact ((ih rest (k + 1) hl).cons o).trans hp

/-- The copies that reach a port at the end of a step are those addressed to it, in some order. -/
theorem State.deliver_port (s : State) (p : Port) :
    ∃ ns : List Notice, ns.Perm ((s.outbox.filter fun o => o.port = p).map Outgoing.notice)
      ∧ s.deliver.port p = ns.foldl PortEngine.receiveCopy (s.port p) := by
  refine ⟨((interleave s.choices s.outbox.length s.outbox).filter fun o => o.port = p).map
    Outgoing.notice, ((interleave_perm s.outbox s.choices).filter _).map _, ?_⟩
  simp [State.deliver, foldl_admitCopy_port]

theorem foldl_admit_frame {β : Type} (view : PortEngine → β)
    (h : ∀ e n, view (PortEngine.receiveCopy e n) = view e) (ns : List Notice) (e : PortEngine) :
    view (ns.foldl PortEngine.receiveCopy e) = view e := by
  induction ns generalizing e with
  | nil => rfl
  | cons n ns ih => simp [List.foldl_cons, ih, h]

@[simp] theorem State.deliver_port_role (s : State) (p : Port) :
    (s.deliver.port p).role = (s.port p).role := by
  obtain ⟨ns, -, h⟩ := s.deliver_port p
  rw [h, foldl_admit_frame PortEngine.role PortEngine.receiveCopy_role]
@[simp] theorem State.deliver_port_strap (s : State) (p : Port) :
    (s.deliver.port p).strap = (s.port p).strap := by
  obtain ⟨ns, -, h⟩ := s.deliver_port p
  rw [h, foldl_admit_frame PortEngine.strap PortEngine.receiveCopy_strap]
@[simp] theorem State.deliver_port_presence (s : State) (p : Port) :
    (s.deliver.port p).presence = (s.port p).presence := by
  obtain ⟨ns, -, h⟩ := s.deliver_port p
  rw [h, foldl_admit_frame PortEngine.presence PortEngine.receiveCopy_presence]
@[simp] theorem State.deliver_port_commands (s : State) (p : Port) :
    (s.deliver.port p).commands = (s.port p).commands := by
  obtain ⟨ns, -, h⟩ := s.deliver_port p
  rw [h, foldl_admit_frame PortEngine.commands PortEngine.receiveCopy_commands]
@[simp] theorem State.deliver_port_responses (s : State) (p : Port) :
    (s.deliver.port p).responses = (s.port p).responses := by
  obtain ⟨ns, -, h⟩ := s.deliver_port p
  rw [h, foldl_admit_frame PortEngine.responses PortEngine.receiveCopy_responses]
@[simp] theorem State.deliver_port_sticky (s : State) (p : Port) :
    (s.deliver.port p).sticky = (s.port p).sticky := by
  obtain ⟨ns, -, h⟩ := s.deliver_port p
  rw [h, foldl_admit_frame PortEngine.sticky PortEngine.receiveCopy_sticky]
@[simp] theorem State.deliver_port_mask (s : State) (p : Port) :
    (s.deliver.port p).mask = (s.port p).mask := by
  obtain ⟨ns, -, h⟩ := s.deliver_port p
  rw [h, foldl_admit_frame PortEngine.mask PortEngine.receiveCopy_mask]
@[simp] theorem State.deliver_port_txn (s : State) (p : Port) :
    (s.deliver.port p).txn = (s.port p).txn := by
  obtain ⟨ns, -, h⟩ := s.deliver_port p
  rw [h, foldl_admit_frame PortEngine.txn PortEngine.receiveCopy_txn]

@[simp] theorem State.deliver_port_ignoring (s : State) (p : Port) :
    (s.deliver.port p).ignoring = (s.port p).ignoring := by
  obtain ⟨ns, -, h⟩ := s.deliver_port p
  rw [h, foldl_admit_frame PortEngine.ignoring PortEngine.receiveCopy_ignoring]

/-- One copy on its way reaches its port. -/
theorem State.deliver_one (s : State) (o : Outgoing) (h : s.outbox = [o]) :
    s.deliver = ((s.setOutbox []).setChoices (s.choices + 1)).admitCopy o := by
  have : interleave s.choices 1 [o] = [o] := List.perm_singleton.mp (interleave_perm [o] s.choices)
  simp [State.deliver, h, this]

/-! ### Commands on their way to their block (R163, R164) -/

/-- A command whose block raised no notice is answered, and nothing else happens. -/
theorem respond_quiet (p : Port) (f : Frame) (a : Answer) (h : a.state.outbox = []) :
    respond p f a = a.state.answered p ⟨f.seq, f.code, a.result, a.data⟩ := by
  simp [respond, State.deliver_quiet _ h, State.answered]

/-- A command that reaches a ready port is taken at once. -/
theorem State.submit_ready {s : State} {p : Port} {i : Instr} {f : Frame} (h : s.Ready p)
    (hf : encodeFrame i = some (p, f)) (effect : State → Answer) :
    s.submit i effect = respond p f (effect s) := by
  obtain ⟨h1, h2, h3, h4, -⟩ := h
  simp [State.submit, hf, State.portLive, h1, h2, PortEngine.takesAtOnce, h3, h4]

/-- A command that reaches a ready port and raises no notice is answered at once. -/
theorem State.submit_quiet {s : State} {p : Port} {i : Instr} {f : Frame} (h : s.Ready p)
    (hf : encodeFrame i = some (p, f)) (effect : State → Answer)
    (hq : (effect s).state.outbox = []) :
    s.submit i effect
      = (effect s).state.answered p ⟨f.seq, f.code, (effect s).result, (effect s).data⟩ := by
  rw [State.submit_ready h hf, respond_quiet _ _ _ hq]

/-- A command at a port that does not take it at once joins the queue, or is dropped. -/
theorem State.submit_waits {s : State} {p : Port} {i : Instr} {f : Frame} (hl : s.portLive p = true)
    (hf : encodeFrame i = some (p, f)) (hw : (s.port p).takesAtOnce = false)
    (effect : State → Answer) :
    s.submit i effect = s.updPort p fun e => e.enqueue f := by
  simp [State.submit, hf, hl, hw]

/-- A command at a port that takes no transactions is ignored. -/
theorem State.submit_ignored {s : State} {p : Port} {i : Instr} {f : Frame}
    (hl : s.portLive p = false) (hf : encodeFrame i = some (p, f)) (effect : State → Answer) :
    s.submit i effect = s := by
  simp [State.submit, hf, hl]

/-- Out of reset an event has its effect. -/
theorem State.event_awake {s : State} (h : s.rst.inReset = false) (effect : State → State) :
    s.event effect = effect s := by
  simp [State.event, h]

/-- In reset an event does nothing. -/
theorem State.event_inReset {s : State} (h : s.rst.inReset = true) (effect : State → State) :
    s.event effect = s := by
  simp [State.event, h]

/-! ### The fencing checks (R78, R79) -/

/-- Both checks pass exactly for the holder with the current generation. -/
theorem State.fence_eq_none (s : State) (r : Resource) (p : Port) (g : Half) :
    s.fence r p g = none ↔ s.Holds p r g := by
  unfold State.fence State.Holds
  by_cases h : (s.lease r).holder? = some p <;> by_cases hg : g = (s.lease r).gen <;>
    simp [h, hg, eq_comm]

/-- A command of a port that is not the holder is refused NOT_HOLDER, whatever its generation. -/
theorem State.fence_notHolder (s : State) (r : Resource) (p : Port) (g : Half)
    (h : (s.lease r).holder? ≠ some p) :
    s.fence r p g
      = some (.notHolder, item1 (s.lease r).phase.code ++ item1 (portCode (s.lease r).holder?)) := by
  simp [State.fence, h]

/-- A command of the holder with another generation is refused STALE. -/
theorem State.fence_stale (s : State) (r : Resource) (p : Port) (g : Half)
    (h : (s.lease r).holder? = some p) (hg : g ≠ (s.lease r).gen) :
    s.fence r p g = some (.stale, be16 (s.lease r).gen) := by
  simp [State.fence, h, hg]

/-! ### Grants and ends of leases (R83, R95 to R99, R103) -/

/-- A grant makes the port holder with a full interval and the next generation. -/
theorem Lease.grant_spec (l : Lease) (p : Port) (i : Nat) :
    (l.grant p i).holder? = some p ∧ (l.grant p i).gen = nextGen l.gen
      ∧ (l.grant p i).phase = .held p i i false
      ∧ (l.grant p i).waiters = l.waiters.filter fun w => w.port != p :=
  ⟨rfl, rfl, rfl, rfl⟩

/-- A generation after a grant is never 0 (R76). -/
theorem nextGen_ne_zero (g : Half) : nextGen g ≠ 0 := by
  unfold nextGen
  split
  · decide
  · rename_i h
    intro h0
    exact h (by bv_omega)

/-- A resource that may be granted becomes FREE when nobody waits. -/
theorem State.passOn_nil (s : State) (r : Resource) (h : (s.lease r).waiters = []) :
    s.passOn r = s.updLease r fun l => { l with phase := .free } := by
  simp [State.passOn, h]

/-- A resource that may be granted goes to its head waiter, who is told. -/
theorem State.passOn_cons (s : State) (r : Resource) (w : Waiter) (ws : List Waiter)
    (h : (s.lease r).waiters = w :: ws) :
    s.passOn r
      = (s.updLease r fun l => Lease.grant { l with waiters := ws } w.port w.interval).postGranted r
          w.port w.interval := by
  simp [State.passOn, h]

/-- A leg's report changes nothing unless its lease is RELEASING (R98). -/
theorem State.legReport_eq_self (s : State) (n : Leg) (h : (s.lease (.leg n)).phase ≠ .releasing) :
    s.legReport n = s := by
  unfold State.legReport
  split
  · contradiction
  · rfl
  · rfl

/-- A leg's report ends RELEASING (R98). -/
theorem State.legReport_releasing (s : State) (n : Leg)
    (h : (s.lease (.leg n)).phase = .releasing) : s.legReport n = s.passOn (.leg n) := by
  simp [State.legReport, h]

/-! ### Leg Units -/

@[simp] theorem State.changeLeg_leg (s : State) (n k : Leg) (f : LegUnit → LegUnit) :
    (s.changeLeg n f).leg k = if k = n then (f (s.leg k)).settle s.carrier.counter else s.leg k := by
  simp [State.changeLeg]

@[simp] theorem LegUnit.settle_phase (u : LegUnit) (c : Nat) : (u.settle c).phase = u.phase := rfl
@[simp] theorem LegUnit.settle_queue (u : LegUnit) (c : Nat) : (u.settle c).queue = u.queue := rfl
@[simp] theorem LegUnit.settle_config (u : LegUnit) (c : Nat) : (u.settle c).config = u.config := rfl
@[simp] theorem LegUnit.settle_tripCount (u : LegUnit) (c : Nat) :
    (u.settle c).tripCount = u.tripCount := rfl
@[simp] theorem LegUnit.settle_limited (u : LegUnit) (c : Nat) :
    (u.settle c).limited = u.limited := rfl
@[simp] theorem LegUnit.settle_runCount (u : LegUnit) (c : Nat) :
    (u.settle c).runCount = u.runCount := rfl
@[simp] theorem LegUnit.settle_cycleCut (u : LegUnit) (c : Nat) :
    (u.settle c).stage.cycleCut = u.stage.cycleCut := rfl

/-- No source demands both sides (R60, R61). -/
theorem LegUnit.demandsAt_exclusive (u : LegUnit) (c : Nat) :
    ¬ ((u.demandsAt c).1 = true ∧ (u.demandsAt c).2 = true) := by
  unfold LegUnit.demandsAt
  split
  · rename_i d _
    cases d with
    | modulate duty sides =>
      cases sides <;> cases (Drive.modulate duty _).reference c <;> cases u.stage.cycleCut <;>
        simp [Drive.demands]
    | fixedHigh => simp [Drive.demands]
    | fixedLow => simp [Drive.demands]
    | float => simp [Drive.demands]
  · rename_i p _
    cases p <;> simp [Pattern.demands]

/-! ### Output stages -/

@[simp] theorem State.sampleStages_leg (s : State) (n : Leg) :
    s.sampleStages.leg n = (s.leg n).sample := by
  cases n <;> rfl
@[simp] theorem State.settleAll_leg (s : State) (n : Leg) :
    s.settleAll.leg n = (s.leg n).settle s.carrier.counter := by
  cases n <;> rfl

@[simp] theorem LegUnit.sample_phase (u : LegUnit) : u.sample.phase = u.phase := rfl
@[simp] theorem LegUnit.sample_queue (u : LegUnit) : u.sample.queue = u.queue := rfl
@[simp] theorem LegUnit.sample_config (u : LegUnit) : u.sample.config = u.config := rfl
@[simp] theorem LegUnit.sample_tripCount (u : LegUnit) : u.sample.tripCount = u.tripCount := rfl
@[simp] theorem LegUnit.sample_limited (u : LegUnit) : u.sample.limited = u.limited := rfl
@[simp] theorem LegUnit.sample_runCount (u : LegUnit) : u.sample.runCount = u.runCount := rfl
@[simp] theorem LegUnit.sample_cycleCut (u : LegUnit) :
    u.sample.stage.cycleCut = u.stage.cycleCut := rfl
@[simp] theorem LegUnit.sample_reference (u : LegUnit) :
    u.sample.stage.reference = u.stage.reference := rfl

/-- A sample changes no demand (R62). -/
@[simp] theorem SideState.sample_demand (x : SideState) (other : Bool) (d : Nat) :
    (x.sample other d).demand = x.demand := by
  unfold SideState.sample
  split_ifs with h <;> simp_all

/-- Where at most one side of a leg is demanded, as under every source (R60), a sample judges each side by
its own demand, level and count (R62). -/
theorem LegUnit.sample_eq_judged (u : LegUnit)
    (h : u.stage.high.demand = false ∨ u.stage.low.demand = false) : u.sample = u.judged := by
  obtain ⟨ph, q, cfg, tc, lim, rc, ref, cut, ⟨hd, hv, hc⟩, ⟨ld, lv, lc⟩⟩ := u
  cases hd <;> cases ld <;>
    simp_all [LegUnit.sample, LegUnit.judged, SideState.sample, SideState.judged, SideState.on]

/-- After every change of source or count, a sample judges each side by itself (R60, R62). -/
theorem LegUnit.settle_sample (u : LegUnit) (c : Nat) :
    (u.settle c).sample = (u.settle c).judged := by
  refine LegUnit.sample_eq_judged _ ?_
  have h := u.demandsAt_exclusive c
  simp only [LegUnit.settle]
  cases h1 : (u.demandsAt c).1 <;> cases h2 : (u.demandsAt c).2 <;> simp_all

/-- A side that is not demanded is off with a count of 0 (R62, R63). -/
theorem SideState.on_demand {x : SideState} (h : x.on = true) : x.demand = true ∧ x.driven = true := by
  simpa [SideState.on] using h

/-- At one sample a side is left on only if it is demanded, the other side is off, and it was on or had
counted a full dead time (R62). -/
theorem SideState.sample_driven {x : SideState} {other : Bool} {d : Nat}
    (h : (x.sample other d).driven = true) :
    x.demand = true ∧ other = false ∧ (x.driven = true ∨ d ≤ x.count) := by
  unfold SideState.sample at h
  split_ifs at h with h1 h2
  · exact ⟨by simpa using h1, by simpa using h2, by simpa using h⟩

/-- A sample never leaves both sides of a leg on (R62). -/
theorem LegUnit.sample_exclusive (u : LegUnit) :
    ¬ (u.sample.stage.high.driven = true ∧ u.sample.stage.low.driven = true) := by
  rintro ⟨h1, h2⟩
  have := (SideState.sample_driven h2).2.1
  simp [LegUnit.sample] at h1 this
  simp [h1] at this

/-! ### Transactions and part reset (R158, R159, R171, R176) -/

/-- The opener of a kind selects it (R159). -/
theorem kindOfOpener_eq (b : Byte) :
    (kindOfOpener b = .command ↔ b = 0x3C) ∧ (kindOfOpener b = .fetch .responses ↔ b = 0xC3)
      ∧ (kindOfOpener b = .fetch .notices ↔ b = 0x5A) := by
  unfold kindOfOpener
  by_cases h1 : b = 0x3C <;> by_cases h2 : b = 0xC3 <;> by_cases h3 : b = 0x5A <;>
    simp_all [commandOpener, fetchOpener]

/-- The rise that ends an ignored transaction ends it and does nothing else. -/
theorem State.rise_ignoring {s : State} {p : Port} (h : (s.port p).ignoring = true)
    (kind : TransactionKind) (bytes : List Byte) (act : State → Transaction → State) :
    s.rise p kind bytes act = s.updPort p fun e => { e with ignoring := false } := by
  simp [State.rise, h]

/-- The rise of a live port's transaction of the kind its bytes select has its effect. -/
theorem State.rise_live {s : State} {p : Port} {t : Transaction} {kind : TransactionKind}
    {bytes : List Byte} (h : (s.port p).ignoring = false) (hr : s.rst.inReset = false)
    (ht : (s.port p).current = some t) (hk : transactionKind bytes = kind)
    (hb : t.couldBe bytes = true) (act : State → Transaction → State) :
    s.rise p kind bytes act = act s t := by
  simp [State.rise, h, State.event, hr, ht, hk, hb]

/-- While a source asserts, a sample in reset brings both nearer to letting go, and the stretch does not
run (R176). -/
theorem ResetUnit.pass_held {r : ResetUnit} (h : r.held = true) :
    r.pass = { r with rstLow := r.rstLow - 1, porHold := r.porHold - 1 } := by
  simp [ResetUnit.pass, h]

/-- Once both sources have let go, each sample in reset is one of the stretch (R176). -/
theorem ResetUnit.pass_free {r : ResetUnit} (h : r.held = false) :
    r.pass = { r with stretch := r.stretch + 1 } := by
  simp [ResetUnit.pass, h]

/-- A leg that takes a flush has an empty queue, and nothing else of the leg changes (R3). -/
theorem State.flushQueue_leg (s : State) (n k : Leg) :
    (s.flushQueue n).leg k = if k = n then { s.leg k with queue := [] } else s.leg k := by
  unfold State.flushQueue
  dsimp only
  split <;> simp [State.unhold]

/-! ### Dividers and samples (R27, R87, R139; log entries 2, 4 and 14) -/

/-- A divider gives its tick at the sample in progress exactly when no sample ends before it. -/
theorem Divider.due_iff (d : Divider) : d.due = true ↔ d.left = 0 := by
  cases d with | mk n f => cases f <;> (simp [Divider.due, Divider.left]; try omega)

/-- A divider that gives no tick at a sample is one sample nearer to it afterwards. -/
theorem Divider.pass_left (d : Divider) (reload : Nat) (h : d.due = false) :
    (d.pass reload).left + 1 = d.left := by
  cases d with | mk n f =>
  cases f <;> simp [Divider.due, Divider.left, Divider.pass] at h ⊢
  rw [if_neg (by omega)]
  simp
  omega

/-- A divider that gives its tick at a sample starts again with the end of that sample. -/
theorem Divider.pass_due (d : Divider) (reload : Nat) (h : d.due = true) :
    d.pass reload = ⟨reload, false⟩ := by
  cases d with | mk n f => cases f <;> simp_all [Divider.due, Divider.pass]

/-- A divider that starts at a sample gives its first tick `n` samples later. -/
theorem Divider.start_spec (n reload : Nat) (h : 1 ≤ n) :
    (Divider.start n).due = false ∧ (Divider.start n).left = n
      ∧ (Divider.start n).pass reload = ⟨n, false⟩ := by
  simp [Divider.start, Divider.due, Divider.left, Divider.pass]
  omega

@[simp] theorem State.take_rst (b s : State) (d : Due) : (State.take b s d).rst = s.rst := by
  cases d <;> simp only [State.take, State.chanFallsDue] <;> (try split) <;> simp
@[simp] theorem State.take_pending (b s : State) (d : Due) : (State.take b s d).pending = s.pending := by
  cases d <;> simp only [State.take, State.chanFallsDue] <;> (try split) <;> simp

@[simp] theorem State.liveSample_rst (s : State) : s.liveSample.rst = s.rst := by
  simp [State.liveSample, foldl_frame State.rst (State.take s) (fun x d => State.take_rst s x d), State.pass]
@[simp] theorem State.liveSample_pending (s : State) : s.liveSample.pending = s.pending := by
  simp [State.liveSample, foldl_frame State.pending (State.take s) (fun x d => State.take_pending s x d),
    State.pass]
@[simp] theorem State.liveSample_outbox (s : State) : s.liveSample.outbox = [] := by
  simp [State.liveSample]

/-- Out of reset a sample is one of the running part, which leaves it out of reset with no copy on its way. -/
theorem State.sample_awake {s : State} (h : s.rst.inReset = false) :
    s.sample = s.liveSample ∧ s.sample.Awake ∧ s.sample.pending = s.pending := by
  simp [State.sample, h, State.Awake, State.Quiet]

@[simp] theorem State.samples_zero (s : State) : s.samples 0 = s := rfl
@[simp] theorem State.samples_succ (s : State) (k : Nat) : s.samples (k + 1) = s.sample.samples k := rfl

/-- Any number of samples leaves a part that is awake awake, and its queue of waiting rows as it is. -/
theorem State.samples_awake (k : Nat) {s : State} (h : s.Awake) :
    (s.samples k).Awake ∧ (s.samples k).pending = s.pending := by
  induction k generalizing s with
  | zero => exact ⟨h, rfl⟩
  | succ k ih =>
    obtain ⟨-, ha, hp⟩ := State.sample_awake h.1
    exact ⟨(ih ha).1, (ih ha).2.trans hp⟩

/-- A row of a channel's inputs changes nothing where its change cannot arise; else it makes the change at the
sample in progress, or, where it cannot lie there, at the next one if it still arises (log entry 16). -/
theorem State.changeRow_cases (s : State) (c : Chan) (change : Channel → Option Levels) :
    (change (s.chan c) = none ∧ s.changeRow c change = s)
      ∨ (∃ l, change (s.chan c) = some l ∧ (s.chan c).fits l.x l.y = true
          ∧ s.changeRow c change = s.inputsChange c l)
      ∨ (∃ l, change (s.chan c) = some l ∧ (s.chan c).fits l.x l.y = false
          ∧ s.changeRow c change
              = (match change (s.sample.chan c) with
                | none => s
                | some l => s.sample.inputsChange c l)) := by
  cases h : change (s.chan c) with
  | none => exact .inl ⟨rfl, by simp only [State.changeRow, h]⟩
  | some l =>
    cases hf : (s.chan c).fits l.x l.y with
    | true => exact .inr (.inl ⟨l, rfl, hf, by simp only [State.changeRow, h, hf, if_true]⟩)
    | false => exact .inr (.inr ⟨l, rfl, hf, by simp only [State.changeRow, h, hf]; rfl⟩)

/-- A change lies at the sample in progress where no tick is due there and none has left the channel stalled. -/
theorem Channel.fits_of_not_due (ch : Channel) (x y : Bool) (hd : ch.divider.due = false)
    (hs : ch.stalledNow = false) : ch.fits x y = true := by
  simp [Channel.fits, Channel.tickJoinsStep, hd, hs]

/-- What a row at a boundary does at the very sample of that boundary. -/
theorem State.atBoundary_now {s : State} (h : s.BoundaryNow) (act : State → Option State) :
    s.atBoundary act
      = match act s.carrierTickGiven with
        | some t => t.deliver
        | none => s := by
  obtain ⟨hr, hd, hb⟩ := h
  have h0 : s.carrier.toBoundary = 0 := by
    have h1 := (Divider.due_iff _).mp hd
    simp only [Carrier.toBoundary, h1, Carrier.ticksLeft]
    obtain ⟨hm, hc⟩ | ⟨hm, hs, hc⟩ := hb
    · simp only [hm]
      rw [Nat.sub_eq_zero_of_le hc]
      simp
    · simp only [hm, hs]
      rw [Nat.sub_eq_zero_of_le hc]
      simp
  have h1 : s.samples s.carrier.toBoundary = s := h0 ▸ State.samples_zero s
  unfold State.atBoundary
  split
  · next hs => exact absurd (hr.symm.trans hs) (by decide)
  · exact congrArg (fun t : State =>
      match act t.carrierTickGiven with
      | some t => t.deliver
      | none => s) h1

/-- A lease tick at its very sample lets no sample pass before it (R87). -/
theorem State.toLeaseTick_now {s : State} (h : s.leaseClock.divider.due = true) : s.toLeaseTick = s := by
  simp [State.toLeaseTick, (Divider.due_iff _).mp h]

/-! ### Channels -/

@[simp] theorem State.post_outbox (s : State) (r : Source) (ps : List Port) (x : Notice) :
    (s.post r ps x).outbox
      = s.outbox ++ (ps.filter fun p => (s.port p).presence.level).map fun p => ⟨r, p, x⟩ := rfl

/-- A counted step of a channel within its ranges stays within them (R136). -/
theorem Channel.step_lt (ch : Channel) (up : Bool) (h2 : 2 ≤ ch.config.modulus)
    (h : ch.position < ch.config.modulus) : (ch.step up).1 < ch.config.modulus := by
  unfold Channel.step
  split_ifs <;> simp <;> omega

end Sys2Proof.Machine
end

