-- ==== Sys2Proof/Laws/Leases.lean ====
section
/-! SUPPORT. What the shared operations of the Lease Table and of the legs' plans can do: the flush-and-cut
in each leg state, the end of a lease, the delivery of one notice, and the end test of a segment. -/

namespace Sys2Proof.Machine

open Sys2Proof

/-! ### Flush-and-cut (R20) -/

/-- A flush-and-cut, but for the report that may follow it, takes the plan as the table of R20 says. -/
theorem State.flushQueue_cutForLease (s : State) (n : Leg) :
    (s.flushQueue n).updLeg n LegUnit.cutForLease = s.planTaken n := by
  cases hp : (s.leg n).phase <;> cases hq : (s.leg n).queue <;> cases n <;>
    simp_all [State.flushQueue, State.planTaken, State.headLost, State.updLeg, LegUnit.cutForLease,
      State.setLeg, State.leg, PerLeg.set, PerLeg.get, State.unhold, State.setSync, State.mark]

/-- A flush-and-cut takes the plan, and a leg at rest reports (R20, R21). -/
theorem State.flushAndCut_eq (s : State) (n : Leg) :
    s.flushAndCut n = if (s.leg n).atRest then (s.planTaken n).legReport n else s.planTaken n := by
  simp only [State.flushAndCut, State.flushQueue_cutForLease]

@[simp] theorem State.planTaken_lease (s : State) (n : Leg) (r : Resource) :
    (s.planTaken n).lease r = s.lease r := by
  rw [← State.flushQueue_cutForLease]; simp

@[simp] theorem State.planTaken_outbox (s : State) (n : Leg) :
    (s.planTaken n).outbox = s.outbox := by
  rw [← State.flushQueue_cutForLease]; simp

@[simp] theorem State.planTaken_port (s : State) (n : Leg) (p : Port) :
    (s.planTaken n).port p = s.port p := by
  rw [← State.flushQueue_cutForLease]; simp

@[simp] theorem State.planTaken_carrier (s : State) (n : Leg) :
    (s.planTaken n).carrier = s.carrier := by
  rw [← State.flushQueue_cutForLease]; simp

theorem State.setLease_setLease (s : State) (r : Resource) (l l' : Lease) :
    (s.setLease r l).setLease r l' = s.setLease r l' := by
  rcases r with n | _ | c
  · cases n <;> rfl
  · rfl
  · cases c <;> rfl

theorem State.planTaken_setLease (s : State) (n : Leg) (r : Resource) (l : Lease) :
    (s.setLease r l).planTaken n = (s.planTaken n).setLease r l := by
  rw [← State.flushQueue_cutForLease, ← State.flushQueue_cutForLease]
  have h : (s.setLease r l).flushQueue n = (s.flushQueue n).setLease r l := by
    simp only [State.flushQueue, State.setLease_leg]
    split <;> rfl
  rw [h]; rfl

/-! ### The end of a lease (R95, R98, R99, R103) -/

/-- A resource at rest with nobody waiting becomes FREE. -/
theorem State.endLease_free (s : State) (r : Resource) (hr : s.resourceAtRest r = true)
    (hw : (s.lease r).waiters = []) :
    s.endLease r = (s.setLease r { s.lease r with phase := .free }).resourceCleared r := by
  rcases r with n | _ | c
  · simp only [State.resourceAtRest] at hr
    simp only [State.endLease, State.flushAndCut_eq, State.updLease, State.setLease_leg, hr, if_true,
      State.resourceCleared]
    rw [State.legReport_releasing _ _ (by simp), State.passOn_nil _ _ (by simp [hw])]
    simp only [State.updLease, State.planTaken_lease, State.setLease_lease, if_true,
      State.planTaken_setLease, State.setLease_setLease]
  · simp only [State.endLease, State.passOn_nil _ _ hw]; rfl
  · simp only [State.endLease, State.passOn_nil _ _ hw]; rfl

/-- A resource at rest passes to its head waiter, who is told. -/
theorem State.endLease_grant (s : State) (r : Resource) (w : Waiter) (rest : List Waiter)
    (hr : s.resourceAtRest r = true) (hw : (s.lease r).waiters = w :: rest) :
    s.endLease r
      = ((s.setLease r ((s.lease r).grantedTo w rest)).resourceCleared r).post (.resource r) [w.port]
          ⟨.leaseGranted (s.lease r).genAfter w.interval, .resource r, none, s.periodLow⟩ := by
  rcases r with n | _ | c
  · simp only [State.resourceAtRest] at hr
    simp only [State.endLease, State.flushAndCut_eq, State.updLease, State.setLease_leg, hr, if_true,
      State.resourceCleared]
    rw [State.legReport_releasing _ _ (by simp), State.passOn_cons _ _ w rest (by simp [hw])]
    simp only [State.updLease, State.planTaken_lease, State.setLease_lease, if_true,
      State.planTaken_setLease, State.setLease_setLease, State.postGranted]
    simp [Lease.grant, Lease.grantedTo, Lease.genAfter, Machine.nextGen, State.periodLow]
  · simp only [State.endLease, State.passOn_cons _ _ w rest hw]
    simp [State.postGranted, State.updLease, State.resourceCleared, Lease.grant, Lease.genAfter,
      Machine.nextGen, Lease.grantedTo, State.periodLow]
  · simp only [State.endLease, State.passOn_cons _ _ w rest hw]
    simp [State.postGranted, State.updLease, State.resourceCleared, Lease.grant, Lease.genAfter,
      Machine.nextGen, Lease.grantedTo, State.periodLow]

/-- A leg that is RUNNING or HOLDING leaves its lease RELEASING. -/
theorem State.endLease_releasing (s : State) (r : Resource) (hr : s.resourceAtRest r = false) :
    s.endLease r = (s.setLease r { s.lease r with phase := .releasing }).resourceCleared r := by
  rcases r with n | _ | c
  · simp only [State.resourceAtRest] at hr
    simp [State.endLease, State.flushAndCut_eq, State.updLease, hr, State.resourceCleared]
  · cases hr
  · cases hr

/-! ### One notice to one port (R168) -/

/-- One notice to one port: that port decides on its copy, if its presence is high (R168). -/
theorem State.deliver_told (s : State) (src : Source) (q : Port) (n : Notice) (h : s.outbox = []) :
    ∃ k, (s.post src [q] n).deliver = (s.told (fun x => x == q) n).setChoices k := by
  by_cases hp : (s.port q).presence.level = true
  · refine ⟨s.choices + 1, ?_⟩
    rw [State.deliver_one _ ⟨src, q, n⟩ (by simp [State.post, h, hp])]
    cases s
    cases q <;> simp_all [State.admitCopy, State.told, State.post, State.updPort, State.setPort,
      State.port, State.setOutbox, State.setChoices, PerPort.set, PerPort.get, PerPort.ofFn]
  · refine ⟨s.choices, ?_⟩
    have hs : s.post src [q] n = s := by
      cases s
      simp_all [State.post, State.setOutbox]
    rw [hs, State.deliver_quiet _ h]
    cases s
    cases q <;> simp_all [State.told, State.port, State.setChoices, PerPort.get, PerPort.ofFn,
      PortEngine.receiveCopy]

/-! ### The end test (R7) and trips (R112, R114) -/

/-- The model's end reason is there exactly when the end test of R7 holds. -/
theorem Active.endReason_isSome (a : Active) (pendingCount : Nat) :
    (a.age.endReason pendingCount).isSome = true ↔ a.Ends pendingCount := by
  unfold Active.Ends Active.endReason Active.age
  cases hc : a.cut <;> cases hl : a.latch <;> cases hn : a.seg.length <;> simp

/-- What a trip leaves of its own leg. -/
theorem State.latchTrip_leg (s : State) (n : Leg) (c : Cause) :
    ((s.latchTrip n c).leg n)
      = { s.leg n with
          phase := .tripped ⟨c, s.carrier.period, (s.leg n).phase.activeTag, .empty, false⟩
          queue := [], tripCount := count255 (s.leg n).tripCount, limited := false
          stage := { (s.leg n).stage with cycleCut := false } }.settle s.carrier.counter := by
  unfold State.latchTrip
  cases h : (s.leg n).phase <;>
    simp [State.changeLeg, State.updLeg, State.unhold, h]

/-- A cause on a TRIPPED leg touches that leg's record alone. -/
theorem State.causeArises_tripped (s : State) (n : Leg) (c : Cause) (r : TripRecord)
    (h : (s.leg n).phase = .tripped r) :
    s.causeArises n c = s.setLeg n { s.leg n with
      phase := .tripped { r with further := r.further.add c, rearm := false } } := by
  simp [State.causeArises, h, State.updLeg]

/-- A cause on any other leg is a trip. -/
theorem State.causeArises_latches (s : State) (n : Leg) (c : Cause)
    (h : (s.leg n).phase.isTripped = false) : s.causeArises n c = s.latchTrip n c := by
  unfold State.causeArises
  cases hp : (s.leg n).phase <;> simp_all [LegPhase.isTripped]

end Sys2Proof.Machine
end

