-- ==== Sys2Proof/Tests/Slice0.lean ====
section
/-! SUPPORT. Tests: ill-formed terms that the checks of WellFormed refuse, frames written out from the
layouts of 10.9, single steps of the spec's worked examples (each test names its source), and for each
statement of Obligations a state and operands that meet its hypotheses. -/

namespace Sys2Proof.Tests

-- One theorem at a time: tests that compute wait for all earlier proofs, and hundreds of them waiting at
-- once would each hold a thread.
set_option Elab.async false

open Sys2Proof Sys2Proof.Machine

/-! ### Helpers -/

/-- The state after a command or event. -/
def after (i : Instr) (s : State) : State :=
  match exec i s with
  | .next t => t
  | .fault _ | .refused _ => s

/-- A lease HELD with interval 100. -/
def leased (s : State) (r : Resource) (p : Port) (g : Half) (k : Nat := 50) : State :=
  s.setLease r ⟨.held p 100 k false, g, []⟩

/-- The part after reset with the carrier RUNNING at the last sample of a period. -/
def running (period : Dword) : State :=
  State.reset.setCarrier
    { Carrier.reset with run := .running, counter := 1499, slope := .rising, period := period }

/-- The same in the middle of a period, with the counter falling. -/
def falling (s : State) (counter : Nat) : State :=
  s.setCarrier { s.carrier with counter := counter, slope := .falling }

/-- The lease clock at the last sample before its tick. -/
def leaseDue (s : State) : State := s.setLeaseClock ⟨⟨1, false⟩, 0⟩

/-- A segment without condition or sync field. -/
def plain (d : Drive) (len : Option Nat) (tag : Byte) (notify : Notify) (final : Bool) (g : Half) :
    Segment :=
  ⟨d, len, none, none, tag, notify, final, g⟩

/-- A segment of mark 2 and legs 0, 1, 2. -/
def synced (tag : Byte) (g : Half) : Segment :=
  { plain .float none tag .start false g with sync := some ⟨.m2, ⟨true, true, true, false⟩⟩ }

def withPlan (s : State) (n : Leg) (phase : LegPhase) (queue : List Segment) : State :=
  s.updLeg n fun u => { u with phase := phase, queue := queue }

def runs (seg : Segment) (elapsed : Nat) (cut : CutRequest) : LegPhase :=
  .running ⟨seg, elapsed, false, cut⟩

def record (c : Cause) : TripRecord := ⟨c, 500, some 7, .empty, false⟩

def withChan (s : State) (c : Chan) (f : Channel → Channel) : State := s.updChan c f

def withPort (s : State) (p : Port) (f : PortEngine → PortEngine) : State := s.updPort p f

def inMode (s : State) (c : Chan) (m : ChanMode) : State :=
  s.updChan c fun ch => { ch with config := { ch.config with mode := m } }

def nopAnswer (seq : Byte) : Response := ⟨seq, 0x01, .ok, []⟩

def plainNotice : Notice := ⟨.lost 1, .none, none, 0⟩

/-! ### Ill-formed terms are refused (WellFormed, R2 and 10.9) -/

theorem test_wf_refuses_bytes :
    (Instr.setNoticeMask .a 0 16).wf = false ∧ (Instr.claim .a 0 7 1 0).wf = false
      ∧ (Instr.claim .a 0 0 0 0).wf = false ∧ (Instr.claim .a 0 0 10001 0).wf = false
      ∧ (Instr.claim .a 0 0 1 2).wf = false ∧ (Instr.flush .a 0 4 1).wf = false
      ∧ (Instr.setLeg .a 0 0 1 0 8 0).wf = false ∧ (Instr.setPeriod .a 0 1 15).wf = false
      ∧ (Instr.setCarrier .a 0 1 2 0).wf = false ∧ (Instr.setCarrier .a 0 1 0 8).wf = false
      ∧ (Instr.setSyncLimit .a 0 1 0).wf = false ∧ (Instr.setSyncLimit .a 0 1 1024).wf = false
      ∧ (Instr.setChannel .a 0 2 1 0 0 1 0 0).wf = false
      ∧ (Instr.setChannel .a 0 0 1 5 0 1 0 0).wf = false
      ∧ (Instr.setChannel .a 0 0 1 0 4 1 0 0).wf = false
      ∧ (Instr.setChannel .a 0 0 1 0 0 0 0 0).wf = false
      ∧ (Instr.setChannel .a 0 0 1 0 0 1 3 0).wf = false
      ∧ (Instr.setChannel .a 0 0 1 0 0 1 8 0).wf = false
      ∧ (Instr.subscribe .a 0 0 32).wf = false ∧ (Instr.unknown .a 0 0x01 []).wf = false
      ∧ (Instr.unknown .a 0 0x99 (List.replicate 31 0)).wf = false := by
  decide +kernel

theorem test_wf_refuses_segments :
    segmentOk 0 [0x80, 1, 0] = false ∧ segmentOk 0 [0x80, 1, 0, 0] = false
      ∧ segmentOk 0 [0x80, 1, 0x10, 0x00] = false ∧ segmentOk 0 [0x80, 1, 0xFF, 0xFE] = false
      ∧ segmentOk 0 [0x00, 1, 0, 1] = false ∧ segmentOk 0 [0x84, 1, 0, 1, 0, 9, 0] = false
      ∧ segmentOk 0 [0x04, 1, 0, 1, 0, 9, 3] = false ∧ segmentOk 0 [0x80, 1, 0, 1, 0] = false
      ∧ segmentOk 0 [0x82, 1, 0, 1, 3, 0, 9] = false ∧ segmentOk 0 [0x81, 1, 0, 1, 0, 3] = false
      ∧ segmentOk 0 [0x81, 1, 0, 1, 16, 3] = false ∧ segmentOk 0 [0x81, 1, 0, 1, 1, 6] = false
      ∧ segmentOk 0 [0x81, 1, 0, 1, 1, 1] = false
      ∧ (Instr.replace .a 0 0 1 2 [0x80, 1, 0, 1]).wf = false := by
  decide +kernel

/-! ### Frames written out from 10.9 -/

/-- A notice and a response frame, field by field from 10.9; their CRCs are the part's own. -/
theorem test_frames_sent :
    (Notice.bytes ⟨.segmentEnd 3 .successor 2, .leg .l1, some 11, 1005⟩).take 12
        = [11, 0x02, 1, 1, 11, 0x03, 0xED, 0, 3, 2, 0, 2]
      ∧ (Response.bytes ⟨9, 0x10, .ok, [0, 5, 0, 20]⟩).take 8 = [7, 9, 0x10, 0, 0, 5, 0, 20] := by
  decide +kernel

/-- The check value of R162, and the smallest frame that the check of R163 takes. -/
theorem test_crc_of_nine_digits : crc16 [49, 50, 51, 52, 53, 54, 55, 56, 57] = 0x29B1 := by
  decide +kernel

theorem test_table_gives_no_bits (nbits w : Nat) (s : State) :
    decodeTableWord nbits w = none ∧ s.withFetchWord nbits w = s := ⟨rfl, rfl⟩

/-- The part in reset, with its power-on detector let go. -/
def resetting (rstLow stretch : Nat) : State := State.reset.setRst ⟨true, rstLow, 0, stretch⟩

theorem test_reset_is_release_with_reset_pins :
    let t := after (.resetRelease resetPins) (resetting 0 59)
    t.legs = State.reset.legs ∧ t.ports = State.reset.ports ∧ t.carrier = State.reset.carrier :=
  ⟨rfl, rfl, rfl⟩

/-- R176: a source that asserts for two samples more, the sample at which it lets go, and the first sample
of the stretch. -/
theorem test_reset_stretch_follows_source :
    let t := after (.resetAssert (.rstPin 2)) (resetting 0 40)
    t.rst = ⟨true, 2, 0, 0⟩ ∧ (t.rst.pass.pass) = ⟨true, 0, 0, 0⟩
      ∧ (after (.resetRelease resetPins) t).rst = t.rst
      ∧ step (resetting 0 0) = .next (resetting 0 1) := by
  refine ⟨rfl, rfl, rfl, rfl⟩

/-! ### Worked examples, one step each -/

/-- 1.9: leg 1 before a boundary, held by Port A with generation 3. -/
def planExample (period : Dword) (phase : LegPhase) (queue : List Segment) : State :=
  withPlan (leased (running period) (.leg .l1) .a 3) .l1 phase queue

def tag10 : Segment := plain (.modulate 900 .both) (some 3) 10 .both false 3
def tag11 : Segment := plain .fixedLow none 11 .finish false 3
def tag12 : Segment := plain (.modulate 400 .highOnly) (some 2) 12 .finish true 3

/-- 1.9, the boundary of period 1000. -/
theorem test_boundary_starts_head :
    let t := after .periodBoundary (planExample 999 .idle [tag10, tag11])
    (t.leg .l1).phase = runs tag10 0 .none ∧ (t.leg .l1).queue = [tag11]
      ∧ (t.port .a).notices = [⟨.segmentStart 3 1, .leg .l1, some 10, 1000⟩] := by
  decide +kernel

/-- 1.9, the boundary of period 1005. -/
theorem test_boundary_ends_by_successor :
    let t := after .periodBoundary (planExample 1004 (runs tag11 1 .none) [tag12])
    (t.leg .l1).phase = runs tag12 0 .none
      ∧ (t.port .a).notices = [⟨.segmentEnd 3 .successor 2, .leg .l1, some 11, 1005⟩] := by
  decide +kernel

/-- 1.9, the boundary of period 1003, as the length expiry of segment 10. -/
theorem test_length_expiry :
    let t := after (.segmentLengthExpiry .l1) (planExample 1002 (runs tag10 2 .none) [tag11])
    (t.leg .l1).phase = runs tag11 0 .none
      ∧ (t.port .a).notices = [⟨.segmentEnd 3 .length 3, .leg .l1, some 10, 1003⟩] := by
  decide +kernel

/-- 1.9, the CUT, and the boundary of period 1006 after it: no UNDERRUN, as segment 12 is final. -/
theorem test_cut_and_its_boundary :
    ((after (.cut .a 4 1 3) (planExample 1005 (runs tag12 0 .none) [])).leg .l1).phase
        = runs tag12 0 .host
      ∧ let t := after .periodBoundary (planExample 1005 (runs tag12 0 .host) [])
        (t.leg .l1).phase = .idle
          ∧ (t.port .a).notices = [⟨.segmentEnd 3 .cut 1, .leg .l1, some 12, 1006⟩] := by
  decide +kernel

/-- 2.7: tick 17 ends the lead-in dwell at 1, and tick 32 is the first boundary at 16. -/
theorem test_center_lead_in :
    let lead : Carrier :=
      { Carrier.reset with run := .running, active := 16, preload := 16, leadIn := true }
    (after .carrierTick (State.reset.setCarrier { lead with dwell := 16 })).carrier.counter = 1
      ∧ let t := after .carrierTick
          (State.reset.setCarrier { lead with counter := 15, slope := .rising })
        t.carrier.counter = 16 ∧ t.carrier.slope = .falling ∧ t.carrier.leadIn = false
          ∧ t.carrier.period = 1 := by
  decide +kernel

/-- 2.8: SET_PERIOD in a lead-in writes the preload alone; a STOP while leg 0 is RUNNING is BUSY, and an
accepted one keeps the counter. -/
theorem test_period_and_stop :
    let c : Carrier := { Carrier.reset with
      run := .running, mode := .edge, active := 2999, preload := 2999, leadIn := true, slope := .rising }
    let s := leased (State.reset.setCarrier c) .carrier .a 1
    ((after (.setPeriod .a 0 1 1999) s).carrier.active = 2999
        ∧ (after (.setPeriod .a 0 1 1999) s).carrier.preload = 1999)
      ∧ ((after (.stop .a 0 1) (withPlan s .l0 (runs tag11 0 .none) [])).port .a).responses
        = [⟨0, 0x33, .busy, []⟩]
      ∧ let t := after (.stop .a 0 1) (s.setCarrier { c with counter := 400, preload := 1999 })
        t.carrier.run = .stopped ∧ t.carrier.counter = 400 ∧ t.carrier.active = 1999 := by
  decide +kernel

/-- 3.8, boundary 202: legs 0 and 1 hold for leg 2 (their ends posted to nobody here). -/
theorem test_group_holds :
    let quiet := fun (d : Drive) (len : Nat) => plain d (some len) 20 .none false 5
    let s := withPlan (withPlan (withPlan (running 201)
      .l0 (runs (quiet .fixedHigh 2) 1 .none) [synced 30 5])
      .l1 (runs (quiet .fixedLow 2) 1 .none) [synced 31 5])
      .l2 (runs (quiet .fixedLow 4) 1 .none) [synced 32 5]
    let t := after .periodBoundary s
    (t.leg .l0).phase = .holding (.segment .fixedHigh)
      ∧ (t.leg .l1).phase = .holding (.segment .fixedLow)
      ∧ t.mark .m2 = ⟨1, ⟨true, true, false, false⟩⟩ := by
  decide +kernel

/-- 4.10: with dead time 6 the high side, demanded since sample 0, is off at sample 5 and on at 6. -/
theorem test_dead_time :
    let u := fun (count : Nat) =>
      { LegUnit.reset with
        config := { LegConfig.reset with deadTime := 6 }
        stage := ⟨true, false, ⟨true, false, count⟩, ⟨false, false, 0⟩⟩ }
    (u 5).sample.stage.high = ⟨true, false, 6⟩ ∧ (u 6).sample.stage.high = ⟨true, true, 7⟩ := by
  decide +kernel

/-- Leg 0 in IDLE with idle pattern LOW under CYCLE, its low side on, TRIP0 accepted active, and a MODULATE
segment with the reference on at its head. -/
def lowOn : State :=
  ((running 9).updLeg .l0 fun u => { u with
    queue := [plain (.modulate 2000 .both) none 1 .none false 1]
    config := ⟨60, .low, .float, .cycle, 0⟩
    stage := ⟨false, false, ⟨false, false, 0⟩, ⟨true, true, 255⟩⟩ }).setTrip
      ⟨⟨true, true, 0⟩, ⟨false, false, 0⟩, ⟨true, true, 0⟩⟩

/-- R65, R69, R117: the leg enters RUNNING cut, so its low side, on before and demanded after, stays on. -/
theorem test_low_stays_on_into_cut :
    let t := after .periodBoundary lowOn
    (t.leg .l0).stage.cycleCut = true ∧ t.gateLow .l0 = true ∧ t.gateHigh .l0 = false
      ∧ (t.leg .l0).stage.low = ⟨true, true, 255⟩ := by
  decide +kernel

/-- R119: that boundary opens a limited period, and LIMIT_START goes to the holder with the new tag. -/
theorem test_limit_start_at_boundary :
    ((after .periodBoundary (leased lowOn (.leg .l0) .a 1)).port .a).notices
      = [⟨.limitStart 0, .leg .l0, some 1, 10⟩] := by
  decide +kernel

/-- R62, R63: the tick from 700 to 699 raises the reference of duty 700, and the low side is off at once; the
end of that sample judges the high side: with dead time 0 it is on then, and with dead time 60 that sample and
the next one each add one to its count. -/
theorem test_sample_of_tick_judges_the_sides :
    let s := fun (deadTime : Nat) => (falling (running 9) 700).updLeg .l0 fun u => { u with
      phase := runs (plain (.modulate 700 .both) none 1 .none false 1) 0 .none
      config := { u.config with deadTime := deadTime }
      stage := ⟨false, false, ⟨false, false, 0⟩, ⟨true, true, 255⟩⟩ }
    let t := after .carrierTick (s 60)
    (after .carrierTick (s 0)).gateLow .l0 = false ∧ (after .carrierTick (s 0)).sample.gateHigh .l0 = true
      ∧ (t.leg .l0).stage.high = ⟨true, false, 0⟩ ∧ (t.sample.leg .l0).stage.high = ⟨true, false, 1⟩
      ∧ (t.sample.leg .l0).stage.low = ⟨false, false, 0⟩
      ∧ (t.sample.sample.leg .l0).stage.high = ⟨true, false, 2⟩ := by
  decide +kernel

/-- R27: the tick of a row is the tick of its sample, which brings no second one; the next tick row lets that
sample pass. -/
theorem test_carrier_tick_comes_once :
    let t := after .carrierTick (falling (running 9) 700)
    t.carrier.counter = 699 ∧ t.sample.carrier.counter = 699
      ∧ (after .carrierTick t).carrier.counter = 698
      ∧ (after .carrierTick t).leaseClock.divider = ⟨5999, false⟩ := by
  decide +kernel

/-- R87: the lease clock gives its tick at its last sample, whatever the carrier does; with two samples left,
one passes before the tick. -/
theorem test_lease_clock_is_not_restarted :
    let s := (falling (running 9) 700).setLeaseClock ⟨⟨2, false⟩, 0⟩
    let t := after .leaseTick s
    t.leaseClock = ⟨⟨6000, true⟩, 1⟩ ∧ t.carrier.counter = 699
      ∧ (after .leaseTick (after .carrierTick s)).leaseClock.number = 1
      ∧ t.sample.leaseClock = ⟨⟨6000, false⟩, 1⟩ := by
  decide +kernel

/-- R139, R145: SET_CHANNEL with prescale 1 gives no tick at its own sample, and its first one at the next. -/
theorem test_set_channel_restarts_divider :
    let t := after (.setChannel .a 1 0 1 1 0 0xFFFF 0 0) (leased State.reset (.chan .c0) .a 1)
    (t.chan .c0).config.mode = .quad ∧ (t.sample.chan .c0).timer = 0
      ∧ (t.sample.sample.chan .c0).timer = 1 := by
  decide +kernel

/-- R69: TRIP0 and a tick that raises the reference reach a stage at one sample; the low side, on before,
stays on in either order. -/
theorem test_cut_and_tick_in_either_order :
    let c := (lowOn.setLegs (.ofFn fun n => { lowOn.leg n with config := (lowOn.leg .l0).config })).updLeg
      .l0 fun u => { u with phase := runs (plain (.modulate 700 .both) none 1 .none false 1) 0 .none }
    let s := (falling c 700).setTrip ⟨⟨true, false, 7⟩, ⟨false, false, 0⟩, ⟨true, true, 0⟩⟩
    let low := fun (order : List Due) =>
      ((order.foldl (State.take s) s).sampleStages.leg .l0).stage.low
    low [.trip0, .carrier] = ⟨true, true, 255⟩ ∧ low [.carrier, .trip0] = ⟨true, true, 255⟩ := by
  decide +kernel

/-- 5.6: a second waiting CLAIM of Port C queues behind Port B, and a stale SET_LEG is refused. -/
theorem test_claim_queues :
    let s := State.reset.setLease (.leg .l2) ⟨.held .a 20 20 false, 5, [⟨.b, 40⟩]⟩
    let t := after (.claim .c 1 2 10 1) s
    (t.lease (.leg .l2)).waiters = [⟨.b, 40⟩, ⟨.c, 10⟩]
      ∧ (t.port .c).responses = [⟨1, 0x10, .queued, [2]⟩]
      ∧ ((after (.setLeg .a 2 2 4 1 0 0) s).port .a).responses = [⟨2, 0x24, .stale, [0, 5]⟩] := by
  decide +kernel

/-- 5.6, lease tick 15: the count meets the threshold of 5 and the warning is posted. -/
theorem test_lease_low :
    let s := (leaseDue State.reset).setLease (.leg .l2) ⟨.held .a 20 6 false, 5, []⟩
    let t := after .leaseTick s
    (t.lease (.leg .l2)).phase = .held .a 20 5 true
      ∧ (t.port .a).notices = [⟨.leaseLow 5 5 20, .resource (.leg .l2), none, 0⟩] := by
  decide +kernel

/-- 6.11: lease tick 8 leaves leg 0 RELEASING and cut, and boundary 4119 grants it to Port B. -/
def failover (l : Lease) (cut : CutRequest) (queue : List Segment) : State :=
  withPlan ((leaseDue (running 4118)).setLease (.leg .l0) l) .l0
    (runs (plain .fixedHigh none 41 .finish false 8) 0 cut) queue

theorem test_expiry_releases :
    let t := after (.leaseExpiry (.leg .l0))
      (failover ⟨.held .a 30 1 true, 8, [⟨.b, 50⟩]⟩ .none [plain .float none 42 .finish false 8])
    t.lease (.leg .l0) = ⟨.releasing, 8, [⟨.b, 50⟩]⟩
      ∧ (t.leg .l0).phase = runs (plain .fixedHigh none 41 .finish false 8) 0 .lease
      ∧ (t.leg .l0).queue = []
      ∧ (t.port .a).notices = [⟨.leaseLost .expired 8 none, .resource (.leg .l0), none, 4118⟩] := by
  decide +kernel

theorem test_report_grants :
    let t := after .periodBoundary (failover ⟨.releasing, 8, [⟨.b, 50⟩]⟩ .lease [])
    t.lease (.leg .l0) = ⟨.held .b 50 50 false, 9, []⟩ ∧ (t.leg .l0).phase = .idle
      ∧ (t.port .a).notices = []
      ∧ (t.port .b).notices = [⟨.leaseGranted 9 50, .resource (.leg .l0), none, 4119⟩] := by
  decide +kernel

/-- 7.7: leg 1 under CYCLE with escalation limit 3, and its REARM while TRIP0 is active. -/
def limited (runCount : Nat) : State :=
  ((leased (running 502) (.leg .l1) .a 6).updLeg .l1 fun u => { u with
    phase := runs (plain (.modulate 900 .both) (some 4000) 7 .none false 6) 10 .none
    queue := [plain .float none 8 .none false 6], limited := true, runCount := runCount
    config := ⟨60, .float, .float, .cycle, 3⟩, stage := { u.stage with cycleCut := true } }).setTrip
      ⟨⟨true, true, 0⟩, ⟨false, false, 0⟩, ⟨true, true, 0⟩⟩

/-- The boundary before: the run count rises and the leg stays cut. -/
theorem test_limited_period :
    let t := after .periodBoundary (limited 1)
    (t.leg .l1).runCount = 2 ∧ (t.leg .l1).stage.cycleCut = true ∧ (t.leg .l1).limited = true := by
  decide +kernel

theorem test_rearm_refused :
    ((after (.rearm .a 0 1 6)
        (withPlan (limited 3) .l1 (.tripped (record .escalated)) [])).port .a).responses
      = [⟨0, 0x27, .tripActive, [1]⟩] := by
  decide +kernel

/-- 7.7: TRIP1 cancels the pending rearm and joins the further causes. -/
theorem test_trip1_cancels_rearm :
    let s := Leg.all.foldl (fun s n => withPlan s n (.tripped { record .escalated with rearm := true }) [])
      (running 504)
    ((after .trip1Active s).leg .l1).phase
      = .tripped ⟨.escalated, 500, some 7, ⟨false, true, false, false⟩, false⟩ := by
  decide +kernel

/-- 8.9: Channel 0 in QUAD with modulus 8, index use LATCH_AND_ZERO, subscribed by Port B. -/
def quad (x y : Bool) (position : Nat) (revs : Half) (d : Direction) (timer : Nat) : State :=
  withChan State.reset .c0 fun ch => { ch with
    config := ⟨.quad, .w0, 8, .latchAndZero, .rising, 6⟩, divider := ⟨64, false⟩
    x := .settled x, y := .settled y, phase := phaseOf x y, position := position, revolutions := revs
    direction := d, timer := timer, intervalLatch := 380
    subscribers := ⟨.empty, ⟨true, true, true, true, false⟩, .empty⟩ }

/-- A channel whose interval divider gives a tick at the sample in progress. -/
def tickNow (s : State) (c : Chan) : State := withChan s c fun ch => { ch with divider := ⟨1, false⟩ }

/-- R139: the tick of the sample comes before the step, whose latch takes the raised timer; at the end of the
timer there is no stall. -/
theorem test_tick_before_step :
    let t := after (.quadInputChange .c0 true true) (tickNow (quad true false 7 0 .up 65534) .c0)
    (t.chan .c0).intervalLatch = 65535 ∧ (t.chan .c0).stall = false ∧ (t.chan .c0).timer = 0
      ∧ (t.sample.chan .c0).timer = 0 ∧ (t.port .b).notices = [] := by
  decide +kernel

/-- A channel 0 in QUAD with timer 65534 at the sample of its tick, at which its filters accept X, a counted
step. -/
def stepBesideTick : State :=
  withChan (tickNow (quad false false 0 0 .up 65534) .c0) .c0 fun ch => { ch with x := ⟨true, false, 0⟩ }

/-- A channel that the row of its tick has stalled at the sample in progress. -/
def stalledByRow (s : State) (c : Chan) : State :=
  withChan s c fun ch => { ch with timer := 65535, stall := true, divider := ⟨2, true⟩ }

/-- R139: the tick that brings the timer to 65535 makes no saturation where the filters accept a counted step at
its sample: the row of the tick is that sample, and STALL does not come. -/
theorem test_no_saturation_beside_step :
    let t := after (.intervalTick .c0) stepBesideTick
    (t.chan .c0).intervalLatch = 65535 ∧ (t.chan .c0).stall = false ∧ (t.chan .c0).position = 1
      ∧ (t.port .b).notices = [] ∧ after (.stall .c0) stepBesideTick = stepBesideTick := by
  decide +kernel

/-- R139, R140, R143: after a tick that saturated the timer, the row of a counted step lies at the next sample,
where it latches 65535 and clears the stall; STALL was posted for the earlier sample. -/
theorem test_step_row_after_saturation :
    let t := after (.intervalTick .c0) (tickNow (quad false false 0 0 .up 65534) .c0)
    let u := after (.quadInputChange .c0 true false) t
    (t.chan .c0).stall = true ∧ u = after (.quadInputChange .c0 true false) t.sample
      ∧ (u.chan .c0).intervalLatch = 65535 ∧ (u.chan .c0).stall = false ∧ (u.chan .c0).position = 1
      ∧ (u.port .b).notices = [⟨.stall .quad 0, .chan .c0, none, 0⟩] := by
  decide +kernel

/-- R138: a counted step and an index edge of one sample are two rows that stand next to each other, the step
first (log entry 23). -/
theorem test_step_then_index_row :
    let t := after (.indexEdge .c0) (after (.quadInputChange .c0 true false) (quad false false 3 0 .up 9))
    (t.chan .c0).indexLatch = 4 ∧ (t.chan .c0).position = 0 ∧ (t.chan .c0).intervalLatch = 9 := by
  decide +kernel

/-- R156: a lease notice of CHAN0 keeps no order with the notices of channel 0, so that after DIRECTION either
INDEX or the lease notice may come next. -/
theorem test_channel_and_its_lease_are_two_sources :
    let s := leased (quad true false 7 0 .up 400) (.chan .c0) .b 3
    let t := ((s.postChan .c0 (.direction .down 6)).postGranted (.chan .c0) .b 50).postChan .c0 (.index 6 0)
    sourcesOf t.outbox = [.resource (.chan .c0), .chan .c0]
      ∧ sourcesOf (t.outbox.drop 1) = [.resource (.chan .c0), .chan .c0] := by
  decide

/-- 8.9: Y to 1 wraps from 7 to 0; the next X to 1 steps back with DIRECTION DOWN. -/
theorem test_quad_steps :
    let t := after (.quadInputChange .c0 true true) (quad true false 7 0 .up 400)
    (t.chan .c0).position = 0 ∧ (t.chan .c0).revolutions = 1 ∧ (t.chan .c0).intervalLatch = 400
      ∧ (t.port .b).notices = []
      ∧ (let t := after (.quadInputChange .c0 true true) (quad false true 1 1 .up 820);
        (t.chan .c0).position = 0 ∧ (t.chan .c0).phase = 2 ∧ (t.chan .c0).direction = .down
          ∧ (t.port .b).notices = [⟨.direction .down 0, .chan .c0, none, 0⟩]) := by
  decide +kernel

/-- 8.9: X to 0 and Y to 1 at one sample is a phase error; Z to 1 latches 7 and zeroes. -/
theorem test_phase_error_and_index :
    (let t := after (.quadInputChange .c0 false true) (quad true false 0 0 .down 250);
      (t.chan .c0).phase = 3 ∧ (t.chan .c0).position = 0 ∧ (t.chan .c0).timer = 250
        ∧ (t.port .b).notices = [⟨.phaseError 3 0, .chan .c0, none, 0⟩])
      ∧ let t := after (.indexEdge .c0) (quad true false 7 0 .down 120)
        (t.chan .c0).position = 0 ∧ (t.chan .c0).indexLatch = 7 ∧ (t.chan .c0).timer = 120
          ∧ (t.port .b).notices = [⟨.index 7 0, .chan .c0, none, 0⟩] := by
  decide +kernel

/-- 8.10: Channel 1 in CAPTURE, subscribed by Port A. -/
def capturing (x : Bool) (timer width period : Nat) (taken : Bool) : State :=
  withChan State.reset .c1 fun ch => { ch with
    config := ⟨.capture, .w4, 65536, .off, .rising, 0⟩
    x := .settled x, phase := phaseOf x false, timer := timer, capture := .measuring
    widthTaken := taken, widthLatch := width, periodLatch := period
    subscribers := ⟨⟨false, true, false, false, true⟩, .empty, .empty⟩ }

/-- 8.10: the falling edge at 1500 and the rising edge at 6000, each after the tick of its sample. -/
theorem test_capture :
    ((after (.captureEdge .c1) (capturing true 1499 0 0 false)).chan .c1).widthLatch = 1500
      ∧ let t := after (.captureEdge .c1) (capturing false 5999 1500 0 true)
        (t.chan .c1).periodLatch = 6000 ∧ (t.chan .c1).timer = 0
          ∧ (t.port .a).notices = [⟨.capture 1500 6000, .chan .c1, none, 0⟩] := by
  decide +kernel

/-- 8.10: the tick at 77535. -/
theorem test_capture_saturates :
    let t := after (.intervalTick .c1) (capturing false 65534 1500 6000 true)
    (t.chan .c1).capture = .waitFirst ∧ (t.chan .c1).widthLatch = 1500
      ∧ (t.chan .c1).periodLatch = 65535 ∧ (t.chan .c1).stall = true
      ∧ (t.port .a).notices = [⟨.stall .capture 0, .chan .c1, none, 0⟩] := by
  decide +kernel

/-- R142: a tick to the end of the timer and an active edge at one sample; the saturation comes first, and the
edge finds WAIT_FIRST. -/
theorem test_capture_saturates_before_edge :
    let t := after (.captureEdge .c1) (capturing false 65534 1500 6000 true)
    (t.chan .c1).capture = .measuring ∧ (t.chan .c1).periodLatch = 65535 ∧ (t.chan .c1).timer = 0
      ∧ (t.port .a).notices = [⟨.stall .capture 0, .chan .c1, none, 0⟩] := by
  decide +kernel

/-- 9.6: the step +1 onto 100 sets the latch of leg 0; the SET_POSITION to 100 does not. -/
def positioned (position : Nat) : State :=
  withPlan
    (withChan (leased (leased State.reset (.chan .c0) .b 4) (.leg .l0) .a 2) .c0 fun ch => { ch with
      config := { ch.config with mode := .quad, modulus := 400 }, position := position })
    .l0 (runs { plain .fixedHigh none 60 .finish false 2 with
      condition := some ⟨.c0, .up, 100⟩ } 1 .none) []

theorem test_condition :
    let latch := fun (s : State) => match (s.leg .l0).phase with
      | .running a => a.latch
      | .idle | .holding _ | .tripped _ => false
    latch (after (.quadInputChange .c0 true false) (positioned 99)) = true
      ∧ latch (after (.setPosition .b 0 0 4 100) (positioned 98)) = false
      ∧ ((after (.setPosition .b 0 0 4 100) (positioned 98)).chan .c0).position = 100 := by
  decide +kernel

/-- 10.8: Port B with four answers waiting, in a COMMAND transaction that showed no flag. -/
def pressed (commands : List Frame) : State :=
  withPort State.reset .b fun e => { e with
    responses := [nopAnswer 1, nopAnswer 2, nopAnswer 3, nopAnswer 4], commands := commands
    txn := some ⟨0x44, 0, .clear, none, 0, none⟩ }

/-- 10.8: SEQ 5 waits, and SEQ 9 behind four that wait is dropped. -/
theorem test_back_pressure :
    ((after (.commandTransaction .b (0x3C :: Frame.bytes ⟨0x01, 5, []⟩) false) (pressed [])).port .b).commands
        = [⟨0x01, 5, []⟩]
      ∧ let four : List Frame := [⟨0x01, 5, []⟩, ⟨0x01, 6, []⟩, ⟨0x01, 7, []⟩, ⟨0x01, 8, []⟩]
        let t := after (.commandTransaction .b (0x3C :: Frame.bytes ⟨0x01, 9, []⟩) false) (pressed four)
        (t.port .b).commands = four ∧ (t.port .b).sticky = ⟨true, false, false⟩ := by
  decide +kernel

/-- 10.8: a fetch stopped after 2 frame bytes removes nothing; a complete one lets SEQ 5 be taken. -/
theorem test_fetch_response :
    let s := withPort (pressed [⟨0x01, 5, []⟩]) .b fun e => { e with
      txn := some ⟨0x44, 0x20, ⟨true, false, false⟩, some 0xC3, 2, some (.frame (nopAnswer 1).bytes)⟩
      sticky := ⟨true, false, false⟩ }
    let fetch := fun (slots : Nat) =>
      (after (.fetchResponse .b (0xC3 :: List.replicate (slots - 1) 0xFF)) s).port .b
    (fetch 4).responses.length = 4 ∧ (fetch 4).sticky = .clear
      ∧ (fetch 8).responses = [nopAnswer 2, nopAnswer 3, nopAnswer 4, nopAnswer 5]
      ∧ (fetch 8).commands = [] := by
  decide +kernel

/-- R161, R163: a COMMAND_TRANSACTION that the rows give alone is taken whole (log entry 19), and a
frame with a wrong CRC sets CRC_FAULT after the flags shown are cleared. -/
theorem test_command_transaction_alone :
    let s := withPort State.reset .a fun e => { e with sticky := ⟨false, false, true⟩ }
    let t := after (.commandTransaction .a (0x3C :: Frame.bytes ⟨0x01, 5, []⟩) false) s
    let u := after (.commandTransaction .a [0x3C, 2, 0x01, 5, 0, 0] false) s
    (t.port .a).responses = [nopAnswer 5] ∧ (t.port .a).sticky = .clear ∧ (t.port .a).txn = none
      ∧ (u.port .a).responses = [] ∧ (u.port .a).sticky = ⟨false, true, false⟩ := by
  decide +kernel

/-- R158, R171: a transaction begun at low presence and ended after the rise is ignored. -/
theorem test_ignored_transaction :
    let gone := withPort State.reset .a fun e => { e with presence := ⟨false, false, 0⟩ }
    let s := after (.presenceRise .a) (after (.statusCapture .a) gone)
    let t := after (.commandTransaction .a (0x3C :: Frame.bytes ⟨0x01, 5, []⟩) false) s
    (s.port .a).ignoring = true ∧ (s.port .a).presence.level = true
      ∧ (t.port .a).responses = [] ∧ (t.port .a).ignoring = false := by
  decide +kernel

/-! ### Hypotheses that can be met

For each statement with hypotheses, a state and operands that meet them together; where it has several
clauses, one for each, at a boundary value where the clause has a range. -/

theorem witness_IdleStepIsOneSample :
    State.reset.pending = [] ∧ State.reset.rst.inReset = false
      ∧ State.reset.leaseClock.divider.fresh = false ∧ 2 ≤ State.reset.leaseClock.divider.toTick
      ∧ State.reset.carrier.run = .stopped
      ∧ (leaseDue State.reset).leaseClock.divider.fresh = false
      ∧ (leaseDue State.reset).leaseClock.divider.toTick ≤ 1
      ∧ (let s := (running 9).setCarrier { (running 9).carrier with divider := ⟨2, true⟩ };
        s.carrier.run = .running ∧ s.carrier.divider.fresh = true ∧ s.pending = [])
      ∧ (running 9).carrier.run = .running ∧ (running 9).carrier.divider = ⟨1, false⟩
      ∧ (running 9).pending = [] ∧ (State.reset.chan .c0).divider = ⟨1, false⟩
      ∧ (State.reset.chan .c0).x.pin = (State.reset.chan .c0).x.level
      ∧ (State.reset.chan .c0).y.pin = (State.reset.chan .c0).y.level
      ∧ (State.reset.chan .c0).z.pin = (State.reset.chan .c0).z.level
      ∧ ((quad false false 0 0 .none 0).chan .c0).divider = ⟨64, false⟩
      ∧ (resetting 1 0).rst.inReset = true ∧ 0 < (resetting 1 0).rst.rstLow ∧ (resetting 1 0).pending = []
      ∧ (resetting 0 58).rst.inReset = true ∧ (resetting 0 58).rst.stretch < 59
      ∧ (resetting 0 58).rst.rstLow = 0 ∧ (resetting 0 58).rst.porHold = 0
      ∧ 59 ≤ (resetting 0 59).rst.stretch ∧ (resetting 0 59).rst.inReset = true
      ∧ (let s := State.reset.setTrip ⟨⟨true, false, 7⟩, ⟨true, false, 62⟩, ⟨true, true, 0⟩⟩
        s.trip.trip0.pin ≠ s.trip.trip0.level ∧ 8 ≤ s.trip.trip0.count + 1
          ∧ s.trip.trip1.pin ≠ s.trip.trip1.level ∧ s.trip.trip1.count + 1 < 64
          ∧ s.trip.arm.pin = s.trip.arm.level ∧ s.pending = [] ∧ s.rst.inReset = false)
      ∧ (State.reset.leg .l0).stage.low.demand = false
      ∧ (State.reset.leg .l0).stage.high.demand = false := by
  decide +kernel

theorem witness_FrameRoundTrip :
    (Instr.claim .c 9 6 10000 1).wf = true
      ∧ encodeFrame (.claim .c 9 6 10000 1) = some (.c, ⟨0x10, 9, [6, 0x27, 0x10, 1]⟩) := by
  decide +kernel

theorem witness_SegmentRoundTrip :
    let seg := { synced 7 3 with length := some 4095 }
    (∀ n, seg.length = some n → 1 ≤ n ∧ n ≤ 4095)
      ∧ ∀ f, seg.sync = some f → f.legs.get .l2 = true ∧ 2 ≤ legCount f.legs := by
  refine ⟨?_, ?_⟩
  · intro n h; injection h with h; omega
  · intro f h; injection h with h; subst h; decide

theorem witness_SegmentReadExactlyWhenWellFormed : legOf 3 = some .l3 := by decide

theorem witness_BadArgumentsAnswered :
    let i := Instr.claim .a 1 0 10001 0
    let s := State.reset
    encodeFrame i = some (.a, ⟨0x10, 1, [0, 0x27, 0x11, 0]⟩) ∧ (opcodeOf 0x10).isSome = true
      ∧ (∀ q n c as, i ≠ .unknown q n c as) ∧ s.Ready .a ∧ s.argsOk i = false
      ∧ s.argsOk (.setPosition .a 1 0 0 0xFFFF) = true
      ∧ (inMode s .c0 .quad).argsOk (.setPosition .a 1 2 0 0) = false := by
  refine ⟨by decide +kernel, by decide, ?_, by decide +kernel, by decide +kernel, by decide +kernel,
    by decide +kernel⟩
  intro q n c as h; cases h

theorem witness_LeasedCommandsFenced :
    let s := leased State.reset (.leg .l3) .b 4
    let i := fun (p : Port) (g : Half) => Instr.flush p 1 3 g
    encodeFrame (i .a 4) = some (.a, ⟨0x22, 1, [3, 0, 4]⟩) ∧ leasedOn (i .a 4) = some (.leg .l3, 4)
      ∧ s.Ready .a ∧ s.argsOk (i .a 4) = true ∧ (s.lease (.leg .l3)).holder? ≠ some .a
      ∧ s.Ready .b ∧ s.argsOk (i .b 3) = true ∧ (s.lease (.leg .l3)).holder? = some .b
      ∧ (3 : Half) ≠ (s.lease (.leg .l3)).gen := by
  decide +kernel

theorem witness_CommandWaitsIsDroppedOrIgnored :
    let i := Instr.nop .b 5
    let f : Frame := ⟨0x01, 5, []⟩
    encodeFrame i = some (.b, f) ∧ decodeFrame .b f = some i ∧ (resetting 1 0).rst.inReset = true
      ∧ ((withPort State.reset .b fun e => { e with presence := ⟨false, false, 0⟩ }).port
          .b).presence.level = false
      ∧ (pressed [f, f, f]).rst.inReset = false ∧ ((pressed [f, f, f]).port .b).presence.level = true
      ∧ ((pressed [f, f, f]).port .b).commands ≠ []
      ∧ ((pressed [f, f, f]).port .b).commands.length < 4
      ∧ 4 ≤ ((pressed []).port .b).responses.length
      ∧ 4 ≤ ((pressed [f, f, f, f]).port .b).commands.length := by
  decide +kernel

/-- A transaction in progress at Port B of a part in its reset values. -/
def inTransaction (opener : Option Byte) (fixed : Option FixedFrame) : State :=
  withPort State.reset .b fun e => { e with
    txn := some ⟨0x40, 0, ⟨false, false, true⟩, opener, 2, fixed⟩ }

theorem witness_CommandTransactionRunsItsCommand :
    let s := inTransaction none none
    s.Awake ∧ (s.port .b).presence.level = true
      ∧ ((s.port .b).commands ≠ [] → 4 ≤ (s.port .b).responses.length)
      ∧ (s.port .b).txn = some ⟨0x40, 0, ⟨false, false, true⟩, none, 2, none⟩
      ∧ (s.port .b).ignoring = false
      ∧ (List.replicate 30 (0 : Byte)).length ≤ 30
      ∧ decodeFrame .b ⟨0x99, 1, List.replicate 30 0⟩ = some (.unknown .b 1 0x99 (List.replicate 30 0))
      ∧ decodeFrame .b ⟨0x01, 1, [0]⟩ = none ∧ s.Ready .b := by
  decide +kernel

theorem witness_CommandFrameChecked :
    let s := inTransaction none none
    let full := pressed [⟨0x01, 5, []⟩, ⟨0x01, 6, []⟩, ⟨0x01, 7, []⟩, ⟨0x01, 8, []⟩]
    let good : List Byte := [2, 0x01, 9]
    s.Awake ∧ (s.port .b).ignoring = false ∧ ((s.port .b).txn.map Transaction.opener) = some none
      ∧ ((full.port .b).commands ≠ [] → 4 ≤ (full.port .b).responses.length)
      ∧ ([1, 0, 0, 0] : List Byte).headD 0 = 1 ∧ ([33] : List Byte).headD 0 = 33
      ∧ good.length + 2 = 1 + 2 + 2
      ∧ join16 0 0 ≠ crc16 good
      ∧ join16 ((crc16 good).extractLsb' 8 8) ((crc16 good).extractLsb' 0 8) = crc16 good
      ∧ 4 ≤ (full.port .b).commands.length
      ∧ ((pressed [⟨0x01, 5, []⟩, ⟨0x01, 6, []⟩, ⟨0x01, 7, []⟩]).port .b).commands.length < 4
      ∧ 4 ≤ ((pressed [⟨0x01, 5, []⟩]).port .b).responses.length := by
  decide +kernel

theorem witness_PortCommandsAnswered :
    State.reset.Ready .c ∧ opcodeOf 0x99 = none ∧ (15 : Byte).toNat < 16 := by decide +kernel

theorem legs_ok_at (s : State) (h : ∀ n ∈ Leg.all, (s.leg n).queue.length ≤ 8
    ∧ ((s.leg n).phase.isTripped = true → (s.leg n).queue = []) ∧ (s.leg n).phase = .idle
    ∧ ((s.leg n).phase.driving = false → (s.leg n).stage.cycleCut = false ∧ (s.leg n).limited = false)
    ∧ (s.leg n).tripCount ≤ 255 ∧ (s.leg n).runCount = 0
    ∧ (s.leg n).config.deadTime ≤ 255 ∧ (s.leg n).config.escalation ≤ 255) : s.LegsOk := by
  intro n
  obtain ⟨h1, h2, h3, h4, h5, h6, h7, h8⟩ := h n (by cases n <;> decide)
  exact ⟨h1, h2, fun a ha => by simp [h3] at ha, h4, fun _ => h6, h5, by omega, h7, h8⟩

theorem leases_ok_at (s : State) (h : ∀ r ∈ Resource.all,
    s.lease r = ⟨.free, 0, []⟩ ∨ ∃ k ∈ [1, 50], s.lease r = ⟨.held .a 100 k false, 1, []⟩) :
    s.LeasesOk := by
  have all : ∀ r, r ∈ Resource.all := by
    intro r; rcases r with n | _ | c
    · cases n <;> decide
    · decide
    · cases c <;> decide
  refine ⟨fun r => ?_, ?_, fun c => ?_⟩
  · rcases h r (all r) with h | ⟨k, hk, h⟩
    · simp [Lease.Ok, h]
    · simp only [List.mem_cons, List.not_mem_nil, or_false] at hk
      rcases hk with rfl | rfl <;> simp [Lease.Ok, h]
  · rcases h _ (all .carrier) with h | ⟨k, -, h⟩ <;> simp [h]
  · rcases h _ (all (.chan c)) with h | ⟨k, -, h⟩ <;> simp [h]

theorem witness_QueriesChangeNothing :
    State.reset.Ready .a ∧ State.reset.LegsOk ∧ State.reset.LeasesOk ∧ (6 : Byte).toNat ≤ 6
      ∧ (3 : Byte).toNat ≤ 3 ∧ (1 : Byte).toNat ≤ 1 :=
  ⟨by decide +kernel, legs_ok_at _ (by decide +kernel), leases_ok_at _ (by decide +kernel),
    by decide, by decide, by decide⟩

theorem witness_QueryAnswersHold :
    State.reset.Ready .b ∧ resourceOf 6 = some (.chan .c1) ∧ legOf 3 = some .l3 ∧ chanOf 1 = some .c1 := by
  decide +kernel

theorem witness_TransactionEvents :
    let s := inTransaction none none
    let gone := withPort State.reset .b fun e => { e with presence := ⟨false, false, 0⟩ }
    let ignored := withPort State.reset .b fun e => { e with ignoring := true }
    (s.Awake ∧ (s.port .b).presence.level = true ∧ (s.port .b).commands.length ≤ 4
      ∧ ((pressed []).port .b).responses.length ≤ 4
      ∧ gone.Awake ∧ (gone.port .b).presence.level = false ∧ (resetting 1 0).rst.inReset = true
      ∧ (ignored.port .b).ignoring = true ∧ (s.port .b).ignoring = false
      ∧ (s.port .b).txn = some ⟨0x40, 0, ⟨false, false, true⟩, none, 2, none⟩
      ∧ (State.reset.port .b).txn = none ∧ (State.reset.port .b).ignoring = false
      ∧ State.reset.Awake ∧ ([0x3D] : List Byte).head? ≠ some 0x3C
      ∧ (0x3D : Byte) ≠ 0x3C ∧ (0x3D : Byte) ≠ 0xC3 ∧ (0x3D : Byte) ≠ 0x5A)
      ∧ exec (.statusCapture .b) State.reset
        = .next (withPort State.reset .b fun e => { e with
            txn := some ⟨0x40, 0, .clear, none, 0, none⟩ }) :=
  ⟨by decide +kernel, rfl⟩

theorem witness_FetchRemovesWhatWasSent :
    let sent := fun (op : Byte) =>
      inTransaction (some op) (some (.frame (nopAnswer 1).bytes))
    ((sent 0xC3).Awake ∧ (sent 0x5A).Awake ∧ ((sent 0xC3).port .b).ignoring = false
      ∧ ((sent 0xC3).port .b).presence.level = true
      ∧ ((sent 0xC3).port .b).txn
        = some ⟨0x40, 0, ⟨false, false, true⟩, some 0xC3, 2, some (.frame (nopAnswer 1).bytes)⟩
      ∧ ((sent 0x5A).port .b).txn
        = some ⟨0x40, 0, ⟨false, false, true⟩, some 0x5A, 2, some (.frame (nopAnswer 1).bytes)⟩
      ∧ ((sent 0xC3).port .b).commands = []
      ∧ 2 + (nopAnswer 1).bytes.length ≤ 1 + (List.replicate 7 (0 : Byte)).length
      ∧ 1 + (List.replicate 6 (0 : Byte)).length < 2 + (nopAnswer 1).bytes.length
      ∧ ((inTransaction none none).port .b).txn
        = some ⟨0x40, 0, ⟨false, false, true⟩, none, 2, none⟩
      ∧ (inTransaction none none).Awake ∧ 2 ≤ 1 + ([0] : List Byte).length)
      ∧ ∃ t1, exec (.fetchFrameFixed .b .responses) (inTransaction none none) = .next t1 :=
  ⟨by decide +kernel, _, rfl⟩

theorem witness_FetchLetsWaitingCommandBeTaken :
    let f : Frame := ⟨0x01, 5, []⟩
    let g : Frame := ⟨0x02, 6, []⟩
    let bad : Frame := ⟨0x01, 7, [0]⟩
    let s := withPort (pressed [f, g, bad]) .b fun e => { e with
      txn := some ⟨0x44, 0, .clear, some 0xC3, 2, some (.frame (nopAnswer 1).bytes)⟩ }
    s.Awake ∧ (s.port .b).presence.level = true ∧ (s.port .b).ignoring = false
      ∧ (s.port .b).txn = some ⟨0x44, 0, .clear, some 0xC3, 2, some (.frame (nopAnswer 1).bytes)⟩
      ∧ 2 + (nopAnswer 1).bytes.length ≤ 1 + (List.replicate 7 (0 : Byte)).length
      ∧ (s.port .b).responses.length = 4 ∧ (s.port .b).commands = f :: [g, bad]
      ∧ decodeFrame .b f = some (.nop .b 5) ∧ decodeFrame .b g = some (.queryPort .b 6)
      ∧ decodeFrame .b bad = none := by
  decide +kernel

theorem witness_NoticeAdmission :
    let e := State.reset.port .a
    e.presence.level = true ∧ plainNotice.body = .lost 1
      ∧ 16 ≤ { e with notices := List.replicate 16 plainNotice }.notices.length
      ∧ { e with notices := List.replicate 15 plainNotice }.notices.length < 16
      ∧ { e with presence := ⟨false, false, 0⟩ }.presence.level = false
      ∧ (!{ e with mask := ⟨false, true, true, true⟩ }.mask.segment) = true := by
  decide +kernel

theorem witness_LevelOnlyEvents :
    let s := (withPort State.reset .b fun e => { e with presence := ⟨false, false, 0⟩ }).setTrip
      ⟨⟨true, true, 0⟩, ⟨true, true, 0⟩, ⟨false, false, 0⟩⟩
    s.Awake ∧ (s.port .b).presence.level = false ∧ s.trip.trip0.level = true
      ∧ s.trip.trip1.level = true ∧ s.trip.arm.level = false := by
  decide +kernel

theorem witness_PresenceFallLeavesNothing :
    let s := leased (planExample 9 (runs tag10 0 .none) [tag11]) .carrier .a 1
    s.Awake ∧ (s.port .a).presence.level = true ∧ (s.lease (.leg .l1)).holder? = some .a
      ∧ s.resourceAtRest (.leg .l1) = false ∧ (s.lease .carrier).holder? = some .a
      ∧ s.resourceAtRest .carrier = true ∧ (s.lease (.leg .l0)).holder? ≠ some .a := by
  decide +kernel

theorem witness_ResetReleaseValues :
    (resetPins.arm = true ∧ resetPins.trip0 = false ∧ resetPins.trip1 = false)
      ∧ (resetting 0 59).rst.inReset = true ∧ (resetting 0 59).rst.rstLow = 0
      ∧ (resetting 0 59).rst.porHold = 0 ∧ 59 ≤ (resetting 0 59).rst.stretch
      ∧ State.reset.rst.inReset = false ∧ 0 < (resetting 1 59).rst.rstLow
      ∧ (resetting 0 58).rst.stretch < 59 := by
  decide +kernel

theorem witness_ResetReleaseTrips :
    (resetting 0 59).rst.inReset = true ∧ (resetting 0 59).rst.rstLow = 0
      ∧ (resetting 0 59).rst.porHold = 0 ∧ 59 ≤ (resetting 0 59).rst.stretch
      ∧ { resetPins with arm := false }.arm = false ∧ { resetPins with trip1 := true }.trip1 = true
      ∧ { resetPins with trip0 := true }.trip0 = true ∧ (resetPins.ports.get .c).role = true
      ∧ (resetPins.ports.get .c).pres = true := by
  decide +kernel

theorem witness_ClaimAnswered :
    let held := fun (ws : List Waiter) => State.reset.setLease .carrier ⟨.held .a 9 9 false, 1, ws⟩
    let ending := State.reset.setLease .carrier ⟨.releasing, 1, []⟩
    State.reset.Ready .b ∧ resourceOf 4 = some .carrier ∧ 1 ≤ (1 : Half).toNat
      ∧ (10000 : Half).toNat ≤ 10000 ∧ (1 : Byte).toNat ≤ 1
      ∧ (State.reset.lease .carrier).phase = .free
      ∧ (held []).Ready .a ∧ (held []).Ready .b ∧ ((held []).lease .carrier).phase = .held .a 9 9 false
      ∧ Port.a ≠ .b ∧ ending.Ready .b ∧ (ending.lease .carrier).phase = .releasing
      ∧ ((held []).lease .carrier).phase ≠ .free ∧ ((held []).lease .carrier).holder? ≠ some .b
      ∧ (∀ x ∈ ((held [⟨.c, 3⟩]).lease .carrier).waiters, x.port ≠ .b)
      ∧ ((held [⟨.c, 3⟩]).lease .carrier).waiters.length < 2
      ∧ 2 ≤ ((held [⟨.c, 3⟩, ⟨.c, 4⟩]).lease .carrier).waiters.length
      ∧ ((held [⟨.c, 3⟩, ⟨.b, 4⟩]).lease .carrier).waiters = [⟨.c, 3⟩] ++ ⟨.b, 4⟩ :: []
      ∧ (∀ y ∈ [(⟨.c, 3⟩ : Waiter)], y.port ≠ .b) := by
  decide +kernel

theorem witness_RenewAndCancelWait :
    let s := State.reset.setLease .carrier ⟨.held .a 9 1 true, 1, [⟨.b, 4⟩]⟩
    s.Ready .a ∧ resourceOf 4 = some .carrier ∧ s.Holds .a .carrier 1
      ∧ (s.lease .carrier).phase = .held .a 9 1 true ∧ s.Ready .b
      ∧ (∀ w ∈ (s.lease .carrier).waiters, w.port ≠ .a)
      ∧ ∃ w ∈ (s.lease .carrier).waiters, w.port = .b := by
  decide +kernel

theorem witness_ReleaseEndsLease :
    let at_rest := fun (ws : List Waiter) =>
      State.reset.setLease (.leg .l0) ⟨.held .a 9 1 true, 1, ws⟩
    let busy := planExample 9 (runs tag10 0 .none) []
    (at_rest []).Ready .a ∧ resourceOf 0 = some (.leg .l0) ∧ (at_rest []).Holds .a (.leg .l0) 1
      ∧ (at_rest []).resourceAtRest (.leg .l0) = true ∧ ((at_rest []).lease (.leg .l0)).waiters = []
      ∧ (at_rest [⟨.b, 7⟩]).Holds .a (.leg .l0) 1
      ∧ ((at_rest [⟨.b, 7⟩]).lease (.leg .l0)).waiters = ⟨.b, 7⟩ :: []
      ∧ busy.Ready .a ∧ busy.Holds .a (.leg .l1) 3 ∧ busy.resourceAtRest (.leg .l1) = false := by
  decide +kernel

theorem witness_SeizeOfFreeLease :
    let s := State.reset.setLease (.leg .l0) ⟨.free, 65535, []⟩
    s.Ready .c ∧ (s.port .c).role = .supervisor ∧ resourceOf 0 = some (.leg .l0)
      ∧ 1 ≤ (1 : Half).toNat ∧ (10000 : Half).toNat ≤ 10000
      ∧ s.lease (.leg .l0) = ⟨.free, 65535, []⟩ ∧ s.PlansFenced :=
  ⟨by decide +kernel, by decide +kernel, by decide, by decide, by decide, by decide +kernel,
    fun n => by cases n <;> exact ⟨rfl, rfl⟩⟩

theorem witness_SeizeOfHeldLease :
    let s := fun (ph : LeasePhase) => State.reset.setLease .carrier ⟨ph, 1, []⟩
    let two := withPort (s (.held .b 9 9 false)) .b fun e => { e with role := .supervisor }
    (s .releasing).Ready .c ∧ (s .releasing).Ready .a ∧ resourceOf 4 = some .carrier
      ∧ ((s .releasing).port .a).role = .control ∧ ((s .releasing).port .c).role = .supervisor
      ∧ ((s (.held .c 9 9 false)).lease .carrier).phase = .held .c 9 9 false
      ∧ (two.lease .carrier).phase = .held .b 9 9 false ∧ (two.port .b).role = .supervisor
      ∧ two.Ready .c ∧ (s (.held .a 9 9 false)).Ready .c
      ∧ ((s (.held .a 9 9 false)).lease .carrier).phase = .held .a 9 9 false
      ∧ ((s .releasing).lease .carrier).phase = .releasing := by
  decide +kernel

theorem witness_LeaseTickCountsDown :
    let s := (leaseDue State.reset).setLease .carrier ⟨.held .a 9 2 false, 1, []⟩
    State.reset.leaseClock.divider.due = false ∧ s.Awake ∧ s.leaseClock.divider.due = true
      ∧ (s.lease .carrier).phase = .held .a 9 2 false
      ∧ ∀ r q i k low, (s.lease r).phase = .held q i k low → 2 ≤ k := by
  refine ⟨rfl, by decide +kernel, rfl, by decide +kernel, fun r q i k low h => ?_⟩
  rcases r with n | _ | c
  · cases n <;> cases h
  · cases h; decide
  · cases c <;> cases h

theorem witness_LeaseExpiryEndsLease :
    let s := leased (leased (leaseDue State.reset) (.leg .l0) .a 1) (.leg .l1) .a 1
    let e := s.setLease (.leg .l0) ⟨.held .a 100 1 false, 1, []⟩
    e.LeasesOk ∧ State.reset.leaseClock.divider.due = false ∧ e.leaseClock.divider.due = true ∧ e.Awake ∧ (e.lease (.leg .l0)).phase = .held .a 100 1 false
      ∧ e.resourceAtRest (.leg .l0) = true
      ∧ (e.lease (.leg .l1)).phase = .held .a 100 50 false
      ∧ (e.port .a).presence.level = true ∧ (e.port .a).mask.lease = true
      ∧ (e.port .a).notices.length ≤ 9
      ∧ (failover ⟨.held .a 30 1 true, 8, []⟩ .none []).resourceAtRest (.leg .l0) = false := by
  exact ⟨leases_ok_at _ (by decide +kernel), by decide +kernel⟩

/-- Leg 1 held by Port A with generation 3, and the channel of a condition in QUAD with modulus 400. -/
def planned (phase : LegPhase) (queue : List Segment) : State :=
  withChan (planExample 9 phase queue) .c0 fun ch => { ch with
    config := { ch.config with mode := .quad, modulus := 400 } }

/-- A FLOAT segment, one period long, with an EITHER condition on channel 0. -/
def onTarget (target : Half) : Segment :=
  { plain .float (some 1) 5 .none false 3 with condition := some ⟨.c0, .either, target⟩ }

/-- A FLOAT segment of mark 1 for legs 0 and 1. -/
def onMark : Segment :=
  { plain .float (some 1) 5 .none false 3 with sync := some ⟨.m1, ⟨true, true, false, false⟩⟩ }

theorem witness_AppendChecks :
    let eight := List.replicate 8 tag11
    (planned .idle []).Ready .a ∧ legOf 1 = some .l1 ∧ (planned .idle []).Holds .a (.leg .l1) 3
      ∧ parseSegment .l1 3 [0xC2, 5, 0, 1, 0x02, 0x01, 0x8F] = some (onTarget 399)
      ∧ (1 : Byte).toNat ≤ 1 ∧ (onTarget 399).sync = none
      ∧ ((planned .idle []).chan .c0).config.mode = .quad
      ∧ (399 : Half).toNat < ((planned .idle []).chan .c0).config.modulus
      ∧ ((planned .idle []).leg .l1).phase.isTripped = false
      ∧ ((planned .idle (List.replicate 7 tag11)).leg .l1).queue.length < 8
      ∧ 8 ≤ ((planned .idle eight).leg .l1).queue.length ∧ (planned .idle eight).Ready .a
      ∧ ((planned (.tripped (record .trip1)) []).leg .l1).phase.isTripped = true
      ∧ (planned (.tripped (record .trip1)) []).Ready .a
      ∧ parseSegment .l1 3 [0xC2, 5, 0, 1, 0x02, 0x01, 0x90] = some (onTarget 400)
      ∧ ¬ (400 : Half).toNat < ((planned .idle []).chan .c0).config.modulus
      ∧ parseSegment .l1 3 [0xC1, 5, 0, 1, 1, 3] = some onMark
      ∧ ((planned .idle []).lease (.leg .l0)).holder? ≠ some .a := by
  decide +kernel

theorem witness_ReplacePlacesOne :
    let s := planned (runs tag10 0 .none) [tag11]
    s.Ready .a ∧ legOf 1 = some .l1 ∧ s.Holds .a (.leg .l1) 3
      ∧ parseSegment .l1 3 [0xC2, 5, 0, 1, 0x02, 0x01, 0x8F] = some (onTarget 399)
      ∧ (1 : Byte).toNat ≤ 1 ∧ (onTarget 399).sync = none
      ∧ (s.chan .c0).config.mode.counting = true
      ∧ (399 : Half).toNat < (s.chan .c0).config.modulus
      ∧ (s.leg .l1).phase.isTripped = false := by
  decide +kernel

theorem witness_FlushAndCut :
    let s := planned (runs tag10 0 .none) [tag11]
    s.Ready .a ∧ legOf 1 = some .l1 ∧ s.Holds .a (.leg .l1) 3
      ∧ (s.leg .l1).phase = .running ⟨tag10, 0, false, .none⟩
      ∧ (planned .idle []).Holds .a (.leg .l1) 3
      ∧ ∀ a, ((planned .idle []).leg .l1).phase ≠ .running a :=
  ⟨by decide +kernel, by decide, by decide +kernel, by decide +kernel, by decide +kernel,
    fun _ h => by cases h⟩

/-- Leg 1, held by Port A with generation 3, under CYCLE while TRIP0 is accepted active. -/
def underTrip0 (phase : LegPhase) (first : Cause := .trip1) : State :=
  ((planned phase []).updLeg .l1 fun u => { u with
    config := { u.config with response := .cycle }
    phase := match phase with
      | .tripped _ => .tripped (record first)
      | .idle | .running _ | .holding _ => phase }).setTrip
      ⟨⟨true, true, 0⟩, ⟨false, false, 0⟩, ⟨true, true, 0⟩⟩

theorem witness_SetLegTakesSettings :
    let s := underTrip0
    (s .idle).Ready .a ∧ legOf 1 = some .l1 ∧ (s .idle).Holds .a (.leg .l1) 3 ∧ (7 : Byte).toNat < 8
      ∧ ((planned (runs tag10 0 .none) []).leg .l1).phase.driving = true
      ∧ (planned (runs tag10 0 .none) []).Ready .a
      ∧ ((planned .idle []).leg .l1).phase.driving = false
      ∧ ((planned .idle []).leg .l1).config.response ≠ .cycle
      ∧ ((s .idle).leg .l1).phase = .idle ∧ ((s .idle).leg .l1).config.response = .cycle
      ∧ (s .idle).trip.trip0.level = true ∧ ((3 : Byte).getLsbD 2) = false
      ∧ ((s (.tripped (record .trip1))).leg .l1).phase = .tripped (record .trip1)
      ∧ (s (.tripped (record .trip1))).Ready .a := by
  decide +kernel

theorem witness_RearmReturnsLeg :
    let r : LegPhase := .tripped (record .trip1)
    let p : LegPhase := .tripped { record .trip1 with rearm := true }
    let stopped := (planned p []).setCarrier Carrier.reset
    let calm := (planned r []).setCarrier Carrier.reset
    legOf 1 = some .l1 ∧ (planned .idle []).Ready .a ∧ (planned .idle []).Holds .a (.leg .l1) 3
      ∧ ((planned .idle []).leg .l1).phase.isTripped = false
      ∧ (planned r []).Ready .a ∧ (planned r []).Holds .a (.leg .l1) 3
      ∧ ((planned r []).leg .l1).phase = r ∧ (planned r []).carrier.run = .running
      ∧ (planned p []).BoundaryNow ∧ ¬ (falling (planned p []) 700).BoundaryNow
      ∧ (falling (planned p []) 700).carrier.run = .running
      ∧ ((falling (planned p []) 700).leg .l1).phase = p
      ∧ (planned r []).trip.trip0.level = false ∧ (planned r []).trip.trip1.level = false
      ∧ (planned r []).trip.arm.level = true ∧ (underTrip0 r .escalated).trip.trip0.level = true
      ∧ ((underTrip0 r .escalated).leg .l1).phase = .tripped (record .escalated)
      ∧ calm.Ready .a ∧ calm.Holds .a (.leg .l1) 3 ∧ calm.carrier.run = .stopped
      ∧ (planned p []).Awake ∧ ((planned p []).leg .l1).phase = p
      ∧ stopped.Awake ∧ stopped.carrier.run = .stopped ∧ (stopped.leg .l1).phase = p
      ∧ (planned p []).hearsTrips .l1 .a = true ∧ (planned p []).hearsTrips .l1 .c = true
      ∧ ((planned p []).port .c).presence.level = true ∧ ((planned p []).port .c).mask.trip = true
      ∧ ((planned p []).port .c).notices.length ≤ 4 := by
  decide +kernel

theorem witness_BoundaryOfTimerAndTripUnit :
    State.reset.Awake ∧ State.reset.carrier.run = .stopped
      ∧ (falling (running 9) 700).Awake ∧ (falling (running 9) 700).carrier.run = .running
      ∧ ¬ (falling (running 9) 700).BoundaryNow ∧ (limited 1).Awake ∧ (limited 1).BoundaryNow
      ∧ ((limited 1).leg .l1).escalates = false ∧ ((limited 1).leg .l1).phase.isTripped = false
      ∧ ((after .periodBoundary (limited 1)).leg .l1).phase.driving = true
      ∧ ((after .periodBoundary (limited 1)).leg .l0).phase.driving = false
      ∧ ((limited 1).lease (.leg .l1)).phase ≠ .releasing
      ∧ (let s := leased lowOn (.leg .l0) .a 1
        s.Awake ∧ s.BoundaryNow ∧ (s.leg .l0).escalates = false
          ∧ (s.leg .l0).phase.isTripped = false ∧ (s.leg .l0).limited = false
          ∧ ((after .periodBoundary s).leg .l0).stage.cycleCut = true
          ∧ (s.lease (.leg .l0)).holder? = some .a ∧ (s.port .a).presence.level = true
          ∧ (s.port .a).mask.trip = true ∧ (s.port .a).notices.length ≤ 4)
      ∧ ((limited 1).leg .l1).limited = true := by
  decide +kernel

theorem ends_by_cut (seg : Segment) (k : Nat) : Active.Ends ⟨seg, 0, false, .host⟩ k :=
  .inr (.inr (.inr fun h => by cases h))

theorem goes_on (k : Nat) : ¬ Active.Ends ⟨tag10, 1, false, .none⟩ k := by
  rintro (⟨len, h, hlen⟩ | h | ⟨h, -⟩ | h)
  · simp only [tag10, plain, Option.some.injEq] at h; subst h; exact absurd hlen (by decide)
  · cases h
  · simp [tag10, plain] at h
  · exact h rfl

theorem witness_BoundaryOfLeg :
    let s := planExample 9
    ((s .idle []).Awake ∧ (s .idle []).BoundaryNow
      ∧ ((s .idle []).leg .l1).escalates = false
      ∧ ((s (runs tag10 1 .none) [synced 9 3]).leg .l1).phase = .running ⟨tag10, 1, false, .none⟩)
      ∧ ¬ Active.Ends ⟨tag10, 1, false, .none⟩
          ((s (runs tag10 1 .none) [synced 9 3]).leg .l1).queue.length
      ∧ ((s .idle []).leg .l1).Free ∧ ((s .idle []).leg .l1).queue = []
      ∧ ((s (runs tag10 0 .host) [tag11]).leg .l1).Free
      ∧ ((s (runs tag10 0 .host) [tag11]).leg .l1).queue = tag11 :: []
      ∧ tag11.sync = none
      ∧ ((s (.tripped (record .trip1)) []).leg .l1).phase = .tripped (record .trip1)
      ∧ ∃ a len, ((s (runs tag10 2 .none) []).leg .l1).phase = .running a ∧ a.seg.length = some len
          ∧ len ≤ min 4095 (a.elapsed + 1) :=
  ⟨by decide +kernel, goes_on _, trivial, rfl, ends_by_cut _ _, rfl, by decide +kernel, rfl,
    ⟨tag10, 2, false, .none⟩, 3, rfl, rfl, by decide⟩

/-- Legs 0 and 1 with heads of mark 2 and legs 0, 1, 2; leg 2 with the head given. -/
def group (third : List Segment) (wait limit : Nat) : State :=
  let s := withPlan (withPlan (withPlan (leased (running 200) (.leg .l0) .a 5)
    .l0 .idle [synced 30 5]) .l1 .idle [synced 31 5]) .l2 .idle third
  (s.setCarrier { s.carrier with syncLimit := limit }).setSync
    (.ofFn fun m => if m = .m2 then ⟨wait, ⟨false, false, false, false⟩⟩ else s.mark m)

theorem witness_SegmentNoticesAtBoundary :
    let s := planExample 9
    let u := fun (ph : LegPhase) (q : List Segment) => (s ph q).leg .l1
    let f : SyncField := ⟨.m2, ⟨true, true, true, false⟩⟩
    let joins := group [synced 32 5] 0 64
    let holds := group [] 63 64
    let breaks := group [] 64 64
    ((s .idle [tag10]).Awake ∧ (s .idle [tag10]).BoundaryNow
      ∧ (s .idle [tag10]).trip.trip0.level = false ∧ (u .idle [tag10]).escalates = false
      ∧ ((s .idle [tag10]).lease (.leg .l1)).holder? = some .a
      ∧ ((s .idle [tag10]).port .a).presence.level = true
      ∧ ((s .idle [tag10]).port .a).mask.segment = true
      ∧ ((s .idle [tag10]).port .a).notices.length ≤ 4 ∧ tag10.sync = none
      ∧ joins.Awake ∧ joins.BoundaryNow ∧ joins.trip.trip0.level = false
      ∧ (joins.lease (.leg .l0)).holder? = some .a ∧ (joins.port .a).presence.level = true
      ∧ (joins.port .a).mask.segment = true ∧ (joins.port .a).notices.length ≤ 4
      ∧ (holds.mark f.mark).wait < holds.carrier.syncLimit
      ∧ breaks.carrier.syncLimit ≤ (breaks.mark f.mark).wait)
      ∧ (u .idle [tag10]).Free ∧ (u .idle [tag10]).queue = tag10 :: []
      ∧ ¬ Active.Ends ⟨tag10, 1, false, .none⟩ (u (runs tag10 1 .none) []).queue.length
      ∧ (u (runs tag10 0 .host) []).Free ∧ (u (runs tag10 0 .host) []).queue = []
      ∧ (u (runs tag10 0 .host) [tag11]).queue = tag11 :: []
      ∧ (joins.leg .l0).Free ∧ (joins.leg .l0).queue = synced 30 5 :: [] ∧ (synced 30 5).sync = some f
      ∧ (∀ k, (joins.leg k).escalates = false)
      ∧ (∀ k, f.legs.get k = true → (joins.leg k).ReadyFor f)
      ∧ (∀ k, (holds.leg k).escalates = false)
      ∧ ¬ (∀ k, f.legs.get k = true → (holds.leg k).ReadyFor f)
      ∧ ¬ ∀ k, f.legs.get k = true → (breaks.leg k).ReadyFor f :=
  ⟨by decide +kernel, trivial, rfl, goes_on _, ends_by_cut _ _, rfl, rfl, trivial, rfl, rfl,
    fun k => by cases k <;> rfl, fun k h => (by cases k <;> first | exact ⟨rfl, trivial⟩ | cases h),
    fun k => by cases k <;> rfl, fun h => (by cases (h .l2 rfl).1), fun h => (by cases (h .l2 rfl).1)⟩

theorem witness_JointAdvance :
    let s := group [synced 32 5] 0 64
    s.Awake ∧ s.BoundaryNow ∧ (∀ n, (s.leg n).escalates = false)
      ∧ (s.leg .l0).queue = synced 30 5 :: [] ∧ (synced 30 5).sync = some ⟨.m2, ⟨true, true, true, false⟩⟩
      ∧ (s.leg .l0).Free ∧ (s.leg .l2).ReadyFor ⟨.m2, ⟨true, true, true, false⟩⟩ :=
  ⟨by decide +kernel, by decide +kernel, fun n => by cases n <;> rfl, rfl, rfl, trivial, rfl, trivial⟩

theorem witness_HoldOrBreak :
    let f : SyncField := ⟨.m2, ⟨true, true, true, false⟩⟩
    let s := group [] 63 64
    let b := group [] 64 64
    (s.Awake ∧ s.BoundaryNow ∧ (s.mark f.mark).wait < s.carrier.syncLimit
      ∧ b.Awake ∧ b.BoundaryNow ∧ b.carrier.syncLimit ≤ (b.mark f.mark).wait
      ∧ (b.lease (.leg .l0)).holder? = some .a ∧ (b.port .a).presence.level = true
      ∧ (b.port .a).mask.sync = true ∧ (b.port .a).notices.length ≤ 4)
      ∧ (∀ k, (s.leg k).escalates = false)
      ∧ (s.leg .l0).queue = synced 30 5 :: [] ∧ (synced 30 5).sync = some f
      ∧ f.legs.get .l0 = true ∧ (s.leg .l0).Free
      ∧ (∃ k, f.legs.get k = true ∧ ¬ (s.leg k).ReadyFor f)
      ∧ (∀ k, (b.leg k).escalates = false)
      ∧ (b.leg .l0).queue = synced 30 5 :: [] ∧ (b.leg .l0).Free
      ∧ ∃ k, f.legs.get k = true ∧ ¬ (b.leg k).ReadyFor f :=
  ⟨by decide +kernel, fun n => by cases n <;> rfl, rfl, rfl, rfl, trivial,
    ⟨.l2, rfl, fun h => by cases h.1⟩, fun n => by cases n <;> rfl, rfl, trivial,
    .l2, rfl, fun h => by cases h.1⟩

theorem witness_EscalationTrips :
    let u := (limited 2).leg .l1
    (limited 2).Awake ∧ (limited 2).BoundaryNow ∧ u.phase.driving = true
      ∧ u.limited = true ∧ u.config.escalation ≠ 0
      ∧ u.config.escalation ≤ min 255 (u.runCount + 1)
      ∧ ((limited 2).lease (.leg .l1)).holder? = some .a ∧ ((limited 2).port .a).presence.level = true
      ∧ ((limited 2).port .a).mask.trip = true ∧ ((limited 2).port .a).notices.length ≤ 4
      ∧ (limited 2).hearsTripOf .l1 .a = true
      ∧ u.phase = runs (plain (.modulate 900 .both) (some 4000) 7 .none false 6) 10 .none := by
  decide +kernel

theorem witness_TripReachesEveryLeg :
    let s := withPlan ((running 9).setLease (.leg .l0) ⟨.releasing, 1, [⟨.b, 40⟩]⟩) .l0
      (.holding .idlePattern) []
    let r := withPlan s .l1 (.tripped (record .trip1)) []
    s.Awake ∧ s.trip.trip1.level = false ∧ s.trip.arm.level = true
      ∧ (s.leg .l0).phase.isTripped = false ∧ (s.lease (.leg .l0)).phase = .releasing
      ∧ (s.lease (.leg .l0)).waiters = ⟨.b, 40⟩ :: [] ∧ (s.leg .l0).phase = .holding .idlePattern
      ∧ s.hearsTripOf .l0 .b = true ∧ s.hearsTripOf .l0 .c = true
      ∧ s.hearsTripOf .l0 .a = false
      ∧ (s.port .b).presence.level = true ∧ (s.port .b).mask.trip = true
      ∧ (s.port .b).mask.lease = true ∧ (s.port .b).notices.length ≤ 8
      ∧ r.Awake ∧ (r.leg .l1).phase.isTripped = true := by
  decide +kernel

theorem witness_FurtherCauseOfTrippedLeg :
    let s := withPlan (leased (running 9) (.leg .l1) .a 3) .l1 (.tripped (record .trip1)) []
    let w := underTrip0 (.tripped (record .trip1))
    let cfg : LegConfig := ⟨9, .low, .low, .latch, 0⟩
    s.Awake ∧ (s.leg .l1).phase = .tripped (record .trip1) ∧ s.trip.trip1.level = false
      ∧ s.trip.arm.level = true ∧ s.trip.trip0.level = false ∧ (s.leg .l1).config.response = .latch
      ∧ w.Awake ∧ (w.leg .l1).phase = .tripped (record .trip1) ∧ legOf 1 = some .l1 ∧ w.Ready .a
      ∧ w.Holds .a (.leg .l1) 3 ∧ legConfigOf 9 3 0 = some cfg
      ∧ (w.leg .l1).config.response = .cycle ∧ cfg.response = .latch
      ∧ w.trip.trip0.level = true := by
  decide +kernel

theorem witness_Trip0LatchesOrCuts :
    let s := leased (withPlan (running 9) .l1 (runs tag10 0 .none) []) (.leg .l1) .a 3
    let c := s.updLeg .l1 fun u => { u with config := { u.config with response := .cycle } }
    let d := c.updLeg .l0 fun u => { u with config := { u.config with response := .cycle } }
    let e := d.updLeg .l0 fun u => { u with phase := .tripped (record .trip1) }
    s.Awake ∧ s.trip.trip0.level = false ∧ (s.leg .l1).config.response = .latch
      ∧ (s.leg .l1).phase.isTripped = false ∧ s.hearsTripOf .l1 .a = true
      ∧ s.hearsTripOf .l1 .c = true ∧ c.Awake ∧ (c.leg .l1).config.response = .cycle
      ∧ (c.leg .l1).phase.driving = true ∧ (c.lease (.leg .l1)).holder? = some .a
      ∧ (c.leg .l1).limited = false ∧ (c.leg .l1).runCount = 0
      ∧ (c.port .a).presence.level = true ∧ (c.port .a).mask.trip = true
      ∧ (c.port .a).notices.length ≤ 8 ∧ (d.leg .l0).config.response = .cycle
      ∧ (d.leg .l0).phase = .idle ∧ (e.leg .l0).phase = .tripped (record .trip1)
      ∧ (record .trip1).first ≠ .escalated := by
  decide +kernel

/-- Leg 0 with a stage whose sides stand as given. -/
def staged (high low : SideState) : State :=
  State.reset.updLeg .l0 fun u => { u with stage := ⟨false, false, high, low⟩ }

theorem witness_SideTurnsOnAfterDeadTime :
    let on : SideState := ⟨true, false, 60⟩
    let off : SideState := ⟨false, false, 0⟩
    let s := staged on off
    let r := staged off on
    s.Awake ∧ (s.leg .l0).config.deadTime = 60 ∧ s.due = [] ∧ (s.leg .l0).stage.high = on
      ∧ (s.leg .l0).stage.low.demand = false ∧ (r.leg .l0).stage.low = on
      ∧ (r.leg .l0).stage.high.demand = false ∧ r.Awake ∧ r.due = [] ∧ s.pending = []
      ∧ (after (.sideTurnOn .l0 .high) s).gateHigh .l0 = true
      ∧ ((staged ⟨true, false, 59⟩ off).leg .l0).stage.high.count < 60
      ∧ (staged ⟨true, false, 59⟩ off).Awake ∧ (staged ⟨true, false, 59⟩ off).due = []
      ∧ ((staged ⟨true, true, 60⟩ off).leg .l0).stage.high.driven = true := by
  decide +kernel

/-- R62: SIDE_TURN_ON is the sample at which a side turns on, with one more on its count, and no other. -/
theorem test_side_turn_on :
    ((after (.sideTurnOn .l0 .high) (staged ⟨true, false, 60⟩ ⟨false, false, 0⟩)).leg .l0).stage.high
        = ⟨true, true, 61⟩
      ∧ ((after (.sideTurnOn .l0 .high) (staged ⟨true, false, 59⟩ ⟨false, false, 0⟩)).leg .l0).stage.high
        = ⟨true, false, 59⟩ := by
  decide +kernel

/-- The carrier RUNNING with period 16. -/
def ticking (m : CarrierMode) (slope : Slope) (counter dwell : Nat) (leadIn : Bool) : State :=
  State.reset.setCarrier { Carrier.reset with
    run := .running, mode := m, active := 16, preload := 16, slope := slope, counter := counter
    dwell := dwell, leadIn := leadIn }

theorem witness_CarrierTickCounts :
    State.reset.Awake ∧ State.reset.carrier.run = .stopped
      ∧ (ticking .edge .rising 15 0 false).Awake
      ∧ (ticking .edge .rising 15 0 false).carrier.divider.due = true
      ∧ ((ticking .edge .rising 15 0 false).setCarrier { Carrier.reset with
          run := .running, divider := ⟨1, true⟩ }).carrier.divider.due = false
      ∧ (ticking .edge .rising 15 0 false).carrier.counter < 16
      ∧ 16 ≤ (ticking .edge .rising 16 0 false).carrier.counter
      ∧ 1 ≤ (ticking .center .falling 1 0 false).carrier.counter
      ∧ (ticking .center .falling 0 15 true).carrier.dwell < 16
      ∧ 16 ≤ (ticking .center .falling 0 16 true).carrier.dwell
      ∧ (ticking .center .falling 0 0 false).carrier.leadIn = false
      ∧ (ticking .center .rising 14 0 false).carrier.counter + 1 < 16
      ∧ 16 ≤ (ticking .center .rising 15 0 false).carrier.counter + 1
      ∧ ((planExample 9 (runs tag10 0 .none) []).leg .l1).phase
        = .running ⟨tag10, 0, false, .none⟩
      ∧ tag10.drive = .modulate 900 .both := by
  decide +kernel

/-- Port A holds CARRIER with generation 1, with the carrier RUNNING or after reset. -/
def carrierHeld (s : State) : State := leased s .carrier .a 1

theorem witness_CarrierSettings :
    (carrierHeld State.reset).Ready .a ∧ (carrierHeld State.reset).Holds .a .carrier 1
      ∧ (carrierHeld State.reset).carrier.run = .stopped ∧ 16 ≤ (16 : Half).toNat
      ∧ 1 ≤ (1 : Half).toNat ∧ (1023 : Half).toNat ≤ 1023 ∧ (1 : Byte).toNat ≤ 1
      ∧ (7 : Byte).toNat = (7 : Fin 8).val
      ∧ (∃ n, ((carrierHeld (planExample 9 (runs tag10 0 .none) [])).leg n).phase.driving = true)
      ∧ (carrierHeld (running 9)).carrier.run = .running
      ∧ ¬ ∃ n, ((carrierHeld (running 9)).leg n).phase.driving = true :=
  ⟨by decide +kernel, by decide +kernel, by decide +kernel, by decide, by decide, by decide, by decide,
    by decide, ⟨.l1, by decide +kernel⟩, by decide +kernel, fun ⟨n, h⟩ => by cases n <;> cases h⟩

theorem witness_StopHaltsCarrier :
    let s := carrierHeld (planExample 9 (.tripped { record .trip1 with rearm := true }) [])
    s.Ready .a ∧ s.Holds .a .carrier 1 ∧ s.carrier.run = .running
      ∧ (∀ n, (s.leg n).phase.driving = false) ∧ (s.leg .l1).phase.rearmPending = true
      ∧ (s.hearsTrips .l1 .c = true ∧ (s.port .c).presence.level = true ∧ (s.port .c).mask.trip = true
        ∧ (s.port .c).notices.length ≤ 12)
      ∧ (carrierHeld State.reset).carrier.run = .stopped
      ∧ (∃ n, ((carrierHeld (planExample 9 (runs tag10 0 .none) [])).leg n).phase.driving = true)
      ∧ ∀ n rec, ((carrierHeld (running 9)).leg n).phase = .tripped rec → rec.rearm = false :=
  ⟨by decide +kernel, by decide +kernel, by decide +kernel, fun n => by cases n <;> rfl,
    by decide +kernel, by decide +kernel, by decide +kernel, ⟨.l1, by decide +kernel⟩,
    fun n _ h => by cases n <;> cases h⟩

theorem witness_ChannelCommands :
    let s := leased State.reset (.chan .c1) .a 1
    s.Ready .a ∧ chanOf 1 = some .c1 ∧ s.Holds .a (.chan .c1) 1
      ∧ chanConfigOf 1 3 0xFFFF 6 7 = some ⟨.quad, .w16, 65536, .latchAndZero, .falling, 7⟩
      ∧ (0xFFFF : Half).toNat < (s.chan .c1).config.modulus ∧ (31 : Byte).toNat < 32 := by
  decide +kernel

theorem witness_StepDirCounts :
    let s := inMode State.reset .c0 .stepDir
    let h := withChan s .c0 fun ch => { ch with x := .settled true, phase := 1, divider := ⟨2, false⟩ }
    s.Awake ∧ (s.chan .c0).divider.due = true ∧ (h.chan .c0).divider.due = false
      ∧ (s.chan .c0).config.mode = .stepDir ∧ (s.chan .c0).config.edge = .rising
      ∧ (s.chan .c0).x.level = false ∧ (s.chan .c0).stalledNow = false
      ∧ ((stalledByRow s .c0).chan .c0).stalledNow = true ∧ (stalledByRow s .c0).Awake
      ∧ h.Awake ∧ (h.chan .c0).config.mode = .stepDir
      ∧ (h.chan .c0).config.edge = .rising ∧ (h.chan .c0).x.level = true := by
  decide +kernel

theorem witness_UpDownCounts :
    let s := inMode State.reset .c0 .upDown
    let h := withChan s .c0 fun ch => { ch with x := .settled true, phase := 1, divider := ⟨2, false⟩ }
    s.Awake ∧ (s.chan .c0).divider.due = true ∧ (h.chan .c0).divider.due = false
      ∧ (s.chan .c0).config.mode = .upDown ∧ (s.chan .c0).config.edge = .rising
      ∧ (s.chan .c0).x.level = false ∧ (s.chan .c0).y.level = false ∧ (s.chan .c0).stalledNow = false
      ∧ ((stalledByRow s .c0).chan .c0).stalledNow = true ∧ (stalledByRow s .c0).Awake ∧ h.Awake
      ∧ (h.chan .c0).config.mode = .upDown ∧ (h.chan .c0).x.level = true := by
  decide +kernel

theorem witness_QuadCounts :
    let s := inMode State.reset .c0 .quad
    s.Awake ∧ (s.chan .c0).divider.due = true ∧ (s.chan .c0).stalledNow = false
      ∧ ((stalledByRow s .c0).chan .c0).stalledNow = true ∧ (stalledByRow s .c0).Awake
      ∧ (s.chan .c0).tickJoinsStep = false ∧ (stepBesideTick.chan .c0).tickJoinsStep = true
      ∧ ((quad false false 0 0 .none 0).chan .c0).divider.due = false
      ∧ ((quad false false 0 0 .none 0).chan .c0).config.mode = .quad
      ∧ (s.chan .c0).phase = phaseOf (s.chan .c0).x.level (s.chan .c0).y.level
      ∧ (s.chan .c0).config.mode = .quad ∧ true ≠ (s.chan .c0).x.level
      ∧ false = (s.chan .c0).y.level ∧ true ≠ (s.chan .c0).y.level
      ∧ (State.reset.chan .c0).config.mode = .off ∧ true ≠ (State.reset.chan .c0).z.level := by
  decide +kernel

theorem witness_IndexAndCaptureEdges :
    let s := quad true false 7 0 .down 120
    let c := fun (s : State) => withChan s .c1 fun ch => { ch with divider := ⟨2, false⟩ }
    let w := c (inMode State.reset .c1 .capture)
    let f := withChan w .c1 fun ch => { ch with x := .settled true, phase := 1 }
    s.Awake ∧ (s.chan .c0).config.mode.counting = true ∧ (s.chan .c0).config.indexUse ≠ .off
      ∧ (s.chan .c0).z.level = false
      ∧ (s.chan .c0).phase = phaseOf (s.chan .c0).x.level (s.chan .c0).y.level
      ∧ (s.chan .c0).divider.due = false ∧ ((tickNow s .c0).chan .c0).divider.due = true
      ∧ (w.chan .c1).divider.due = false ∧ ((capturing true 0 0 0 false).chan .c1).divider.due = true
      ∧ ((c (capturing true 0 0 0 false)).chan .c1).divider.due = false ∧ w.Awake ∧ (w.chan .c1).config.mode = .capture ∧ (w.chan .c1).capture = .waitFirst
      ∧ (w.chan .c1).config.edge = .rising ∧ (w.chan .c1).x.level = false
      ∧ (f.chan .c1).capture = .waitFirst ∧ (f.chan .c1).x.level = true
      ∧ ((c (capturing true 1500 0 0 false)).chan .c1).capture = .measuring
      ∧ ((c (capturing true 1500 0 0 false)).chan .c1).x.level = true
      ∧ ((c (capturing false 6000 1500 0 true)).chan .c1).capture = .measuring
      ∧ ((c (capturing false 6000 1500 0 true)).chan .c1).x.level = false := by
  decide +kernel

theorem witness_IntervalTimerCounts :
    let q := fun (k : Nat) => tickNow (quad false false 0 0 .none k) .c0
    ((quad false false 0 0 .none 0).chan .c0).divider.due = false ∧ ((q 0).chan .c0).divider.due = true
      ∧ ((q 0).chan .c0).accepting = false ∧ ((q 0).chan .c0).timer ≠ 65534
      ∧ (State.reset.chan .c0).divider.due = true
      ∧ ((capturing false 65534 1500 0 true).chan .c1).divider.due = true ∧ (q 0).Awake ∧ ((q 65533).chan .c0).timerRuns = true ∧ ((q 65533).chan .c0).timer < 65534
      ∧ (State.reset.chan .c0).timerRuns = false ∧ 65535 ≤ ((q 65535).chan .c0).timer
      ∧ ((q 65534).chan .c0).config.mode.counting = true ∧ ((q 65534).chan .c0).timer = 65534
      ∧ ((q 65534).chan .c0).stepFallsDue = false ∧ (stepBesideTick.chan .c0).stepFallsDue = true
      ∧ (stepBesideTick.chan .c0).timer = 65534 ∧ (stepBesideTick.chan .c0).divider.due = true
      ∧ stepBesideTick.Awake ∧ (stepBesideTick.chan .c0).config.mode.counting = true
      ∧ ((capturing false 65534 1500 0 true).chan .c1).config.mode = .capture
      ∧ ((capturing false 65534 1500 0 true).chan .c1).capture = .measuring
      ∧ ((capturing false 65534 1500 0 true).chan .c1).timer = 65534
      ∧ (capturing false 65534 1500 0 true).Awake := by
  decide +kernel

/-- The part after reset with one event waiting, whose step answers a next state. -/
def waiting : State := State.reset.setPending [.nop .a 1]

theorem witness_PortsKept :
    waiting.Quiet ∧ waiting.PortsOk ∧ waiting.AbsentHoldsNothing ∧ waiting.EnginesBusy
      ∧ ∃ t, step waiting = .next t := by
  refine ⟨by decide +kernel, fun p => ⟨?_, ?_, ?_⟩, fun p h => ?_, fun p h => ?_, _, rfl⟩
  · cases p <;> exact ⟨by decide, by decide, by decide, by decide⟩
  · cases p <;> exact fun h => by cases h
  · cases p <;> exact fun h => by cases h
  · cases p <;> cases h
  · cases p <;> exact absurd rfl h

theorem witness_LeasesAndPlansKept :
    waiting.LeasesOk ∧ waiting.PlansFenced ∧ ∃ t, step waiting = .next t :=
  ⟨leases_ok_at _ (by decide +kernel), fun n => by cases n <;> exact ⟨rfl, rfl⟩, _, rfl⟩

theorem witness_LegsAndStagesKept :
    waiting.LegsOk ∧ waiting.StagesFollow ∧ ∃ t, step waiting = .next t := by
  refine ⟨legs_ok_at _ (by decide +kernel), fun n => ?_, _, rfl⟩
  unfold LegUnit.StageFollows
  cases n <;> decide +kernel

theorem witness_TimerSyncAndChannelsKept :
    waiting.CarrierOk ∧ waiting.SyncOk ∧ waiting.ChannelsOk ∧ ∃ t, step waiting = .next t := by
  refine ⟨⟨?_, fun _ n => by cases n <;> rfl⟩, fun m => ⟨?_, fun n h => ?_⟩, fun c => ?_, _, rfl⟩
  · unfold Carrier.Ok; decide +kernel
  · cases m <;> decide +kernel
  · cases m <;> cases n <;> cases h
  · unfold Channel.Ok; cases c <;> decide +kernel

end Sys2Proof.Tests
end

section
/-! PROOFS. SEIZE of a FREE lease (R105): what the Lease Table answers, and what a fenced plan leaves on a
FREE leg. -/

namespace Sys2Proof.Machine

open Sys2Proof

/-- An interval within 1 to 10000 lease ticks is read as its number (R81, R104). -/
theorem intervalOf_inRange {i : Half} (hlow : 1 ≤ i.toNat) (hhigh : i.toNat ≤ 10000) :
    intervalOf i = some i.toNat := by
  simp [intervalOf, hlow, hhigh]

/-- The model's next generation is that of the cycle 1 to 65535 (R76). -/
theorem Lease.genAfter_eq_nextGen (l : Lease) : l.genAfter = nextGen l.gen := rfl

/-- An item of two bytes holds a 16-bit value as it is. -/
theorem item2_toNat (h : Half) : item2 h.toNat = be16 h := by
  simp [item2]

/-- An answer joins a response queue and touches no leg. -/
@[simp] theorem State.answered_leg (s : State) (p : Port) (a : Response) (n : Leg) :
    (s.answered p a).leg n = s.leg n := rfl

theorem LegUnit.atRest_iff (u : LegUnit) :
    u.atRest = true ↔ u.phase = .idle ∨ ∃ rec, u.phase = .tripped rec := by
  cases h : u.phase <;> simp [LegUnit.atRest, h]

/-- A FREE leg of a part with fenced plans is at rest, with nothing pending (R97, R105). -/
theorem State.PlansFenced.leg_of_free {s : State} (hs : s.PlansFenced) {n : Leg}
    (hfree : (s.lease (.leg n)).phase = .free) :
    (s.leg n).atRest = true ∧ (s.leg n).queue = [] := by
  have hplan := hs n
  simpa only [planFenced, hfree] using hplan

/-- A grant on a record with no waiter leaves none. -/
theorem Lease.grant_of_no_waiters (l : Lease) (p : Port) (interval : Nat) (hw : l.waiters = []) :
    l.grant p interval = ⟨.held p interval interval false, l.genAfter, []⟩ := by
  simp [Lease.grant, Lease.genAfter_eq_nextGen, hw]

/-- A seizure of a FREE lease names the state FREE and no previous holder (R105). -/
theorem seizeData_of_free {l : Lease} (hfree : l.phase = .free) (i : Half) :
    seizeData l i.toNat = be16 l.genAfter ++ be16 i ++ [0, 0] := by
  simp [seizeData, Lease.genAfter_eq_nextGen, item2_toNat, hfree, Lease.holder?, LeasePhase.code,
    portCode, item1]

/-- A SUPERVISOR's SEIZE that finds the lease FREE is a grant and nothing else: no flush-and-cut, no notice
(R105). -/
theorem doSeize_of_free {s : State} {p : Port} {b : Byte} {i : Half} {r : Resource}
    (hrole : (s.port p).role = .supervisor) (hr : resourceOf b = some r) (hlow : 1 ≤ i.toNat)
    (hhigh : i.toNat ≤ 10000) (hfree : (s.lease r).phase = .free) :
    doSeize p b i s = ⟨s.grantTo r p i.toNat, .ok, seizeData (s.lease r) i.toNat⟩ := by
  simp [doSeize, hr, intervalOf_inRange hlow hhigh, hrole, hfree]

/-- The step of such a SEIZE, whoever waits on the record: the grant, and the answer of R105. -/
theorem exec_seize_of_free {s : State} {p : Port} {seq b : Byte} {i : Half} {r : Resource}
    (hready : s.Ready p) (hrole : (s.port p).role = .supervisor) (hr : resourceOf b = some r)
    (hlow : 1 ≤ i.toNat) (hhigh : i.toNat ≤ 10000) (hfree : (s.lease r).phase = .free) :
    exec (.seize p seq b i) s
      = .next ((s.setLease r ((s.lease r).grant p i.toNat)).answered p
          ⟨seq, 0x14, .ok, be16 (s.lease r).genAfter ++ be16 i ++ [0, 0]⟩) := by
  have hdo := doSeize_of_free hrole hr hlow hhigh hfree
  have hquiet : (doSeize p b i s).state.outbox = [] := by
    obtain ⟨-, -, -, -, hq⟩ := hready
    simp [hdo, State.grantTo, hq]
  calc exec (.seize p seq b i) s
      = .next (s.submit (.seize p seq b i) (doSeize p b i)) := rfl
    _ = _ := by
      rw [State.submit_quiet hready rfl _ hquiet, hdo, seizeData_of_free hfree]
      rfl

/-- Settles O28: the step is the grant of `exec_seize_of_free`, which leaves the legs alone; that a FREE leg
is at rest with an empty queue is what its fenced plan says. -/
theorem seizeOfFreeLease : Obligations.SeizeOfFreeLease := by
  intro p seq b i g r s hready hrole hr hlow hhigh hlease next
  have hfree : (s.lease r).phase = .free := by rw [hlease]
  have hgen : (s.lease r).genAfter = next := by rw [hlease]; rfl
  have hwaiters : (s.lease r).waiters = [] := by rw [hlease]
  have hexec := exec_seize_of_free (seq := seq) hready hrole hr hlow hhigh hfree
  rw [Lease.grant_of_no_waiters _ _ _ hwaiters, hgen] at hexec
  refine ⟨_, hexec, rfl, ?_⟩
  rintro hplans n rfl
  obtain ⟨hrest, hqueue⟩ := hplans.leg_of_free hfree
  exact ⟨(LegUnit.atRest_iff _).mp hrest, hqueue, by simp⟩

end Sys2Proof.Machine
end

section
/-! PROOFS. A cause on a TRIPPED leg (R111, R114): what a trip shows of the other legs, what a cause that
reaches all legs leaves of one of them, and the four ways in which a cause arises between boundaries. -/

namespace Sys2Proof.Machine

open Sys2Proof

/-! ### What an operation shows of one leg -/

/-- What a state shows of a leg: the leg itself, and the copies on their way of notices about it. -/
def State.aboutLeg (s : State) (n : Leg) : LegUnit × List Outgoing :=
  (s.leg n, s.outbox.filter fun o => o.notice.subject = .leg n)

theorem State.leg_of_aboutLeg_eq {s t : State} {n : Leg} (h : t.aboutLeg n = s.aboutLeg n) :
    t.leg n = s.leg n :=
  congrArg Prod.fst h

/-- A notice with another subject shows nothing of the leg. -/
theorem State.aboutLeg_post {s : State} {n : Leg} {r : Source} {ps : List Port} {x : Notice}
    (h : x.subject ≠ .leg n) : (s.post r ps x).aboutLeg n = s.aboutLeg n := by
  have hnone : ((ps.filter fun p => (s.port p).presence.level).map fun p => Outgoing.mk r p x).filter
      (fun o => o.notice.subject = .leg n) = [] := by
    simp [List.filter_map, Function.comp_def, h]
  simp only [State.aboutLeg, State.post_leg, State.post_outbox, List.filter_append, hnone, List.append_nil]

theorem State.aboutLeg_changeLeg {s : State} {n k : Leg} {f : LegUnit → LegUnit} (h : k ≠ n) :
    (s.changeLeg k f).aboutLeg n = s.aboutLeg n := by
  simp [State.aboutLeg, h.symm]

@[simp] theorem State.aboutLeg_unhold (s : State) (n k : Leg) :
    (s.unhold k).aboutLeg n = s.aboutLeg n := by
  simp [State.aboutLeg]

/-- A lease that passes on shows nothing of any leg: LEASE_GRANTED is about the resource (R100). -/
@[simp] theorem State.aboutLeg_passOn (s : State) (r : Resource) (n : Leg) :
    (s.passOn r).aboutLeg n = s.aboutLeg n := by
  cases hw : (s.lease r).waiters with
  | nil => simp [State.passOn_nil _ _ hw, State.aboutLeg, State.updLease]
  | cons w ws =>
    rw [State.passOn_cons _ _ w ws hw, State.postGranted, State.aboutLeg_post (by simp)]
    simp [State.aboutLeg, State.updLease]

@[simp] theorem State.aboutLeg_legReport (s : State) (n k : Leg) :
    (s.legReport k).aboutLeg n = s.aboutLeg n := by
  by_cases h : (s.lease (.leg k)).phase = .releasing
  · simp [State.legReport_releasing _ _ h]
  · rw [State.legReport_eq_self _ _ h]

/-! ### Causes and cuts of another leg -/

/-- A trip shows nothing of another leg (R112). -/
theorem State.aboutLeg_latchTrip {s : State} {n k : Leg} {c : Cause} (h : k ≠ n) :
    (s.latchTrip k c).aboutLeg n = s.aboutLeg n := by
  unfold State.latchTrip
  dsimp only
  rw [State.aboutLeg_post (by simpa using h), State.aboutLeg_legReport, State.aboutLeg_changeLeg h]
  cases (s.leg k).phase with
  | holding held => exact s.aboutLeg_unhold n k
  | idle | running _ | tripped _ => rfl

/-- A cause shows nothing of another leg (R111, R114). -/
theorem State.aboutLeg_causeArises {s : State} {n k : Leg} {c : Cause} (h : k ≠ n) :
    (s.causeArises k c).aboutLeg n = s.aboutLeg n := by
  cases hp : (s.leg k).phase with
  | tripped r =>
    rw [State.causeArises_tripped _ _ _ r hp]
    simp [State.aboutLeg, h.symm]
  | idle | running _ | holding _ =>
    rw [State.causeArises_latches _ _ _ (by rw [hp]; rfl), State.aboutLeg_latchTrip h]

/-- A cycle cut shows nothing of another leg: LIMIT_START is about the leg cut (R117, R119). -/
theorem State.aboutLeg_setCut {s : State} {n k : Leg} (h : k ≠ n) :
    (s.setCut k).aboutLeg n = s.aboutLeg n := by
  unfold State.setCut
  dsimp only
  split
  · rw [State.postLimitStart, State.postLeg, State.aboutLeg_post (by simpa using h),
      State.aboutLeg_changeLeg h]
  · exact State.aboutLeg_changeLeg h

/-- All that TRIP0 accepted active can do to a leg: nothing, a cause, or a cycle cut (R111, R117). -/
theorem State.trip0Reaches_cases (s : State) (n : Leg) :
    s.trip0Reaches n = s ∨ s.trip0Reaches n = s.causeArises n .trip0 ∨ s.trip0Reaches n = s.setCut n := by
  cases hp : (s.leg n).phase with
  | idle | running _ | holding _ =>
    cases hr : (s.leg n).config.response <;> simp [State.trip0Reaches, hp, hr]
  | tripped r =>
    cases hr : (s.leg n).config.response with
    | latch => simp [State.trip0Reaches, hp, hr]
    | cycle => by_cases hfirst : r.first = .escalated <;> simp [State.trip0Reaches, hp, hr, hfirst]

theorem State.aboutLeg_trip0Reaches {s : State} {n k : Leg} (h : k ≠ n) :
    (s.trip0Reaches k).aboutLeg n = s.aboutLeg n := by
  rcases s.trip0Reaches_cases k with hk | hk | hk <;> rw [hk]
  · exact State.aboutLeg_causeArises h
  · exact State.aboutLeg_setCut h

/-- TRIP0 is a cause on a TRIPPED leg whose response is LATCH or whose first cause is ESCALATED (R111). -/
theorem State.trip0Reaches_of_tripped {s : State} {n : Leg} {rec : TripRecord}
    (hphase : (s.leg n).phase = .tripped rec)
    (h : (s.leg n).config.response = .latch ∨ rec.first = .escalated) :
    s.trip0Reaches n = s.causeArises n .trip0 := by
  cases hr : (s.leg n).config.response with
  | latch => simp [State.trip0Reaches, hphase, hr]
  | cycle =>
    have hfirst : rec.first = .escalated := h.resolve_left (by simp [hr])
    simp [State.trip0Reaches, hphase, hr, hfirst]

/-! ### A further cause of a TRIPPED leg (R114) -/

/-- A leg TRIPPED with this record, after one more cause: its record alone changes. -/
def LegUnit.joined (u : LegUnit) (rec : TripRecord) (c : Cause) : LegUnit :=
  { u with phase := .tripped { rec with further := rec.further.add c, rearm := false } }

/-- The further causes are a set: each cause but ESCALATED joins it under its own name. -/
theorem Causes.add_eq {f : Causes} {c : Cause} (h : c ≠ .escalated) :
    f.add c = ⟨f.trip0 || decide (c = .trip0), f.trip1 || decide (c = .trip1),
      f.disarm || decide (c = .disarm), f.escalated⟩ := by
  cases c with
  | escalated => exact absurd rfl h
  | trip0 | trip1 | disarm => simp [Causes.add]

/-- A cause on a TRIPPED leg joins its record and raises no notice. -/
theorem State.aboutLeg_causeArises_tripped {s : State} {n : Leg} {c : Cause} {rec : TripRecord}
    (h : (s.leg n).phase = .tripped rec) :
    (s.causeArises n c).aboutLeg n = ((s.leg n).joined rec c, (s.aboutLeg n).2) := by
  rw [State.causeArises_tripped _ _ _ rec h]
  simp [State.aboutLeg, LegUnit.joined]

/-- Where only the step at `a` touches a view of the state, a fold that reaches `a` once shows in that view
what this step does from a state with the same view. -/
theorem foldl_view_at {α β : Type} {view : State → β} {f : State → α → State} {a : α}
    (hother : ∀ s k, k ≠ a → view (f s k) = view s) {xs : List α} (hmem : a ∈ xs) (hnodup : xs.Nodup)
    (s : State) : ∃ s', view s' = view s ∧ view (xs.foldl f s) = view (f s' a) := by
  induction xs generalizing s with
  | nil => simp at hmem
  | cons x xs ih =>
    obtain ⟨hx, hxs⟩ := List.nodup_cons.mp hnodup
    by_cases hxa : x = a
    · subst hxa
      refine ⟨s, rfl, List.foldlRecOn xs f (motive := fun t => view t = view (f s x)) rfl ?_⟩
      intro t ht k hk
      rw [hother t k (by rintro rfl; exact hx hk), ht]
    · obtain ⟨s', hs', hfold⟩ := ih ((List.mem_cons.mp hmem).resolve_left (Ne.symm hxa)) hxs (f s x)
      exact ⟨s', hs'.trans (hother s x hxa), hfold⟩

/-- The notices about a leg that wait at a port. -/
def PortEngine.noticesAbout (e : PortEngine) (n : Leg) : List Notice :=
  e.notices.filter fun x => x.subject = .leg n

/-- A copy with another subject leaves the notices about the leg alone. -/
theorem PortEngine.noticesAbout_receiveCopy {e : PortEngine} {n : Leg} {x : Notice}
    (h : x.subject ≠ .leg n) : (e.receiveCopy x).noticesAbout n = e.noticesAbout n := by
  rcases e.receiveCopy_cases x with ⟨-, hr⟩ | ⟨-, -, hr⟩ | ⟨-, -, -, hr⟩ | ⟨-, -, -, hr⟩ <;>
    simp [PortEngine.noticesAbout, hr, h]

/-- With no copy about a leg on its way, a delivery adds no notice about it to any port's queue (R168). -/
theorem State.deliver_noticesAbout {s : State} {n : Leg} (h : (s.aboutLeg n).2 = []) (q : Port) :
    (s.deliver.port q).noticesAbout n = (s.port q).noticesAbout n := by
  obtain ⟨ns, hperm, hport⟩ := s.deliver_port q
  rw [hport]
  refine List.foldlRecOn ns PortEngine.receiveCopy
    (motive := fun e => e.noticesAbout n = (s.port q).noticesAbout n) rfl ?_
  intro e he x hx
  have hsubject : x.subject ≠ .leg n := by
    obtain ⟨o, ho, rfl⟩ := List.mem_map.mp (hperm.mem_iff.mp hx)
    simpa using List.filter_eq_nil_iff.mp h o (List.mem_of_mem_filter ho)
  rw [PortEngine.noticesAbout_receiveCopy hsubject, he]

/-- R114 of a step from `s` to `t`: leg `n`, which stands as `u` but for its record, has the cause joined to
that record, and no notice about the leg has reached a port. -/
def State.CauseJoined (s t : State) (n : Leg) (u : LegUnit) (rec : TripRecord) (c : Cause) : Prop :=
  t.leg n = u.joined rec c ∧ ∀ q, (t.port q).noticesAbout n = (s.port q).noticesAbout n

/-- An input that reaches every leg, and is a cause on a TRIPPED one, joins that leg's record. -/
theorem State.causeJoined_of_input {s : State} {n : Leg} {rec : TripRecord} {c : Cause} {unit : TripUnit}
    {f : State → Leg → State} (hother : ∀ s k, k ≠ n → (f s k).aboutLeg n = s.aboutLeg n)
    (hports : ∀ s k, (f s k).ports = s.ports) (hquiet : s.Quiet)
    (hphase : (s.leg n).phase = .tripped rec)
    (hcause : ∀ s' : State, s'.leg n = s.leg n → f s' n = s'.causeArises n c) :
    s.CauseJoined (Leg.all.foldl f (s.setTrip unit)).deliver n (s.leg n) rec c := by
  set t := Leg.all.foldl f (s.setTrip unit)
  obtain ⟨s', hs', ht⟩ := foldl_view_at (view := fun s => s.aboutLeg n) (f := f) (a := n) hother
    (xs := Leg.all) (by cases n <;> decide) (by decide) (s.setTrip unit)
  have hleg : s'.leg n = s.leg n := (State.leg_of_aboutLeg_eq hs').trans (s.setTrip_leg unit n)
  have hcopies : (s'.aboutLeg n).2 = [] := by
    have hnone : ((s.setTrip unit).aboutLeg n).2 = [] := by simp [State.aboutLeg, hquiet]
    rw [hs', hnone]
  have habout : t.aboutLeg n = ((s.leg n).joined rec c, []) := by
    rw [ht, hcause s' hleg, State.aboutLeg_causeArises_tripped (hleg ▸ hphase), hleg, hcopies]
  have hport : ∀ q, t.port q = s.port q := by
    intro q
    exact congrArg (fun ports => PerPort.get ports q)
      (foldl_frame State.ports f hports Leg.all (s.setTrip unit))
  refine ⟨?_, fun q => ?_⟩
  · rw [State.deliver_leg]
    exact congrArg Prod.fst habout
  · rw [State.deliver_noticesAbout (congrArg Prod.snd habout) q, hport q]

/-- An input that is a cause on all four legs joins the record of a TRIPPED one. -/
theorem State.causeJoined_of_causeOnAll {s : State} {n : Leg} {rec : TripRecord} (c : Cause)
    (unit : TripUnit) (hquiet : s.Quiet) (hphase : (s.leg n).phase = .tripped rec) :
    s.CauseJoined (Leg.all.foldl (fun s n => s.causeArises n c) (s.setTrip unit)).deliver n (s.leg n)
      rec c :=
  State.causeJoined_of_input (fun _ _ hk => State.aboutLeg_causeArises hk)
    (fun _ _ => State.causeArises_ports _ _ _) hquiet hphase fun _ _ => rfl

/-- TRIP1_ACTIVE on a TRIPPED leg (R111, R114). -/
theorem exec_trip1Active_joins {s : State} {n : Leg} {rec : TripRecord} (hs : s.Awake)
    (hphase : (s.leg n).phase = .tripped rec) (hlevel : s.trip.trip1.level = false) :
    ∃ t, exec .trip1Active s = .next t ∧ s.CauseJoined t n (s.leg n) rec .trip1 := by
  obtain ⟨hrst, hquiet⟩ := hs
  have hexec : exec .trip1Active s = .next s.trip1Rises.deliver := by
    change execTrip1Active s = _
    simp [execTrip1Active, State.event_awake hrst, hlevel]
  exact ⟨_, hexec, State.causeJoined_of_causeOnAll _ _ hquiet hphase⟩

/-- DISARM on a TRIPPED leg (R111, R114). -/
theorem exec_disarm_joins {s : State} {n : Leg} {rec : TripRecord} (hs : s.Awake)
    (hphase : (s.leg n).phase = .tripped rec) (hlevel : s.trip.arm.level = true) :
    ∃ t, exec .disarm s = .next t ∧ s.CauseJoined t n (s.leg n) rec .disarm := by
  obtain ⟨hrst, hquiet⟩ := hs
  have hexec : exec .disarm s = .next s.armFalls.deliver := by
    change execDisarm s = _
    simp [execDisarm, State.event_awake hrst, hlevel]
  exact ⟨_, hexec, State.causeJoined_of_causeOnAll _ _ hquiet hphase⟩

/-- TRIP0_ACTIVE on a leg TRIPPED under LATCH or after an escalation (R111, R114). -/
theorem exec_trip0Active_joins {s : State} {n : Leg} {rec : TripRecord} (hs : s.Awake)
    (hphase : (s.leg n).phase = .tripped rec) (hlevel : s.trip.trip0.level = false)
    (hresponse : (s.leg n).config.response = .latch ∨ rec.first = .escalated) :
    ∃ t, exec .trip0Active s = .next t ∧ s.CauseJoined t n (s.leg n) rec .trip0 := by
  obtain ⟨hrst, hquiet⟩ := hs
  have hexec : exec .trip0Active s = .next s.trip0Rises.deliver := by
    change execTrip0Active s = _
    simp [execTrip0Active, State.event_awake hrst, hlevel]
  refine ⟨_, hexec, State.causeJoined_of_input (fun _ _ hk => State.aboutLeg_trip0Reaches hk)
    State.trip0Reaches_ports hquiet hphase fun s' hleg => ?_⟩
  exact State.trip0Reaches_of_tripped (hleg ▸ hphase) (hleg ▸ hresponse)

/-- A SET_LEG by the holder that changes the response of a TRIPPED leg to LATCH while TRIP0 is active: the
settings, then the cause (R24, R111). -/
theorem doSetLeg_latching {s : State} {p : Port} {b d pat e : Byte} {g : Half} {n : Leg}
    {rec : TripRecord} {cfg : LegConfig} (hleg : legOf b = some n) (hholds : s.Holds p (.leg n) g)
    (hcfg : legConfigOf d pat e = some cfg) (hphase : (s.leg n).phase = .tripped rec)
    (hold : (s.leg n).config.response = .cycle) (hnew : cfg.response = .latch)
    (hlevel : s.trip.trip0.level = true) :
    doSetLeg p b g d pat e s
      = ⟨(s.changeLeg n fun u => { u with config := cfg }).causeArises n .trip0, .ok, []⟩ := by
  have hfence := (s.fence_eq_none (.leg n) p g).mpr hholds
  simp [doSetLeg, hcfg, State.onLeg, hleg, hfence, hphase, LegPhase.driving, hold, hnew, hlevel]

/-- SET_LEG as a cause on a TRIPPED leg (R111, R114): the leg has the new settings, its stage follows them. -/
theorem exec_setLeg_joins {s : State} {p : Port} {seq b d pat e : Byte} {g : Half} {n : Leg}
    {rec : TripRecord} {cfg : LegConfig} (hready : s.Ready p) (hleg : legOf b = some n)
    (hholds : s.Holds p (.leg n) g) (hcfg : legConfigOf d pat e = some cfg)
    (hphase : (s.leg n).phase = .tripped rec) (hold : (s.leg n).config.response = .cycle)
    (hnew : cfg.response = .latch) (hlevel : s.trip.trip0.level = true) :
    ∃ t, exec (.setLeg p seq b g d pat e) s = .next t
      ∧ s.CauseJoined t n ({ s.leg n with config := cfg }.settle s.carrier.counter) rec .trip0 := by
  have hdo := doSetLeg_latching hleg hholds hcfg hphase hold hnew hlevel
  rw [State.causeArises_tripped _ _ _ rec (by simpa using hphase)] at hdo
  have hquiet : (doSetLeg p b g d pat e s).state.outbox = [] := by
    obtain ⟨-, -, -, -, hq⟩ := hready
    simp [hdo, hq]
  refine ⟨s.submit (.setLeg p seq b g d pat e) (doSetLeg p b g d pat e), rfl, ?_⟩
  rw [State.submit_quiet hready rfl _ hquiet, hdo]
  refine ⟨by simp [LegUnit.joined], fun q => ?_⟩
  simp only [State.answered, State.updPort_port, State.setLeg_port, State.changeLeg_port]
  split <;> rfl

/-- Settles O44: each of the four ways leaves the cause joined to the leg's record, and only SET_LEG, which
changes the response, gives the leg other settings. -/
theorem furtherCauseOfTrippedLeg : Obligations.FurtherCauseOfTrippedLeg := by
  intro n rec i c cfg s hs hphase hway
  suffices h : ∃ t stage, exec i s = .next t ∧ c ≠ .escalated
      ∧ s.CauseJoined t n { s.leg n with config := cfg, stage := stage } rec c
      ∧ (cfg = (s.leg n).config → stage = (s.leg n).stage) by
    obtain ⟨t, stage, hexec, hc, ⟨hleg, hnotices⟩, hstage⟩ := h
    rw [LegUnit.joined, Causes.add_eq hc] at hleg
    exact ⟨t, hexec, ⟨stage, hleg, hstage⟩, by rw [hleg]; rfl, hnotices⟩
  rcases hway with ⟨rfl, rfl, hlevel, rfl⟩ | ⟨rfl, rfl, hlevel, rfl⟩
    | ⟨rfl, rfl, hlevel, rfl, hresponse⟩
    | ⟨p, seq, b, g, d, pat, e, rfl, rfl, hleg, hready, hholds, hcfg, hold, hnew, hlevel⟩
  · obtain ⟨t, hexec, hjoined⟩ := exec_trip1Active_joins hs hphase hlevel
    exact ⟨t, _, hexec, by decide, hjoined, fun _ => rfl⟩
  · obtain ⟨t, hexec, hjoined⟩ := exec_disarm_joins hs hphase hlevel
    exact ⟨t, _, hexec, by decide, hjoined, fun _ => rfl⟩
  · obtain ⟨t, hexec, hjoined⟩ := exec_trip0Active_joins hs hphase hlevel hresponse
    exact ⟨t, _, hexec, by decide, hjoined, fun _ => rfl⟩
  · obtain ⟨t, hexec, hjoined⟩ := exec_setLeg_joins (seq := seq) hready hleg hholds hcfg hphase hold
      hnew hlevel
    refine ⟨t, _, hexec, by decide, hjoined, ?_⟩
    rintro rfl
    exact absurd (hold.symm.trans hnew) (by decide)

end Sys2Proof.Machine
end

section
/-! PROOFS. What a step can do, said once. Every command and event is a sequence of deeds, each a change that one
block makes under a guard of its own; an invariant that every deed keeps is kept by every step. -/

namespace Sys2Proof.Machine

open Sys2Proof Relation

-- One theorem at a time, as in the tests: proofs that wait for the kernel would each hold a thread.
set_option Elab.async false

/-! ### Operands that passed their check -/

theorem intervalOf_bounds {h : Half} {n : Nat} (hn : intervalOf h = some n) : 1 ≤ n ∧ n ≤ 10000 := by
  unfold intervalOf at hn
  split at hn
  · next hb => cases hn; exact hb
  · cases hn

theorem periodOf_bounds {h : Half} {n : Nat} (hn : periodOf h = some n) : 16 ≤ n ∧ n ≤ 65535 := by
  unfold periodOf at hn
  split at hn
  · next hb => cases hn; exact ⟨hb, by have := h.isLt; omega⟩
  · cases hn

theorem syncLimitOf_bounds {h : Half} {n : Nat} (hn : syncLimitOf h = some n) : 1 ≤ n ∧ n ≤ 1023 := by
  unfold syncLimitOf at hn
  split at hn
  · next hb => cases hn; exact hb
  · cases hn

/-- A configuration that a SET_CHANNEL carries has a modulus of 2 to 65536 (R144). -/
theorem chanConfigOf_modulus {m fl ie e : Byte} {v : Half} {cfg : ChanConfig}
    (h : chanConfigOf m fl v ie e = some cfg) : 2 ≤ cfg.modulus ∧ cfg.modulus ≤ 65536 := by
  simp only [chanConfigOf, Option.bind_eq_some_iff, Option.map_eq_some_iff] at h
  obtain ⟨_, -, _, -, modulus, hmod, _, -, _, -, rfl⟩ := h
  unfold modulusOf at hmod
  split at hmod
  · next hb => cases hmod; exact ⟨by simp; omega, by have := v.isLt; simp; omega⟩
  · cases hmod

/-- A configuration that a SET_LEG carries has counts of one byte (R24). -/
theorem legConfigOf_bounds {d pat e : Byte} {cfg : LegConfig} (h : legConfigOf d pat e = some cfg) :
    cfg.deadTime ≤ 255 ∧ cfg.escalation ≤ 255 := by
  simp only [legConfigOf, Option.map_eq_some_iff] at h
  obtain ⟨_, -, rfl⟩ := h
  have hd := d.isLt
  have he := e.isLt
  exact ⟨by simp; omega, by simp; omega⟩

/-- A segment carries the generation of its command (R14). -/
theorem parseSegment_gen {own : Leg} {g : Half} {bytes : List Byte} {seg : Segment}
    (h : parseSegment own g bytes = some seg) : seg.gen = g := by
  unfold parseSegment at h
  split at h
  · simp only [Option.bind_eq_some_iff] at h
    obtain ⟨_, -, ⟨_, _⟩, -, ⟨_, _⟩, -, ⟨_, _⟩, -, h⟩ := h
    split at h
    · cases h; rfl
    · cases h
  · cases h

/-! ### What a command can do to the part -/

/-- The port's grasp of a leg that a plan command needs: its lease, and a leg that is not TRIPPED (R14). -/
def State.PlanOpen (s : State) (n : Leg) (p : Port) (seg : Segment) : Prop :=
  s.Holds p (.leg n) seg.gen ∧ (s.leg n).phase.isTripped = false

/-- Everything that the block that owns a command of port `p` can make of the part (R164, R165): nothing, or
the change that the command asks for, under the checks that it passed. -/
inductive Effect (s : State) (p : Port) : State → Prop where
  | nothing : Effect s p s
  | chosen : Effect s p s.chosen
  | mask (k : Classes) : Effect s p (s.updPort p fun e => { e with mask := k })
  | grant (r : Resource) (n : Nat) (hfree : (s.lease r).phase = .free) (hn : 1 ≤ n ∧ n ≤ 10000) :
      Effect s p (s.grantTo r p n)
  | wait (r : Resource) (n : Nat) (hphase : (s.lease r).phase ≠ .free)
      (hother : (s.lease r).holder? ≠ some p) (hn : 1 ≤ n ∧ n ≤ 10000) :
      Effect s p (s.joinWaiters r p n).state
  | cancelWait (r : Resource) : Effect s p (s.updLease r fun l => l.dropWaiter p)
  | renew (rs : List Resource) : Effect s p (rs.foldl (fun s r => s.updLease r Lease.renew) s)
  | release (r : Resource) (hheld : (s.lease r).holder? = some p) : Effect s p (s.endLease r)
  | seize (r : Resource) (n : Nat) (hphase : (s.lease r).phase ≠ .free) (hn : 1 ≤ n ∧ n ≤ 10000) :
      Effect s p ((s.grantTo r p n).clearSeized r)
  | seizeTold (r : Resource) (n : Nat) (hphase : (s.lease r).phase ≠ .free) (hn : 1 ≤ n ∧ n ≤ 10000)
      (q : Port) (x : Notice) :
      Effect s p (((s.grantTo r p n).clearSeized r).post (.resource r) [q] x)
  | append (n : Leg) (seg : Segment) (hopen : s.PlanOpen n p seg) (hroom : (s.leg n).queue.length < 8) :
      Effect s p (s.updLeg n fun u => { u with queue := u.queue ++ [seg] })
  | replace (n : Leg) (seg : Segment) (hopen : s.PlanOpen n p seg) :
      Effect s p ((s.flushQueue n).updLeg n fun u => { u with queue := [seg] })
  | replaceAtOnce (n : Leg) (seg : Segment) (hopen : s.PlanOpen n p seg) :
      Effect s p (((s.flushQueue n).updLeg n fun u => { u with queue := [seg] }).updLeg n
        LegUnit.cutByHost)
  | flush (n : Leg) : Effect s p (s.flushQueue n)
  | cut (n : Leg) : Effect s p (s.updLeg n LegUnit.cutByHost)
  | setLeg (n : Leg) (cfg : LegConfig) (hrest : (s.leg n).phase.driving = false)
      (hcfg : cfg.deadTime ≤ 255 ∧ cfg.escalation ≤ 255) :
      Effect s p (s.changeLeg n fun u => { u with config := cfg })
  | setLegCause (n : Leg) (cfg : LegConfig) (hrest : (s.leg n).phase.driving = false)
      (hcfg : cfg.deadTime ≤ 255 ∧ cfg.escalation ≤ 255) :
      Effect s p ((s.changeLeg n fun u => { u with config := cfg }).causeArises n .trip0)
  | setRearm (n : Leg) : Effect s p (s.updLeg n LegUnit.setRearm)
  | completeRearm (n : Leg) : Effect s p (s.completeRearm n)
  | setPeriod (n : Nat) (hn : 16 ≤ n ∧ n ≤ 65535) : Effect s p (s.setCarrier (s.carrier.setPeriod n))
  | setSyncLimit (n : Nat) (hn : 1 ≤ n ∧ n ≤ 1023) :
      Effect s p (s.setCarrier { s.carrier with syncLimit := n })
  | setCarrier (m : CarrierMode) (e : Fin 8) (hrest : s.anyDriving = false) :
      Effect s p (s.setCarrier { s.carrier with mode := m, prescale := e }.restart).settleAll
  | start (hrun : s.carrier.run = .stopped) :
      Effect s p (s.setCarrier { s.carrier with run := .running, period := 0 }.restart).settleAll
  | stop (hrun : s.carrier.run = .running) (hrest : s.anyDriving = false) :
      Effect s p (Leg.all.foldl State.completeIfPending (s.setCarrier s.carrier.halt))
  | setChannel (c : Chan) (cfg : ChanConfig) (hcfg : 2 ≤ cfg.modulus ∧ cfg.modulus ≤ 65536) :
      Effect s p (s.updChan c fun ch => ch.configure cfg)
  | setPosition (c : Chan) (v : Nat) (hv : v < (s.chan c).config.modulus) :
      Effect s p (s.updChan c fun ch => { ch with position := v })
  | subscribe (c : Chan) (k : Kinds) :
      Effect s p (s.updChan c fun ch => { ch with subscribers := ch.subscribers.set p k })

/-- A refusal of the checks of R14 changes nothing, but that a choice of legs to report counts as made. -/
theorem State.afterCheck_effect (s : State) (n : Leg) (p : Port) (g : Half) (seg : Segment) :
    Effect s p (s.afterCheck n p g seg) := by
  unfold State.afterCheck
  split
  · split
    · exact .chosen
    · exact .nothing
  · exact .nothing
  · exact .nothing

/-- What the checks of R14 leave of a command that passes them all. -/
theorem State.checkSegment_none {s : State} {n : Leg} {p : Port} {g : Half} {seg : Segment}
    (h : s.checkSegment n p g seg = none) :
    s.Holds p (.leg n) g ∧ s.checkSyncSet p seg = none ∧ s.checkCondition seg = none
      ∧ (s.leg n).phase.isTripped = false := by
  unfold State.checkSegment at h
  cases hf : s.fence (.leg n) p g with
  | some x => simp [hf] at h
  | none =>
    cases hs : s.checkSyncSet p seg with
    | some x => simp [hf, hs] at h
    | none =>
      cases hc : s.checkCondition seg with
      | some x => simp [hf, hs, hc] at h
      | none =>
        refine ⟨(s.fence_eq_none _ _ _).mp hf, rfl, rfl, ?_⟩
        simpa [hf, hs, hc] using h

theorem State.checkSegment_planOpen {s : State} {n : Leg} {p : Port} {g : Half} {seg : Segment}
    (hgen : seg.gen = g) (h : s.checkSegment n p g seg = none) : s.PlanOpen n p seg := by
  subst hgen
  exact ⟨(State.checkSegment_none h).1, (State.checkSegment_none h).2.2.2⟩

theorem State.onCarrier_effect {s : State} {p : Port} {g : Half} {a : Answer} (h : Effect s p a.state) :
    Effect s p (s.onCarrier p g a).state := by
  unfold State.onCarrier
  split
  · exact .nothing
  · exact h

theorem State.onChan_effect {s : State} {c : Chan} {p : Port} {g : Half} {a : Answer}
    (h : Effect s p a.state) : Effect s p (s.onChan c p g a).state := by
  unfold State.onChan
  split
  · exact .nothing
  · exact h

theorem State.onLeg_effect {s : State} {b : Byte} {p : Port} {g : Half} {act : Leg → Answer}
    (h : ∀ n, Effect s p (act n).state) : Effect s p (s.onLeg b p g act).state := by
  unfold State.onLeg
  split
  · exact .nothing
  · split
    · exact .nothing
    · exact h _

theorem doClaim_effect (p : Port) (b : Byte) (i : Half) (w : Byte) (s : State) :
    Effect s p (doClaim p b i w s).state := by
  unfold doClaim
  split
  · next r n wait _ hn _ =>
    have hbounds := intervalOf_bounds hn
    split
    · next hfree => exact .grant r n hfree hbounds
    · next holder _ remaining _ hheld =>
      split
      · exact .nothing
      · next hother =>
        split
        · exact .wait r n (by simp [hheld]) (by simpa [Lease.holder?, hheld] using hother) hbounds
        · exact .nothing
    · next hrel =>
      split
      · exact .wait r n (by simp [hrel]) (by simp [Lease.holder?, hrel]) hbounds
      · exact .nothing
  · exact .nothing

theorem doRelease_effect (p : Port) (b : Byte) (g : Half) (s : State) :
    Effect s p (doRelease p b g s).state := by
  unfold doRelease
  split
  · exact .nothing
  · next r _ =>
    split
    · exact .nothing
    · next hfence => exact .release r ((s.fence_eq_none r p g).mp hfence).1

theorem doRenew_effect (p : Port) (b : Byte) (g : Half) (s : State) :
    Effect s p (doRenew p b g s).state := by
  unfold doRenew
  split
  · exact .nothing
  · next r _ =>
    split
    · exact .nothing
    · exact .renew [r]

theorem doSeize_effect (p : Port) (b : Byte) (i : Half) (s : State) :
    Effect s p (doSeize p b i s).state := by
  unfold doSeize
  split
  · next r n _ hn =>
    have hbounds := intervalOf_bounds hn
    split
    · exact .nothing
    · dsimp only
      split
      · next hfree => exact .grant r n hfree hbounds
      · next hrel => exact .seize r n (by simp [hrel]) hbounds
      · next holder _ _ _ hheld =>
        split
        · exact .nothing
        · split
          · exact .nothing
          · exact .seizeTold r n (by simp [hheld]) hbounds _ _
  · exact .nothing

theorem doCancelWait_effect (p : Port) (b : Byte) (s : State) :
    Effect s p (doCancelWait p b s).state := by
  unfold doCancelWait
  split
  · exact .nothing
  · next r _ =>
    split
    · exact .nothing
    · exact .cancelWait r

theorem doAppend_effect (p : Port) (b : Byte) (g : Half) (bytes : List Byte) (s : State) :
    Effect s p (doAppend p b g bytes s).state := by
  unfold doAppend
  split
  · exact .nothing
  · next n _ =>
    split
    · exact .nothing
    · next seg hseg =>
      split
      · exact s.afterCheck_effect n p g seg
      · next hcheck =>
        split
        · exact .nothing
        · next hroom =>
          exact .append n seg (State.checkSegment_planOpen (parseSegment_gen hseg) hcheck) (by omega)

theorem doReplace_effect (p : Port) (b : Byte) (g : Half) (o : Byte) (bytes : List Byte) (s : State) :
    Effect s p (doReplace p b g o bytes s).state := by
  unfold doReplace
  split
  · next n atOnce _ _ =>
    split
    · exact .nothing
    · next seg hseg =>
      split
      · exact s.afterCheck_effect n p g seg
      · next hcheck =>
        have hopen := State.checkSegment_planOpen (parseSegment_gen hseg) hcheck
        cases atOnce with
        | true => exact .replaceAtOnce n seg hopen
        | false => exact .replace n seg hopen
  · exact .nothing

theorem doCut_effect (p : Port) (b : Byte) (g : Half) (s : State) : Effect s p (doCut p b g s).state := by
  refine State.onLeg_effect fun n => ?_
  split
  · exact .cut n
  all_goals exact .nothing

theorem doSetLeg_effect (p : Port) (b : Byte) (g : Half) (d pat e : Byte) (s : State) :
    Effect s p (doSetLeg p b g d pat e s).state := by
  unfold doSetLeg
  split
  · exact .nothing
  · next cfg hcfg =>
    have hbounds := legConfigOf_bounds hcfg
    refine State.onLeg_effect fun n => ?_
    split
    · exact .nothing
    · next hrest =>
      have hrest : (s.leg n).phase.driving = false := by simpa using hrest
      dsimp only
      split
      · exact .setLegCause n cfg hrest hbounds
      · exact .setLeg n cfg hrest hbounds

theorem doRearm_effect (p : Port) (b : Byte) (g : Half) (s : State) :
    Effect s p (doRearm p b g s).state := by
  refine State.onLeg_effect fun n => ?_
  split
  · exact .nothing
  · split
    · exact .nothing
    · split
      · exact .setRearm n
      · exact .completeRearm n

theorem doSetPeriod_effect (p : Port) (g v : Half) (s : State) :
    Effect s p (doSetPeriod p g v s).state := by
  unfold doSetPeriod
  split
  · exact .nothing
  · next hn => exact State.onCarrier_effect (.setPeriod _ (periodOf_bounds hn))

theorem doSetCarrier_effect (p : Port) (g : Half) (m e : Byte) (s : State) :
    Effect s p (doSetCarrier p g m e s).state := by
  unfold doSetCarrier
  split
  · refine State.onCarrier_effect ?_
    split
    · exact .nothing
    · next hrest => exact .setCarrier _ _ (by simpa using hrest)
  · exact .nothing

theorem doStart_effect (p : Port) (g : Half) (s : State) : Effect s p (doStart p g s).state := by
  refine State.onCarrier_effect ?_
  split
  · exact .nothing
  · next hrun => exact .start hrun

theorem doStop_effect (p : Port) (g : Half) (s : State) : Effect s p (doStop p g s).state := by
  refine State.onCarrier_effect ?_
  split
  · exact .nothing
  · next hrun =>
    split
    · exact .nothing
    · next hrest => exact .stop hrun (by simpa using hrest)

theorem doSetSyncLimit_effect (p : Port) (g v : Half) (s : State) :
    Effect s p (doSetSyncLimit p g v s).state := by
  unfold doSetSyncLimit
  split
  · exact .nothing
  · next hn => exact State.onCarrier_effect (.setSyncLimit _ (syncLimitOf_bounds hn))

theorem doSetChannel_effect (p : Port) (b : Byte) (g : Half) (m fl : Byte) (v : Half) (ie e : Byte)
    (s : State) : Effect s p (doSetChannel p b g m fl v ie e s).state := by
  unfold doSetChannel
  split
  · next c cfg _ hcfg => exact State.onChan_effect (.setChannel c cfg (chanConfigOf_modulus hcfg))
  · exact .nothing

theorem doSetPosition_effect (p : Port) (b : Byte) (g v : Half) (s : State) :
    Effect s p (doSetPosition p b g v s).state := by
  unfold doSetPosition
  split
  · exact .nothing
  · next c _ =>
    split
    · next hv => exact State.onChan_effect (.setPosition c _ hv)
    · exact .nothing

theorem doSubscribe_effect (p : Port) (b k : Byte) (s : State) :
    Effect s p (doSubscribe p b k s).state := by
  unfold doSubscribe
  split
  · exact .subscribe _ _
  · exact .nothing

theorem doSetNoticeMask_effect (p : Port) (k : Byte) (s : State) :
    Effect s p (doSetNoticeMask p k s).state := by
  unfold doSetNoticeMask
  split
  · exact .nothing
  · exact .mask _

/-- A query with a leg, channel or resource byte of its own changes nothing. -/
theorem doQueryLease_effect (p : Port) (b : Byte) (s : State) :
    Effect s p (doQueryLease b s).state ∧ Effect s p (doQueryLeg b s).state
      ∧ Effect s p (doQueryOutput b s).state ∧ Effect s p (doQueryChannel b s).state := by
  unfold doQueryLease doQueryLeg doQueryOutput doQueryChannel
  refine ⟨?_, ?_, ?_, ?_⟩ <;> split <;> exact .nothing

/-- Whatever a host command is, its block makes of the part what an effect of its port can. -/
theorem answer_effect {i : Instr} {p : Port} {f : Frame} (h : encodeFrame i = some (p, f)) (s : State) :
    Effect s p (answer i s).state := by
  cases i <;> cases h
  case nop | queryPort | queryTrip | queryCarrier | querySync | readSnapshot | unknown => exact .nothing
  case setNoticeMask k => exact doSetNoticeMask_effect p k s
  case claim r n w => exact doClaim_effect p r n w s
  case release r g => exact doRelease_effect p r g s
  case renew r g => exact doRenew_effect p r g s
  case renewAll => exact .renew _
  case seize r n => exact doSeize_effect p r n s
  case cancelWait r => exact doCancelWait_effect p r s
  case queryLease b => exact (doQueryLease_effect p b s).1
  case append n g seg => exact doAppend_effect p n g seg s
  case replace n g o seg => exact doReplace_effect p n g o seg s
  case flush n g => exact State.onLeg_effect fun n => .flush n
  case cut n g => exact doCut_effect p n g s
  case setLeg n g d pat e => exact doSetLeg_effect p n g d pat e s
  case queryLeg b => exact (doQueryLease_effect p b s).2.1
  case queryOutput b => exact (doQueryLease_effect p b s).2.2.1
  case rearm n g => exact doRearm_effect p n g s
  case setPeriod g v => exact doSetPeriod_effect p g v s
  case setCarrier g m e => exact doSetCarrier_effect p g m e s
  case start g => exact doStart_effect p g s
  case stop g => exact doStop_effect p g s
  case setSyncLimit g v => exact doSetSyncLimit_effect p g v s
  case setChannel c g m fl v ie e => exact doSetChannel_effect p c g m fl v ie e s
  case setPosition c g v => exact doSetPosition_effect p c g v s
  case queryChannel b => exact (doQueryLease_effect p b s).2.2.2
  case subscribe c k => exact doSubscribe_effect p c k s

end Sys2Proof.Machine
end

section
/-! PROOFS. The deeds of the part: every command, event and sample is a sequence of them (log entries 2 to 5). -/

namespace Sys2Proof.Machine

open Sys2Proof Relation

-- One theorem at a time, as in the tests: proofs that wait for the kernel would each hold a thread.
set_option Elab.async false

/-- What R157, R158 and R171 ask of a port engine by itself. -/
def PortEngine.Sound (e : PortEngine) : Prop := e.Bounded ∧ e.AbsentEmpty ∧ e.OneTransaction

/-- One change that one block makes, or the port engine, or a clock; its guard is what the rows that bring it
about have checked. The queue of waiting rows is none of them. What the guards say of port engines is said only
where `sound` holds, because some of it rests on engines that were sound before the row, and that commands and
answers stay in their queues only where `calm` holds, which the rows that bring or end a command do not claim. -/
inductive Deed (sound calm : Prop) (s : State) : State → Prop where
  | choices (k : Nat) : Deed sound calm s (s.setChoices k)
  | outbox (o : List Outgoing) : Deed sound calm s (s.setOutbox o)
  | rst (r : ResetUnit) : Deed sound calm s (s.setRst r)
  | trip (t : TripUnit) : Deed sound calm s (s.setTrip t)
  | leaseClock (t : LeaseClock) : Deed sound calm s (s.setLeaseClock t)
  | engine (p : Port) (f : PortEngine → PortEngine) (hsound : sound → (s.port p).Sound → (f (s.port p)).Sound)
      (hpresent : sound → (f (s.port p)).presence.level = false → (s.port p).presence.level = false)
      (hqueues : calm → (f (s.port p)).commands = (s.port p).commands
        ∧ (f (s.port p)).responses = (s.port p).responses) :
      Deed sound calm s (s.updPort p f)
  | command (p : Port) (t : State) (hpresent : sound → (s.port p).presence.level = true) (heffect : Effect s p t) :
      Deed sound calm s t
  | presenceFalls (p : Port) : Deed sound calm s (s.presenceFalls p)
  | rearms (n : Leg) : Deed sound calm s (s.completeRearm n)
  | cause (n : Leg) (c : Cause) : Deed sound calm s (s.causeArises n c)
  | cut (n : Leg) (hdriving : (s.leg n).phase.driving = true) : Deed sound calm s (s.setCut n)
  | leaseTick : Deed sound calm s s.leaseTickAll
  | carrierDivider (d : Divider) : Deed sound calm s (s.setCarrier { s.carrier with divider := d })
  | count (hrun : s.carrier.run = .running) (hdue : s.carrier.boundaryDue = false) :
      Deed sound calm s (s.setCarrier s.carrier.count).settleAll
  | boundary (first : PerLeg Bool) (hrun : s.carrier.run = .running) : Deed sound calm s (s.boundaryWith first)
  | filters (c : Chan) (x y z : Filter) (d : Divider) (hx : x.level = (s.chan c).x.level)
      (hy : y.level = (s.chan c).y.level) (hz : z.level = (s.chan c).z.level) :
      Deed sound calm s (s.updChan c fun ch => { ch with x := x, y := y, z := z, divider := d })
  | intervalTick (c : Chan) : Deed sound calm s (s.intervalTicks c)
  | chanTakes (c : Chan) (tick x y z : Bool) : Deed sound calm s (s.chanTakes c tick x y z)
  | sampleStages : Deed sound calm s s.sampleStages
  | abandon (r : ResetUnit) : Deed sound calm s (s.abandon r)
  | released (pins : Pins) : Deed sound calm s (s.released pins)

/-- Deeds one after the other. -/
abbrev Deeds (sound calm : Prop) : State → State → Prop := ReflTransGen (Deed sound calm)

/-- An invariant that every deed keeps is kept by any sequence of deeds. -/
theorem Deeds.keep {sound calm : Prop} {P : State → Prop} (hP : ∀ s t, P s → Deed sound calm s t → P t)
    {s t : State} (h : Deeds sound calm s t) (hs : P s) : P t := by
  induction h with
  | refl => exact hs
  | tail _ hdeed ih => exact hP _ _ ih hdeed

theorem Deed.deeds {sound calm : Prop} {s t : State} (h : Deed sound calm s t) : Deeds sound calm s t := .single h

/-- A fold of steps that are deeds is deeds. -/
theorem Deeds.foldl {sound calm : Prop} {α : Type} {f : State → α → State}
    (h : ∀ s a, Deeds sound calm s (f s a)) (xs : List α) (s : State) : Deeds sound calm s (xs.foldl f s) := by
  induction xs generalizing s with
  | nil => exact .refl
  | cons x xs ih => exact (h s x).trans (ih _)

/-! ### Port engines -/

variable {sound calm : Prop}

/-- A change of an engine that leaves its presence alone. -/
theorem State.updPort_deed {s : State} {p : Port} {f : PortEngine → PortEngine}
    (hpresence : (f (s.port p)).presence.level = (s.port p).presence.level)
    (hqueues : calm → (f (s.port p)).commands = (s.port p).commands
      ∧ (f (s.port p)).responses = (s.port p).responses)
    (hsound : sound → (s.port p).Sound → (f (s.port p)).Sound) : Deed sound calm s (s.updPort p f) :=
  .engine p f hsound (fun _ => by rw [hpresence]; exact id) hqueues

theorem PortEngine.Sound.receiveCopy {e : PortEngine} (h : e.Sound) (n : Notice) :
    (e.receiveCopy n).Sound := by
  obtain ⟨⟨hc, hr, hn, hl⟩, habsent, hone⟩ := h
  rcases e.receiveCopy_cases n with ⟨-, he⟩ | ⟨-, -, he⟩ | ⟨hp, -, -, he⟩ | ⟨hp, -, hroom, he⟩ <;> rw [he]
  · exact ⟨⟨hc, hr, hn, hl⟩, habsent, hone⟩
  · exact ⟨⟨hc, hr, hn, hl⟩, habsent, hone⟩
  · exact ⟨⟨hc, hr, hn, min_le_left _ _⟩, fun h => by simp [hp] at h, hone⟩
  · exact ⟨⟨hc, hr, by simp; omega, hl⟩, fun h => by simp [hp] at h, hone⟩

theorem State.admitCopy_deed (s : State) (o : Outgoing) : Deed sound calm s (s.admitCopy o) :=
  State.updPort_deed (by simp) (fun _ => ⟨by simp, by simp⟩) fun _ h => h.receiveCopy o.notice

theorem State.deliver_deeds (s : State) : Deeds sound calm s s.deliver := by
  unfold State.deliver
  exact ((Deed.outbox []).deeds.tail (.choices _)).trans
    (Deeds.foldl (fun s o => (s.admitCopy_deed o).deeds) _ _)

variable (hloud : ¬ calm)

include hloud in
/-- A present engine with room takes one more answer. -/
theorem State.answered_deed {s : State} {p : Port} (hpresent : sound → (s.port p).presence.level = true)
    (hroom : (s.port p).responses.length < 4) (r : Response) : Deed sound calm s (s.answered p r) := by
  refine State.updPort_deed rfl (fun hcalm => absurd hcalm hloud) ?_
  rintro hs ⟨⟨hc, hr, hn, hl⟩, -, hone⟩
  exact ⟨⟨hc, by simp; omega, hn, hl⟩, fun h => by simp [hpresent hs] at h, hone⟩

/-- What an effect of a command leaves of every engine's presence and answers. -/
theorem Effect.engines {s t : State} {p : Port} (h : Effect s p t) (q : Port) :
    (t.port q).presence = (s.port q).presence ∧ (t.port q).responses = (s.port q).responses
      ∧ (t.port q).commands = (s.port q).commands := by
  cases h
  case mask k => simp only [State.updPort_port]; split <;> exact ⟨rfl, rfl, rfl⟩
  case wait r n _ _ _ =>
    unfold State.joinWaiters
    dsimp only
    split
    · exact ⟨rfl, rfl, rfl⟩
    · split <;> exact ⟨rfl, rfl, rfl⟩
  case renew rs =>
    have hports : (rs.foldl (fun s r => s.updLease r Lease.renew) s).ports = s.ports :=
      foldl_frame State.ports _ (fun s r => by simp) rs s
    simp [State.port, hports]
  case stop =>
    have hports : (Leg.all.foldl State.completeIfPending (s.setCarrier s.carrier.halt)).ports = s.ports :=
      foldl_frame State.ports _ State.completeIfPending_ports Leg.all _
    simp [State.port, hports]
  case seize r n _ _ | seizeTold r n _ _ q x => cases r <;> simp [State.clearSeized, State.grantTo]
  all_goals simp [State.grantTo]

include hloud in
/-- A command that is taken, in a state whose port is present with room for the answer (R164). -/
theorem respond_deeds {s : State} {p : Port} {f : Frame} {a : Answer}
    (hpresent : sound → (s.port p).presence.level = true) (hroom : (s.port p).responses.length < 4)
    (heffect : Effect s p a.state) : Deeds sound calm s (respond p f a) := by
  obtain ⟨hpres, hresp, -⟩ := heffect.engines p
  refine ((Deed.command p _ hpresent heffect).deeds.trans a.state.deliver_deeds).tail ?_
  exact State.answered_deed hloud (by simpa [hpres] using hpresent) (by simpa [hresp] using hroom) _

theorem PortEngine.Sound.enqueue {e : PortEngine} (h : e.Sound) (hpresent : e.presence.level = true)
    (f : Frame) : (e.enqueue f).Sound := by
  obtain ⟨⟨hc, hr, hn, hl⟩, -, hone⟩ := h
  unfold PortEngine.enqueue
  split
  · exact ⟨⟨hc, hr, hn, hl⟩, fun h => by simp [hpresent] at h, hone⟩
  · exact ⟨⟨by simp; omega, hr, hn, hl⟩, fun h => by simp [hpresent] at h, hone⟩

@[simp] theorem PortEngine.enqueue_presence (e : PortEngine) (f : Frame) :
    (e.enqueue f).presence = e.presence := by
  unfold PortEngine.enqueue; split <;> rfl

include hloud in
/-- A host command at its port (R163, R164, R171). -/
theorem State.submit_deeds (s : State) (i : Instr) : Deeds sound calm s (s.submit i (answer i)) := by
  unfold State.submit
  split
  · exact .refl
  · next p f hf =>
    split
    · next hlive =>
      have hpresent : (s.port p).presence.level = true := by
        simp only [State.portLive, Bool.and_eq_true] at hlive
        exact hlive.2
      split
      · next htakes =>
        have hroom : (s.port p).responses.length < 4 := by
          simp only [PortEngine.takesAtOnce, Bool.and_eq_true, decide_eq_true_eq] at htakes
          exact htakes.2
        exact respond_deeds hloud (fun _ => hpresent) hroom (answer_effect hf s)
      · exact (State.updPort_deed (by simp) (fun hcalm => absurd hcalm hloud) fun _ h => h.enqueue hpresent f).deeds
    · exact .refl

theorem decodeFrame_port {p : Port} {f : Frame} {i : Instr} (h : decodeFrame p f = some i) :
    ∃ f', encodeFrame i = some (p, f') := by
  unfold decodeFrame at h
  repeat' split at h
  all_goals first | (cases h; exact ⟨_, rfl⟩) | cases h

theorem answerFrame_effect (p : Port) (f : Frame) (s : State) :
    Effect s p (answerFrame p f s).state := by
  unfold answerFrame
  split
  · exact .nothing
  · next h =>
    obtain ⟨f', hf'⟩ := decodeFrame_port h
    exact answer_effect hf' s

include hloud in
/-- The engine takes the command at the head of its queue (R164); an absent one has none. -/
theorem State.takeNext_deeds {s : State} {p : Port} (hpresent : sound → (s.port p).presence.level = true) :
    Deeds sound calm s (s.takeNext p) ∧ (sound → ((s.takeNext p).port p).presence.level = true) := by
  unfold State.takeNext
  split
  · exact ⟨.refl, hpresent⟩
  · next f rest hcommands =>
    split
    · next hroom =>
      set s1 := s.updPort p fun e => { e with commands := rest } with hs1
      have hport : s1.port p = { s.port p with commands := rest } := by simp [hs1]
      have hdrop : Deed sound calm s s1 := by
        refine State.updPort_deed rfl (fun hcalm => absurd hcalm hloud) ?_
        rintro hs ⟨⟨hc, hr, hn, hl⟩, -, hone⟩
        rw [hcommands] at hc
        exact ⟨⟨by simp at hc ⊢; omega, hr, hn, hl⟩, fun h => by simp [hpresent hs] at h, hone⟩
      have heffect := answerFrame_effect p f s1
      have hpresent1 : sound → (s1.port p).presence.level = true := by simpa [hport] using hpresent
      refine ⟨hdrop.deeds.trans (respond_deeds hloud hpresent1 (by simpa [hport]) heffect), fun hs => ?_⟩
      obtain ⟨hpres, -, -⟩ := heffect.engines p
      simp [respond, hpres, hpresent1 hs]
    · exact ⟨.refl, hpresent⟩

include hloud in
theorem State.takeWaiting_deeds {s : State} {p : Port}
    (hpresent : sound → (s.port p).presence.level = true) : Deeds sound calm s (s.takeWaiting p) := by
  obtain ⟨h1, hp1⟩ := State.takeNext_deeds hloud hpresent
  obtain ⟨h2, hp2⟩ := State.takeNext_deeds hloud hp1
  obtain ⟨h3, hp3⟩ := State.takeNext_deeds hloud hp2
  exact ((h1.trans h2).trans h3).trans (State.takeNext_deeds hloud hp3).1

end Sys2Proof.Machine
end

section
/-! PROOFS. Samples, events and rows as deeds: an invariant that every deed keeps is kept by every step. -/

namespace Sys2Proof.Machine

open Sys2Proof Relation

-- One theorem at a time, as in the tests: proofs that wait for the kernel would each hold a thread.
set_option Elab.async false

variable {sound calm : Prop}

/-! ### Trip inputs and boundaries -/

theorem State.trip0Reaches_deeds (s : State) (n : Leg) : Deeds sound calm s (s.trip0Reaches n) := by
  by_cases hdriving : (s.leg n).phase.driving = true
  · rcases s.trip0Reaches_cases n with h | h | h
    · rw [h]
    · exact h ▸ (Deed.cause n .trip0).deeds
    · exact h ▸ (Deed.cut n hdriving).deeds
  · have h : s.trip0Reaches n = s ∨ s.trip0Reaches n = s.causeArises n .trip0 := by
      cases hp : (s.leg n).phase with
      | running a => simp [hp, LegPhase.driving] at hdriving
      | holding x => simp [hp, LegPhase.driving] at hdriving
      | idle => cases hr : (s.leg n).config.response <;> simp [State.trip0Reaches, hp, hr]
      | tripped r =>
        cases hr : (s.leg n).config.response with
        | latch => simp [State.trip0Reaches, hp, hr]
        | cycle => by_cases hfirst : r.first = .escalated <;> simp [State.trip0Reaches, hp, hr, hfirst]
    rcases h with h | h
    · rw [h]
    · exact h ▸ (Deed.cause n .trip0).deeds

theorem State.trip0Rises_deeds (s : State) : Deeds sound calm s s.trip0Rises :=
  (Deed.trip _).deeds.trans (Deeds.foldl State.trip0Reaches_deeds _ _)

theorem State.causeOnAll_deeds (s : State) (c : Cause) : Deeds sound calm s (s.causeOnAll c) :=
  Deeds.foldl (fun _ n => (Deed.cause n c).deeds) _ s

theorem State.trip1Rises_deeds (s : State) : Deeds sound calm s s.trip1Rises :=
  (Deed.trip _).deeds.trans (State.causeOnAll_deeds _ .trip1)

theorem State.armFalls_deeds (s : State) : Deeds sound calm s s.armFalls :=
  (Deed.trip _).deeds.trans (State.causeOnAll_deeds _ .disarm)

theorem State.boundary_deeds {s : State} (hrun : s.carrier.run = .running) : Deeds sound calm s s.boundary :=
  (Deed.choices (s.choices + 4)).deeds.tail (.boundary _ hrun)

theorem State.escalationBoundary_deeds {s : State} (hrun : s.carrier.run = .running) (n : Leg) :
    Deeds sound calm s (s.escalationBoundary n) := by
  unfold State.escalationBoundary
  split
  · exact (Deed.choices (s.choices + 4)).deeds.tail (.boundary _ hrun)
  · exact State.boundary_deeds hrun

theorem State.carrierTicks_deeds (s : State) : Deeds sound calm s s.carrierTicks := by
  unfold State.carrierTicks
  split
  · exact .refl
  · next hrun =>
    split
    · exact State.boundary_deeds hrun
    · next hdue => exact (Deed.count hrun (by simpa using hdue)).deeds

/-! ### Samples -/

theorem State.presenceRises_deeds (s : State) (p : Port) : Deeds sound calm s (s.presenceRises p) := by
  refine (Deed.engine p _ ?_ ?_ fun _ => ⟨rfl, rfl⟩).deeds
  · rintro - ⟨hb, -, hone⟩
    exact ⟨hb, fun h => by simp [Filter.settled] at h, hone⟩
  · intro _ h
    simp [Filter.settled] at h

theorem State.take_deeds (before s : State) (d : Due) : Deeds sound calm s (State.take before s d) := by
  cases d with
  | trip0 => simp only [State.take]; split; exacts [s.trip0Rises_deeds, (Deed.trip _).deeds]
  | trip1 => simp only [State.take]; split; exacts [s.trip1Rises_deeds, (Deed.trip _).deeds]
  | arm => simp only [State.take]; split; exacts [(Deed.trip _).deeds, s.armFalls_deeds]
  | presence p =>
    simp only [State.take]; split; exacts [s.presenceRises_deeds p, (Deed.presenceFalls p).deeds]
  | chan c => exact (Deed.chanTakes _ _ _ _ _).deeds
  | carrier => exact s.carrierTicks_deeds
  | lease => exact Deed.leaseTick.deeds

theorem Filter.wait_level (w : Nat) (f : Filter) : (f.wait w).level = f.level := by
  unfold Filter.wait; split_ifs <;> rfl

/-- The carrier at the end of a sample: its divider runs while it is RUNNING (R27). -/
def Carrier.pass (t : Carrier) : Carrier :=
  match t.run with
  | .running => { t with divider := t.divider.pass (prescaleSamples t.prescale) }
  | .stopped => t

/-- What a sample counts at a port engine: the samples at which PRESx disagrees (R171). -/
def PortEngine.pass (e : PortEngine) : PortEngine := { e with presence := e.presence.wait slowWidth }

/-- What a sample counts, block by block. -/
theorem State.pass_eq (s : State) :
    s.pass = (((((((((s.updPort .a PortEngine.pass).updPort .b PortEngine.pass).updPort .c
      PortEngine.pass).updChan .c0 Channel.pass).updChan .c1 Channel.pass).setTrip s.pass.trip)).setCarrier
        s.carrier.pass).setLeaseClock s.pass.leaseClock) := rfl

theorem State.updPort_pass_deed (s : State) (p : Port) : Deed sound calm s (s.updPort p PortEngine.pass) := by
  refine State.updPort_deed (Filter.wait_level _ _) (fun _ => ⟨rfl, rfl⟩) ?_
  rintro - ⟨hb, habsent, hone⟩
  exact ⟨hb, fun h => habsent (by rwa [PortEngine.pass, Filter.wait_level] at h), hone⟩

theorem State.updChan_pass_deed (s : State) (c : Chan) : Deed sound calm s (s.updChan c Channel.pass) :=
  Deed.filters c _ _ _ _ (Filter.wait_level _ _) (Filter.wait_level _ _) (Filter.wait_level _ _)

theorem State.setCarrier_pass_deeds (s : State) : Deeds sound calm s (s.setCarrier s.carrier.pass) := by
  unfold Carrier.pass
  split
  · exact (Deed.carrierDivider _).deeds
  · exact .refl

theorem State.pass_deeds (s : State) : Deeds sound calm s s.pass := by
  rw [State.pass_eq]
  set s1 := ((s.updPort .a PortEngine.pass).updPort .b PortEngine.pass).updPort .c PortEngine.pass
  set s2 := (s1.updChan .c0 Channel.pass).updChan .c1 Channel.pass
  have hports : Deeds sound calm s s1 :=
    ((s.updPort_pass_deed .a).deeds.tail (State.updPort_pass_deed _ .b)).tail (State.updPort_pass_deed _ .c)
  have hchans : Deeds sound calm s1 s2 :=
    (s1.updChan_pass_deed .c0).deeds.tail (State.updChan_pass_deed _ .c1)
  have hcarrier : Deeds sound calm (s2.setTrip s.pass.trip)
      ((s2.setTrip s.pass.trip).setCarrier s.carrier.pass) := State.setCarrier_pass_deeds (s2.setTrip s.pass.trip)
  exact ((hports.trans hchans).tail (.trip _) |>.trans hcarrier).tail (.leaseClock _)

theorem State.release_deeds (s : State) (pins : Pins) : Deeds sound calm s (s.release pins) := by
  refine (Deed.released pins).deeds.trans (ReflTransGen.trans ?_ (State.deliver_deeds _))
  unfold State.evaluateAtRelease
  dsimp only
  have h1 : ∀ (b : Bool) (t : State) (c : Cause), Deeds sound calm t (if b then t else t.causeOnAll c) := by
    intro b t c; split; exacts [.refl, t.causeOnAll_deeds c]
  have h2 : ∀ (b : Bool) (t : State) (c : Cause), Deeds sound calm t (if b then t.causeOnAll c else t) := by
    intro b t c; split; exacts [t.causeOnAll_deeds c, .refl]
  exact ((h1 _ _ _).trans (h2 _ _ _)).trans (h2 _ _ _)

theorem State.liveSample_deeds (s : State) : Deeds sound calm s s.liveSample := by
  have htakes : Deeds sound calm s.pass
      ((shuffle s.choices s.due.length s.due).foldl (State.take s)
        (s.pass.setChoices (s.choices + s.due.length))) :=
    (Deed.choices _).deeds.trans (Deeds.foldl (State.take_deeds s) _ _)
  exact ((s.pass_deeds.trans htakes).tail .sampleStages).trans (State.deliver_deeds _)

theorem State.sample_deeds (s : State) : Deeds sound calm s s.sample := by
  unfold State.sample
  split
  · unfold State.resetSample
    split
    · exact s.release_deeds _
    · exact (Deed.rst _).deeds
  · exact s.liveSample_deeds

theorem State.samples_deeds (k : Nat) (s : State) : Deeds sound calm s (s.samples k) := by
  induction k generalizing s with
  | zero => exact .refl
  | succ k ih => exact s.sample_deeds.trans (ih _)

/-! ### The carrier's run state (R26) -/

theorem Carrier.pass_run (t : Carrier) : t.pass.run = t.run := by
  unfold Carrier.pass; split <;> rfl

@[simp] theorem State.boundaryWith_carrier (s : State) (first : PerLeg Bool) :
    (s.boundaryWith first).carrier = s.carrier.boundary := by
  simp [State.boundaryWith]

@[simp] theorem State.boundary_carrier (s : State) : s.boundary.carrier = s.carrier.boundary := by
  simp [State.boundary]

theorem Carrier.count_run (t : Carrier) : t.count.run = t.run := by
  unfold Carrier.count; split <;> (try split_ifs) <;> rfl

theorem State.carrierTicks_run (s : State) : s.carrierTicks.carrier.run = s.carrier.run := by
  unfold State.carrierTicks
  split
  · rfl
  · split
    · simp [Carrier.boundary]
    · simp [Carrier.count_run]

/-- What falls due at a sample neither starts nor stops the carrier. -/
theorem State.take_run (before s : State) (d : Due) :
    (State.take before s d).carrier.run = s.carrier.run := by
  cases d with
  | carrier => exact s.carrierTicks_run
  | trip0 | trip1 | arm | presence p => simp only [State.take]; split <;> simp
  | chan c => simp [State.take, State.chanFallsDue]
  | lease => simp [State.take]

theorem State.liveSample_run (s : State) : s.liveSample.carrier.run = s.carrier.run := by
  unfold State.liveSample
  simp only [State.deliver_carrier, State.sampleStages_carrier]
  rw [foldl_frame (fun t => t.carrier.run) (State.take s) (State.take_run s)]
  exact Carrier.pass_run s.carrier

theorem State.samples_run (k : Nat) {s : State} (h : s.rst.inReset = false) :
    (s.samples k).carrier.run = s.carrier.run ∧ (s.samples k).rst.inReset = false := by
  induction k generalizing s with
  | zero => exact ⟨rfl, h⟩
  | succ k ih =>
    have hsample : s.sample = s.liveSample := by simp [State.sample, h]
    have hrst : s.sample.rst.inReset = false := by simpa [hsample] using h
    obtain ⟨hrun, hrst'⟩ := ih hrst
    exact ⟨hrun.trans (by rw [hsample, State.liveSample_run]), hrst'⟩

/-! ### Rows -/

theorem State.event_deeds {s : State} {effect : State → State}
    (h : s.rst.inReset = false → Deeds sound calm s (effect s)) : Deeds sound calm s (s.event effect) := by
  unfold State.event
  split
  · exact .refl
  · next hrst => exact h (by simpa using hrst)

/-- A row at a boundary, which it finds with the carrier RUNNING. -/
theorem State.atBoundary_deeds {s : State} (hrst : s.rst.inReset = false) {act : State → Option State}
    (h : ∀ t u, t.carrier.run = .running → act t = some u → Deeds sound calm t u) :
    Deeds sound calm s (s.atBoundary act) := by
  unfold State.atBoundary
  split
  · exact .refl
  · next hrun =>
    split
    · next u hu =>
      refine (((State.samples_deeds _ s).tail (.carrierDivider _)).trans (h _ u ?_ hu)).trans u.deliver_deeds
      exact (State.samples_run _ hrst).1.trans hrun
    · exact .refl

theorem State.nextTick_deeds (s : State) : Deeds sound calm s s.nextTick := by
  unfold State.nextTick
  split
  · exact .refl
  · exact (((State.samples_deeds _ s).tail (.carrierDivider _)).trans
      (State.carrierTicks_deeds _)).trans (State.deliver_deeds _)

theorem State.tickGiven_deed (s : State) (c : Chan) : Deed sound calm s (s.tickGiven c) := by
  have h : s.tickGiven c = s.updChan c fun ch => { ch with
      x := (s.chan c).x, y := (s.chan c).y, z := (s.chan c).z
      divider := .start (prescaleSamples (s.chan c).config.prescale) } := by
    cases c <;> rfl
  rw [h]
  exact .filters c _ _ _ _ rfl rfl rfl

theorem State.inputsChange_deeds (s : State) (c : Chan) (l : Levels) :
    Deeds sound calm s (s.inputsChange c l) := by
  unfold State.inputsChange
  dsimp only
  refine ReflTransGen.trans (ReflTransGen.trans ?_ (Deed.chanTakes _ _ _ _ _).deeds) (State.deliver_deeds _)
  split
  · exact (s.tickGiven_deed c).deeds
  · exact .refl

theorem State.changeRow_deeds (s : State) (c : Chan) (change : Channel → Option Levels) :
    Deeds sound calm s (s.changeRow c change) := by
  rcases s.changeRow_cases c change with ⟨-, h⟩ | ⟨l, -, -, h⟩ | ⟨l, -, -, h⟩
  · rw [h]
  · exact h ▸ s.inputsChange_deeds c l
  · rw [h]
    split
    · exact .refl
    · exact s.sample_deeds.trans (State.inputsChange_deeds _ c _)

theorem State.intervalTickGiven_deeds (s : State) (c : Chan) :
    Deeds sound calm s (s.intervalTickGiven c) := by
  unfold State.intervalTickGiven
  split
  · exact s.sample_deeds
  · exact ((s.tickGiven_deed c).deeds.tail (.intervalTick c)).trans (State.deliver_deeds _)

theorem State.nextSaturation_deeds (s : State) (c : Chan) (mode : Channel → Bool) :
    Deeds sound calm s (s.nextSaturation c mode) := by
  unfold State.nextSaturation
  dsimp only
  split
  · split
    · exact (State.samples_deeds _ s).trans (State.intervalTickGiven_deeds _ c)
    · exact .refl
  · exact .refl

theorem State.leaseTicks_deeds (s : State) : Deeds sound calm s s.leaseTicks :=
  ((Deed.leaseClock _).deeds.tail .leaseTick).trans (State.deliver_deeds _)

/-- An engine whose transaction goes on has a present host: an absent engine has none (R158). -/
theorem PortEngine.Sound.present_of_current {e : PortEngine} (h : e.Sound) {t : Transaction}
    (ht : e.current = some t) : e.presence.level = true := by
  obtain ⟨-, habsent, -⟩ := h
  by_contra hlevel
  have hlevel : e.presence.level = false := by simpa using hlevel
  obtain ⟨-, -, -, -, -, -, hnone⟩ := habsent hlevel
  simp [PortEngine.current, hnone, hlevel] at ht

theorem State.rise_deeds {s : State} {p : Port} {kind : TransactionKind} {bytes : List Byte}
    {act : State → Transaction → State} (hs : sound → (s.port p).Sound)
    (h : ∀ t, (sound → (s.port p).presence.level = true) →
      Deeds sound calm s (act s t)) : Deeds sound calm s (s.rise p kind bytes act) := by
  unfold State.rise
  split
  · refine (State.updPort_deed rfl (fun _ => ⟨rfl, rfl⟩) ?_).deeds
    rintro - ⟨hb, habsent, -⟩
    exact ⟨hb, habsent, fun h => by simp at h⟩
  · refine State.event_deeds fun _ => ?_
    split
    · next t ht =>
      split
      · exact h t fun hsound => (hs hsound).present_of_current ht
      · exact .refl
    · exact .refl

/-- The rows that move commands or answers: a host command, a command's own transaction, a fetch of an answer. -/
def MovesQueues (i : Instr) : Prop :=
  (encodeFrame i).isSome = true ∨ (∃ p b r, i = .commandTransaction p b r) ∨ ∃ p b, i = .fetchResponse p b

/-- An engine that loses at most frames, and ends its transaction, stays sound. -/
theorem PortEngine.Sound.ended {e e' : PortEngine} (h : e.Sound) (hpresent : e'.presence.level = true)
    (hc : e'.commands.length ≤ 4) (hr : e'.responses.length ≤ e.responses.length)
    (hn : e'.notices.length ≤ 16) (hl : e'.lost ≤ 255) (ht : e'.txn = none) : e'.Sound := by
  obtain ⟨⟨-, hr', -, -⟩, -, -⟩ := h
  exact ⟨⟨hc, hr.trans hr', hn, hl⟩, fun h => by simp [hpresent] at h, fun _ => ht⟩

theorem PortEngine.receive_fields (e : PortEngine) (bytes : List Byte) (ragged : Bool) :
    (e.receive bytes ragged).presence = e.presence ∧ (e.receive bytes ragged).responses = e.responses
      ∧ (e.receive bytes ragged).notices = e.notices ∧ (e.receive bytes ragged).lost = e.lost
      ∧ (e.receive bytes ragged).txn = e.txn
      ∧ (e.commands.length ≤ 4 → (e.receive bytes ragged).commands.length ≤ 4) := by
  unfold PortEngine.receive
  split
  · exact ⟨rfl, rfl, rfl, rfl, rfl, id⟩
  · exact ⟨rfl, rfl, rfl, rfl, rfl, id⟩
  · unfold PortEngine.enqueue
    split
    · exact ⟨rfl, rfl, rfl, rfl, rfl, id⟩
    · exact ⟨rfl, rfl, rfl, rfl, rfl, fun _ => by simp; omega⟩

theorem execStatusCapture_deeds (p : Port) (s : State) :
    Deeds sound calm s (s.updPort p
      (if s.portLive p then PortEngine.beginTransaction else PortEngine.ignoreTransaction)) := by
  split
  · next hlive =>
    have hpresent : (s.port p).presence.level = true := by
      simp only [State.portLive, Bool.and_eq_true] at hlive
      exact hlive.2
    refine (State.updPort_deed rfl (fun _ => ⟨rfl, rfl⟩) ?_).deeds
    rintro - ⟨hb, -, -⟩
    exact ⟨hb, fun h => by simp [PortEngine.beginTransaction, hpresent] at h, fun h => by
      simp [PortEngine.beginTransaction] at h⟩
  · refine (State.updPort_deed rfl (fun _ => ⟨rfl, rfl⟩) ?_).deeds
    rintro - ⟨hb, habsent, -⟩
    refine ⟨hb, fun h => ?_, fun _ => rfl⟩
    obtain ⟨hc, hr, hn, hl, hs, hm, -⟩ := habsent h
    exact ⟨hc, hr, hn, hl, hs, hm, rfl⟩

theorem State.frameFixed_deed {s : State} {p : Port} {t : Transaction} (ht : (s.port p).current = some t)
    (t' : Transaction) : Deed sound calm s (s.updPort p fun e => { e with txn := some t' }) := by
  refine State.updPort_deed rfl (fun _ => ⟨rfl, rfl⟩) ?_
  rintro - h
  have hignoring : (s.port p).ignoring = false := by
    by_contra hi
    have hi : (s.port p).ignoring = true := by simpa using hi
    simp [PortEngine.current, h.2.2 hi, hi] at ht
  have hpresent := h.present_of_current ht
  exact ⟨h.1, fun h => by simp [hpresent] at h, fun h => by simp [hignoring] at h⟩

theorem execCommandTransaction_deeds (hloud : ¬ calm) {s : State} (p : Port) (bytes : List Byte)
    (ragged : Bool) (t : Transaction) (hpresent : sound → (s.port p).presence.level = true) :
    Deeds sound calm s ((s.updPort p fun e =>
      (e.endTransaction t bytes.length).receive bytes.tail ragged).takeWaiting p) := by
  obtain ⟨hp, hr, hn, hl, ht, hc⟩ :=
    ((s.port p).endTransaction t bytes.length).receive_fields bytes.tail ragged
  refine (State.updPort_deed (by rw [hp]; rfl) (fun hcalm => absurd hcalm hloud) fun hsound h => ?_).deeds.trans
    (State.takeWaiting_deeds hloud fun hsound => ?_)
  · refine h.ended ?_ (hc h.1.1) (le_of_eq (congrArg List.length hr)) ?_ ?_ ht
    · rw [hp]; exact hpresent hsound
    · rw [hn]; exact h.1.2.2.1
    · rw [hl]; exact h.1.2.2.2
  · simp only [State.updPort_port, if_true, hp]
    exact hpresent hsound

theorem State.removeResponse_deed (hloud : ¬ calm) {s : State} {p : Port} (t : Transaction) (k : Nat)
    (hpresent : sound → (s.port p).presence.level = true) :
    Deed sound calm s (s.updPort p fun e => (e.endTransaction t k).removeResponse) :=
  State.updPort_deed rfl (fun hcalm => absurd hcalm hloud) fun hsound h => h.ended (hpresent hsound) h.1.1
    (by simp [PortEngine.removeResponse, PortEngine.endTransaction]) h.1.2.2.1 h.1.2.2.2 rfl

theorem PortEngine.removeNotice_fields (e : PortEngine) (k : Half) :
    (e.removeNotice k).presence = e.presence ∧ (e.removeNotice k).responses = e.responses
      ∧ (e.removeNotice k).commands = e.commands ∧ (e.removeNotice k).txn = e.txn
      ∧ (e.notices.length ≤ 16 → (e.removeNotice k).notices.length ≤ 16)
      ∧ (e.lost ≤ 255 → (e.removeNotice k).lost ≤ 255) := by
  unfold PortEngine.removeNotice
  split
  · refine ⟨rfl, rfl, rfl, rfl, fun h => ?_, fun _ => by simp⟩
    cases he : e.notices with
    | nil => simp
    | cons x xs => simpa [he] using h
  · exact ⟨rfl, rfl, rfl, rfl, fun h => by simp; omega, id⟩

theorem State.removeNotice_deed {s : State} {p : Port} (t : Transaction) (k : Nat) (period : Half)
    (hpresent : sound → (s.port p).presence.level = true) :
    Deed sound calm s (s.updPort p fun e => (e.endTransaction t k).removeNotice period) := by
  obtain ⟨hp, hr, hc, ht, hn, hl⟩ := ((s.port p).endTransaction t k).removeNotice_fields period
  refine State.updPort_deed (by rw [hp]; rfl) (fun _ => ⟨hc, hr⟩) fun hsound h => h.ended ?_ ?_ ?_ (hn h.1.2.2.1)
    (hl h.1.2.2.2) ht
  · rw [hp]; exact hpresent hsound
  · rw [hc]; exact h.1.1
  · rw [hr]; exact le_refl _

theorem State.endTransaction_deed {s : State} {p : Port} (t : Transaction) (k : Nat)
    (hpresent : sound → (s.port p).presence.level = true) (sticky : Sticky) :
    Deed sound calm s (s.updPort p fun e => { e.endTransaction t k with sticky := sticky }) :=
  State.updPort_deed rfl (fun _ => ⟨rfl, rfl⟩) fun hsound h => h.ended (hpresent hsound) h.1.1 (le_refl _) h.1.2.2.1
    h.1.2.2.2 rfl

/-- The rows that end a transaction, and those inside one. -/
theorem exec_transaction_deeds {i : Instr} {s t : State} (hs : sound → s.PortsOk) (hcalm : calm → ¬ MovesQueues i)
    (hi : (∃ p, i = .statusCapture p) ∨ (∃ p q, i = .fetchFrameFixed p q)
      ∨ (∃ p b r, i = .commandTransaction p b r) ∨ (∃ p b, i = .fetchResponse p b)
      ∨ (∃ p b, i = .fetchNotice p b) ∨ ∃ p b, i = .framingFault p b)
    (h : exec i s = .next t) : Deeds sound calm s t := by
  rcases hi with ⟨p, rfl⟩ | ⟨p, q, rfl⟩ | ⟨p, b, r, rfl⟩ | ⟨p, b, rfl⟩ | ⟨p, b, rfl⟩ | ⟨p, b, rfl⟩
    <;> cases h
  · exact execStatusCapture_deeds p s
  · refine State.event_deeds fun _ => ?_
    split
    · next t ht =>
      split
      · exact (State.frameFixed_deed ht _).deeds
      · exact .refl
    · exact .refl
  · exact State.rise_deeds (fun hsound => hs hsound p) fun t hpresent =>
      execCommandTransaction_deeds (fun hc => hcalm hc (.inr (.inl ⟨p, b, r, rfl⟩))) p b r t hpresent
  · refine State.rise_deeds (fun hsound => hs hsound p) fun t hpresent => ?_
    have hloud : ¬ calm := fun hc => hcalm hc (.inr (.inr ⟨p, b, rfl⟩))
    split
    · refine (State.removeResponse_deed hloud t _ hpresent).deeds.trans (State.takeWaiting_deeds hloud ?_)
      simpa [PortEngine.removeResponse, PortEngine.endTransaction] using hpresent
    · exact (State.endTransaction_deed t b.length hpresent (t.clears b.length (s.port p).sticky)).deeds
  · refine State.rise_deeds (fun hsound => hs hsound p) fun t hpresent => ?_
    split
    · exact (State.removeNotice_deed t _ _ hpresent).deeds
    · exact (State.endTransaction_deed t b.length hpresent (t.clears b.length (s.port p).sticky)).deeds
  · exact State.rise_deeds (fun hsound => hs hsound p) fun t hpresent =>
      (State.endTransaction_deed t b.length hpresent
        { t.clears b.length (s.port p).sticky with framing := true }).deeds

/-- A row that runs the next boundary where its event is due there. -/
theorem State.atBoundary_if_deeds {s : State} (hrst : s.rst.inReset = false) (due : State → Bool)
    (act : State → State) (h : ∀ t : State, t.carrier.run = .running → Deeds sound calm t (act t)) :
    Deeds sound calm s (s.atBoundary fun t => if due t then some (act t) else none) := by
  refine State.atBoundary_deeds hrst fun t u hrun hu => ?_
  split at hu
  · cases hu; exact h t hrun
  · cases hu

theorem execRearmCompletion_deeds (n : Leg) (s : State) (hrst : s.rst.inReset = false) :
    Deeds sound calm s (match s.carrier.run with
      | .running => s.atBoundary fun t => if (t.leg n).phase.rearmPending then some t.boundary else none
      | .stopped => if (s.leg n).phase.rearmPending then (s.completeRearm n).deliver else s) := by
  split
  · exact State.atBoundary_if_deeds hrst _ State.boundary fun _ => State.boundary_deeds
  · split
    · exact ReflTransGen.trans (Deed.rearms n).deeds (State.deliver_deeds _)
    · exact .refl

/-- Every row is a sequence of deeds. -/
theorem exec_deeds {i : Instr} {s t : State} (hs : sound → s.PortsOk) (hcalm : calm → ¬ MovesQueues i)
    (h : exec i s = .next t) : Deeds sound calm s t := by
  cases i
  case statusCapture | fetchFrameFixed | commandTransaction | fetchResponse | fetchNotice | framingFault =>
    exact exec_transaction_deeds hs hcalm (by simp) h
  case unknown p seq code args =>
    cases h
    split
    · exact .refl
    · exact s.submit_deeds (fun hc => hcalm hc (.inl rfl)) (.unknown p seq code args)
  all_goals cases h
  case presenceFall p =>
    refine State.event_deeds fun _ => ?_
    split
    · exact (Deed.presenceFalls p).deeds.trans (State.deliver_deeds _)
    · exact .refl
  case presenceRise p =>
    refine State.event_deeds fun _ => ?_
    split
    · exact .refl
    · exact s.presenceRises_deeds p
  case resetAssert source => exact (Deed.abandon _).deeds
  case resetRelease pins =>
    split
    · exact s.release_deeds pins
    · exact .refl
  case carrierTick => exact State.event_deeds fun _ => s.nextTick_deeds
  case periodBoundary =>
    refine State.event_deeds fun hrst => State.atBoundary_deeds hrst fun t u hrun hu => ?_
    cases hu
    exact State.boundary_deeds hrun
  case segmentLengthExpiry n =>
    exact State.event_deeds fun hrst =>
      State.atBoundary_if_deeds hrst _ State.boundary fun _ => State.boundary_deeds
  case syncBreak m =>
    exact State.event_deeds fun hrst =>
      State.atBoundary_if_deeds hrst _ State.boundary fun _ => State.boundary_deeds
  case escalation n =>
    exact State.event_deeds fun hrst =>
      State.atBoundary_if_deeds hrst _ (fun t => t.escalationBoundary n) fun _ hrun =>
        State.escalationBoundary_deeds hrun n
  case rearmCompletion n => exact State.event_deeds fun hrst => execRearmCompletion_deeds n s hrst
  case leaseTick =>
    exact State.event_deeds fun _ => (State.samples_deeds _ s).trans (State.leaseTicks_deeds _)
  case leaseExpiry r =>
    refine State.event_deeds fun _ => ?_
    split
    · exact (State.samples_deeds _ s).trans (State.leaseTicks_deeds _)
    · exact .refl
  case trip0Active =>
    refine State.event_deeds fun _ => ?_
    split
    · exact .refl
    · exact s.trip0Rises_deeds.trans (State.deliver_deeds _)
  case trip0Inactive =>
    refine State.event_deeds fun _ => ?_
    split
    · exact (Deed.trip _).deeds
    · exact .refl
  case trip1Active =>
    refine State.event_deeds fun _ => ?_
    split
    · exact .refl
    · exact s.trip1Rises_deeds.trans (State.deliver_deeds _)
  case trip1Inactive =>
    refine State.event_deeds fun _ => ?_
    split
    · exact (Deed.trip _).deeds
    · exact .refl
  case disarm =>
    refine State.event_deeds fun _ => ?_
    split
    · exact s.armFalls_deeds.trans (State.deliver_deeds _)
    · exact .refl
  case armHigh =>
    refine State.event_deeds fun _ => ?_
    split
    · exact .refl
    · exact (Deed.trip _).deeds
  case sideTurnOn n side =>
    refine State.event_deeds fun _ => ?_
    split
    · exact s.liveSample_deeds
    · exact .refl
  case intervalTick c =>
    exact State.event_deeds fun _ => (State.samples_deeds _ s).trans (State.intervalTickGiven_deeds _ c)
  case stall c | captureSaturation c => exact State.event_deeds fun _ => s.nextSaturation_deeds c _
  case quadInputChange c x y | stepDirEdge c y | upDownEdge c x y | indexEdge c | captureEdge c
      | acceptedLevelChange c x y z =>
    exact State.event_deeds fun _ => s.changeRow_deeds c _
  all_goals exact s.submit_deeds (fun hc => hcalm hc (.inl rfl)) _

/-- Every step is a sequence of deeds, from the state without the row that it takes. -/
theorem step_deeds {s t : State} (hs : sound → s.PortsOk) (hloud : ¬ calm) (h : step s = .next t) :
    ∃ q, Deeds sound calm (s.setPending q) t := by
  unfold step at h
  split at h
  · cases h
    exact ⟨s.pending, s.sample_deeds⟩
  · next i rest _ => exact ⟨rest, exec_deeds (s := s.setPending rest) hs (fun hc => absurd hc hloud) h⟩

/-- An invariant that does not look at the queue of waiting rows, and that every deed keeps, is kept by every
step. -/
theorem step_keeps {P : State → Prop} (hpending : ∀ s q, P s → P (s.setPending q))
    (hdeed : ∀ s t, P s → Deed False False s t → P t) {s t : State} (hs : P s) (h : step s = .next t) : P t := by
  obtain ⟨q, hdeeds⟩ := step_deeds (sound := False) (calm := False) False.elim id h
  exact hdeeds.keep hdeed (hpending s q hs)

end Sys2Proof.Machine
end

section
/-! PROOFS. What each operation makes of a leg: the leg it names, and every other leg as it was. -/

namespace Sys2Proof.Machine

open Sys2Proof

-- One theorem at a time, as in the tests: proofs that wait for the kernel would each hold a thread.
set_option Elab.async false

/-! ### Plans, rearms and causes (R20, R114, R122) -/

/-- A leg whose plan is taken: an empty queue, and a LEASE cut on its active segment (R20). -/
def LegUnit.planGone (u : LegUnit) : LegUnit := { u with queue := [] }.cutForLease

theorem State.planTaken_leg (s : State) (n k : Leg) :
    (s.planTaken n).leg k = if k = n then (s.leg k).planGone else s.leg k := by
  rw [← State.flushQueue_cutForLease]
  by_cases h : k = n
  · subst h; simp [State.flushQueue_leg, LegUnit.planGone]
  · simp [State.flushQueue_leg, h]

theorem State.flushAndCut_leg (s : State) (n k : Leg) :
    (s.flushAndCut n).leg k = if k = n then (s.leg k).planGone else s.leg k := by
  rw [State.flushAndCut_eq, ← s.planTaken_leg]
  split <;> simp

/-- The end of a lease takes the plan of its leg, and leaves every other leg alone (R20, R95, R103). -/
theorem State.endLease_leg (s : State) (r : Resource) (k : Leg) :
    (s.endLease r).leg k = if r = .leg k then (s.leg k).planGone else s.leg k := by
  cases r with
  | leg n =>
    simp only [State.endLease, State.flushAndCut_leg, State.updLease_leg, Resource.leg.injEq, eq_comm]
  | carrier | chan c => simp [State.endLease]

theorem State.clearSeized_leg (s : State) (r : Resource) (k : Leg) :
    (s.clearSeized r).leg k = if r = .leg k then (s.leg k).planGone else s.leg k := by
  cases r with
  | leg n => simp only [State.clearSeized, State.flushAndCut_leg, Resource.leg.injEq, eq_comm]
  | carrier | chan c => simp [State.clearSeized]

theorem State.completeRearm_tripped {s : State} {n : Leg} {rec : TripRecord}
    (h : (s.leg n).phase = .tripped rec) :
    s.completeRearm n = (s.changeLeg n LegUnit.toIdle).post (.resource (.leg n)) (s.tripPorts n)
      ⟨.rearmed rec.first (s.leg n).tripCount, .leg n, none, s.periodLow⟩ := by
  simp [State.completeRearm, h]

theorem State.completeRearm_other {s : State} {n : Leg} (h : (s.leg n).phase.isTripped = false) :
    s.completeRearm n = s := by
  cases hp : (s.leg n).phase <;> simp_all [State.completeRearm, LegPhase.isTripped]

theorem LegPhase.isTripped_iff (f : LegPhase) : f.isTripped = true ↔ ∃ rec, f = .tripped rec := by
  cases f <;> simp [LegPhase.isTripped]

theorem State.completeRearm_leg (s : State) (n k : Leg) :
    (s.completeRearm n).leg k
      = if k = n ∧ (s.leg k).phase.isTripped = true then (s.leg k).toIdle.settle s.carrier.counter
        else s.leg k := by
  cases ht : (s.leg n).phase.isTripped with
  | true =>
    obtain ⟨rec, hrec⟩ := (LegPhase.isTripped_iff _).mp ht
    by_cases h : k = n
    · subst h; simp [State.completeRearm_tripped hrec, ht]
    · simp [State.completeRearm_tripped hrec, h]
  | false =>
    rw [State.completeRearm_other ht]
    by_cases h : k = n
    · subst h; simp [ht]
    · simp [h]

theorem LegPhase.rearmPending_isTripped {f : LegPhase} (h : f.rearmPending = true) : f.isTripped = true := by
  cases f <;> simp_all [LegPhase.rearmPending, LegPhase.isTripped]

theorem State.completeIfPending_leg (s : State) (n k : Leg) :
    (s.completeIfPending n).leg k
      = if k = n ∧ (s.leg k).phase.rearmPending = true then (s.leg k).toIdle.settle s.carrier.counter
        else s.leg k := by
  unfold State.completeIfPending
  by_cases h : k = n
  · subst h
    by_cases hr : (s.leg k).phase.rearmPending = true
    · simp [hr, State.completeRearm_leg, LegPhase.rearmPending_isTripped hr]
    · simp [hr]
  · split <;> simp [State.completeRearm_leg, h]

/-- The leg that a trip leaves (R112, R113). -/
def LegUnit.trippedBy (u : LegUnit) (c : Cause) (period : Dword) (counter : Nat) : LegUnit :=
  { u with
    phase := .tripped ⟨c, period, u.phase.activeTag, .empty, false⟩
    queue := [], tripCount := count255 u.tripCount, limited := false
    stage := { u.stage with cycleCut := false } }.settle counter

/-- The leg that a cause leaves: TRIPPED anew, or with the cause in its record (R112, R114). -/
def LegUnit.caused (u : LegUnit) (c : Cause) (period : Dword) (counter : Nat) : LegUnit :=
  match u.phase with
  | .tripped rec => u.joined rec c
  | .idle | .running _ | .holding _ => u.trippedBy c period counter

theorem State.causeArises_leg (s : State) (n k : Leg) (c : Cause) :
    (s.causeArises n c).leg k
      = if k = n then (s.leg k).caused c s.carrier.period s.carrier.counter else s.leg k := by
  by_cases h : k = n
  · subst h
    simp only [if_true]
    cases hp : (s.leg k).phase with
    | tripped rec =>
      rw [State.causeArises_tripped _ _ _ rec hp]
      simp [LegUnit.caused, hp, LegUnit.joined]
    | idle | running _ | holding _ =>
      rw [State.causeArises_latches _ _ _ (by rw [hp]; rfl), State.latchTrip_leg]
      simp [LegUnit.caused, hp, LegUnit.trippedBy]
  · simp only [h, if_false]
    exact State.leg_of_aboutLeg_eq (State.aboutLeg_causeArises (Ne.symm h))

theorem State.setCut_leg (s : State) (n k : Leg) :
    (s.setCut n).leg k
      = if k = n then
          { s.leg k with limited := true, stage := { (s.leg k).stage with cycleCut := true } }.settle
            s.carrier.counter
        else s.leg k := by
  unfold State.setCut
  dsimp only
  split <;> simp

/-! ### Counted steps (R148) -/

theorem State.countStep_leg (s : State) (c : Chan) (up : Bool) (k : Leg) :
    (s.countStep c up).leg k = (s.leg k).examine c ((s.chan c).step up).1 up := by
  unfold State.countStep
  dsimp only
  split <;> simp

theorem State.acceptLevels_leg (s : State) (c : Chan) (x y z : Bool) (k : Leg) :
    (s.acceptLevels c x y z).leg k = s.leg k
      ∨ ∃ d position up, (s.acceptLevels c x y z).leg k = (s.leg k).examine d position up := by
  unfold State.acceptLevels
  dsimp only
  cases (s.chan c).countEvent x y with
  | none => left; split <;> split <;> simp
  | phaseError => left; split <;> split <;> simp
  | step up =>
    right
    refine ⟨c, (((s.chan c).withLevels x y z).step up).1, up, ?_⟩
    split <;> split <;> simp [State.countStep_leg]

/-- What a channel takes at a sample changes no leg, or lets every leg examine one counted step (R148). -/
theorem State.chanTakes_leg (s : State) (c : Chan) (tick x y z : Bool) (k : Leg) :
    (s.chanTakes c tick x y z).leg k = s.leg k
      ∨ ∃ d position up, (s.chanTakes c tick x y z).leg k = (s.leg k).examine d position up := by
  unfold State.chanTakes
  split
  · unfold State.tickAndAccept
    dsimp only
    split
    · simpa using State.acceptLevels_leg (s.setChan c (s.chan c).raised) c x y z k
    all_goals
      simpa using State.acceptLevels_leg
        ((s.setChan c (s.chan c).raised).saturate c (s.chan c).timer) c x y z k
  · exact s.acceptLevels_leg c x y z k

/-! ### A leg at a boundary (R7, R9 to R11) -/

/-- What the head of the queue makes of a leg that has no active segment going on (R9, R10, R11). -/
def LegUnit.followed (u : LegUnit) (answer : Option SyncAnswer) (counter : Nat) : LegUnit :=
  match u.queue with
  | [] => if reportsIdle u.phase then u.toIdle.settle counter else u
  | head :: rest =>
    match head.sync, answer with
    | none, _ | some _, some .advance =>
      { u with phase := .running ⟨head, 0, false, .none⟩, queue := rest }.settle counter
    | some _, some .hold => { u with phase := .holding (heldAfter u.phase) }.settle counter
    | some _, some .brk => { u with queue := [] }.toIdle.settle counter
    | some _, none => u

/-- A leg after it has taken a boundary, with the Sync Unit's answer to its offer. -/
def LegUnit.taken (u : LegUnit) (answer : Option SyncAnswer) (counter : Nat) : LegUnit :=
  match u.phase with
  | .tripped _ => u
  | .running a =>
    match a.age.endReason u.queue.length with
    | none => { u with phase := .running a.age }
    | some _ => { u with phase := .running a.age }.followed answer counter
  | .idle | .holding _ => u.followed answer counter

@[simp] theorem State.goIdle_leg (s : State) (n k : Leg) :
    (s.goIdle n).leg k = if k = n then (s.leg k).toIdle.settle s.carrier.counter else s.leg k := by
  unfold State.goIdle
  dsimp only
  split <;> simp

@[simp] theorem State.activate_leg (s : State) (n k : Leg) (head : Segment) (rest : List Segment) :
    (s.activate n head rest).leg k
      = if k = n then { s.leg k with phase := .running ⟨head, 0, false, .none⟩, queue := rest }.settle
          s.carrier.counter
        else s.leg k := by
  unfold State.activate
  dsimp only
  split <;> simp

@[simp] theorem State.breakLeg_leg (s : State) (n k : Leg) (head : Segment) (f : SyncField) :
    (s.breakLeg n head f).leg k
      = if k = n then { s.leg k with queue := [] }.toIdle.settle s.carrier.counter else s.leg k := by
  unfold State.breakLeg
  by_cases h : k = n <;> simp [h]

/-- What follows an ended segment, or an IDLE or HOLDING leg, in terms of the leg alone. -/
theorem State.follow_leg (s : State) (n k : Leg) (ended : Option (Active × EndReason))
    (answer : Option SyncAnswer) (hended : ended.isSome = true → reportsIdle (s.leg n).phase = true) :
    (s.follow n ended answer).leg k
      = if k = n then (s.leg k).followed answer s.carrier.counter else s.leg k := by
  by_cases h : k = n
  · subst h
    cases hq : (s.leg k).queue with
    | nil =>
      cases ended with
      | none => by_cases hr : reportsIdle (s.leg k).phase = true <;> simp [State.follow, LegUnit.followed, hq, hr]
      | some e =>
        obtain ⟨a, reason⟩ := e
        have hr := hended rfl
        by_cases hquiet : a.seg.final = true ∨ reason = .lease <;>
          simp [State.follow, LegUnit.followed, hq, hr, hquiet]
    | cons head rest =>
      cases hsync : head.sync with
      | none => simp [State.follow, LegUnit.followed, hq, hsync]
      | some f =>
        rcases answer with _ | _ | _ | _ <;> simp [State.follow, LegUnit.followed, hq, hsync]
  · unfold State.follow
    simp only [h, if_false]
    split
    · split
      · split <;> simp [h]
      · split <;> simp [h]
    · split <;> simp [h]

theorem State.takeBoundary_leg (s : State) (n k : Leg) (answer : Option SyncAnswer) :
    (s.takeBoundary n answer).leg k
      = if k = n then (s.leg k).taken answer s.carrier.counter else s.leg k := by
  unfold State.takeBoundary
  cases hp : (s.leg n).phase with
  | tripped rec =>
    by_cases h : k = n
    · subst h; simp [LegUnit.taken, hp]
    · simp [h]
  | idle =>
    by_cases h : k = n
    · subst h; simp [State.follow_leg, LegUnit.taken, hp]
    · simp [State.follow_leg, h]
  | holding x =>
    by_cases h : k = n
    · subst h; simp [State.follow_leg, LegUnit.taken, hp]
    · simp [State.follow_leg, h]
  | running a =>
    dsimp only
    split
    · next hend =>
      by_cases h : k = n
      · subst h; simp [LegUnit.taken, hp, hend]
      · simp [h]
    · next reason hend =>
      rw [State.follow_leg _ _ _ _ _ (by simp [reportsIdle])]
      by_cases h : k = n
      · subst h; simp [LegUnit.taken, hp, hend]
      · simp [h]

/-! ### The Trip Unit at a boundary (R118, R120, R122) -/

/-- A leg that escalates: its run count is kept and it trips (R120). -/
def LegUnit.escalated (u : LegUnit) (run : Nat) (period : Dword) (counter : Nat) : LegUnit :=
  { u with runCount := run }.caused .escalated period counter

theorem State.escalate_leg (s : State) (n k : Leg) (run : Nat) :
    (s.escalate n run).leg k
      = if k = n then (s.leg k).escalated run s.carrier.period s.carrier.counter else s.leg k := by
  unfold State.escalate
  by_cases h : k = n
  · subst h; simp [State.causeArises_leg, LegUnit.escalated]
  · simp [State.causeArises_leg, h]

/-- The cycle cut with which a leg starts the period after a boundary (R117). -/
def LegUnit.cutAfter (u before : LegUnit) (trip0 : Bool) : Bool :=
  trip0 && (u.stage.cycleCut || (decide (before.phase = .idle) && decide (u.config.response = .cycle)))

/-- A leg whose period the Trip Unit has closed (R117, R118, R120, R122). -/
def LegUnit.closed (u before : LegUnit) (trip0 : Bool) (period : Dword) (counter : Nat) : LegUnit :=
  match u.phase with
  | .tripped rec => if rec.rearm then u.toIdle.settle counter else u
  | .idle => u.toIdle.settle counter
  | .running _ | .holding _ =>
    if before.escalates then u.escalated before.closedRun period counter
    else
      { u with
        limited := u.cutAfter before trip0, runCount := before.closedRun
        stage := { u.stage with cycleCut := u.cutAfter before trip0 } }.settle counter

theorem State.closePeriod_leg (s : State) (n k : Leg) (before : LegUnit) :
    (s.closePeriod n before).leg k
      = if k = n then
          (s.leg k).closed before s.trip.trip0.level s.carrier.period s.carrier.counter
        else s.leg k := by
  unfold State.closePeriod
  dsimp only
  by_cases h : k = n
  · subst h
    simp only [if_true]
    cases hp : (s.leg k).phase with
    | tripped rec => simp [State.completeIfPending_leg, LegUnit.closed, hp, LegPhase.rearmPending]
    | idle => simp [LegUnit.closed, hp]
    | running _ | holding _ =>
      dsimp only
      split
      · next he => simp [State.escalate_leg, LegUnit.closed, hp, he]
      · next he => split <;> simp [LegUnit.closed, hp, he, LegUnit.cutAfter]
  · simp only [h, if_false]
    cases (s.leg n).phase with
    | tripped rec => simp [State.completeIfPending_leg, h]
    | idle => simp [h]
    | running _ | holding _ =>
      dsimp only
      split
      · simp [State.escalate_leg, h]
      · split <;> simp [h]

end Sys2Proof.Machine
end

section
/-! PROOFS. Every row answers a next state and keeps the queue of waiting rows (R164, R165, R176). -/

namespace Sys2Proof.Machine

open Sys2Proof

-- One theorem at a time, as in the tests: proofs that wait for the kernel would each hold a thread.
set_option Elab.async false

/-- Settles O1: by the definition of a step. -/
theorem stepTakesFrontOfQueue : Obligations.StepTakesFrontOfQueue := fun _ _ _ => rfl

theorem Effect.pending {s t : State} {p : Port} (h : Effect s p t) : t.pending = s.pending := by
  cases h
  case wait r n _ _ _ =>
    unfold State.joinWaiters
    dsimp only
    split
    · rfl
    · split <;> rfl
  case renew rs => exact foldl_frame State.pending _ (fun s r => by simp) rs s
  case stop => exact foldl_frame State.pending _ State.completeIfPending_pending Leg.all _
  case seize r n _ _ | seizeTold r n _ _ q x => cases r <;> simp [State.clearSeized, State.grantTo]
  all_goals simp [State.grantTo]

/-- No deed touches the queue of waiting rows (log entries 2 and 8). -/
theorem Deed.pending {sound calm : Prop} {s t : State} (h : Deed sound calm s t) : t.pending = s.pending := by
  cases h
  case command p hpresent heffect => exact heffect.pending
  case abandon | released | choices | outbox | rst | trip | leaseClock | carrierDivider => rfl
  all_goals simp

/-- Settles O2: every row answers next by its definition, and its deeds keep the queue. -/
theorem everyRowAnswersNext : Obligations.EveryRowAnswersNext := by
  intro i s
  have hnext : ∃ t, exec i s = .next t := by cases i <;> exact ⟨_, rfl⟩
  obtain ⟨t, ht⟩ := hnext
  refine ⟨t, ht, ?_⟩
  exact (exec_deeds (sound := False) (calm := False) False.elim False.elim ht).keep (P := fun u => u.pending = s.pending)
    (fun _ _ hu hdeed => hdeed.pending.trans hu) rfl

end Sys2Proof.Machine
end

section
/-! PROOFS. Every step keeps the Leg Units and the output stages legal (R3, R6, R57 to R63, R112, R117, R118). -/

namespace Sys2Proof.Machine

open Sys2Proof

/-! ### One leg -/

/-- What of a legal leg does not depend on the carrier count: the Leg Unit itself, and that no sample left both
sides on or a count above a byte. -/
def LegUnit.Sturdy (u : LegUnit) : Prop :=
  u.Ok ∧ ¬ (u.stage.high.driven = true ∧ u.stage.low.driven = true)
    ∧ u.stage.high.count ≤ 255 ∧ u.stage.low.count ≤ 255

/-- A legal leg whose stage follows it at a carrier count. -/
def LegUnit.Fit (u : LegUnit) (counter : Nat) : Prop := u.Ok ∧ u.StageFollows counter

theorem LegUnit.fit_iff (u : LegUnit) (c : Nat) :
    u.Fit c ↔ u.Sturdy ∧ u.stage.reference = u.referenceAt c
      ∧ (u.stage.high.demand, u.stage.low.demand) = u.demandsAt c := by
  unfold LegUnit.Fit LegUnit.Sturdy LegUnit.StageFollows
  tauto

theorem LegUnit.Fit.sturdy {u : LegUnit} {c : Nat} (h : u.Fit c) : u.Sturdy := ((u.fit_iff c).mp h).1

/-- A stage that follows a sturdy leg makes it fit. -/
theorem LegUnit.Sturdy.settle {u : LegUnit} (h : u.Sturdy) (c : Nat) : (u.settle c).Fit c :=
  ((u.settle c).fit_iff c).mpr ⟨h, rfl, rfl⟩

/-- A change of a leg that leaves its stage and its output alone keeps it fit, where it keeps it legal. -/
theorem LegUnit.Fit.congr {u u' : LegUnit} {c : Nat} (h : u.Fit c) (hok : u.Ok → u'.Ok)
    (hstage : u'.stage = u.stage) (houtput : u'.output = u.output) : u'.Fit c := by
  obtain ⟨hu, hr, hd, hrest⟩ := h
  refine ⟨hok hu, ?_⟩
  unfold LegUnit.StageFollows LegUnit.referenceAt LegUnit.demandsAt at *
  rw [hstage, houtput]
  exact ⟨hr, hd, hrest⟩

theorem LegUnit.Sturdy.congr {u u' : LegUnit} (h : u.Sturdy) (hok : u.Ok → u'.Ok)
    (hhigh : u'.stage.high = u.stage.high) (hlow : u'.stage.low = u.stage.low) : u'.Sturdy := by
  unfold LegUnit.Sturdy at *
  rw [hhigh, hlow]
  exact ⟨hok h.1, h.2⟩

theorem count255_le (n : Nat) : count255 n ≤ 255 := min_le_left _ _

theorem LegUnit.closedRun_le (u : LegUnit) : u.closedRun ≤ 255 := by
  unfold LegUnit.closedRun
  split
  · exact count255_le _
  · omega

/-! ### Legal Leg Units after each change -/

theorem LegUnit.Ok.withQueue {u : LegUnit} (h : u.Ok) {q : List Segment} (hlen : q.length ≤ 8)
    (ht : u.phase.isTripped = true → q = []) : LegUnit.Ok { u with queue := q } := by
  obtain ⟨-, -, h⟩ := h
  exact ⟨hlen, ht, h⟩

/-- A change of the active segment, or of the trip record, that keeps the elapsed count in its range. -/
theorem LegUnit.Ok.withActive {u : LegUnit} (h : u.Ok) {a a' : Active} (hp : u.phase = .running a)
    (he : a.elapsed ≤ 4095 → a'.elapsed ≤ 4095) : LegUnit.Ok { u with phase := .running a' } := by
  obtain ⟨hq, -, ha, -, -, h⟩ := h
  exact ⟨hq, by simp [LegPhase.isTripped], fun b hb => by cases hb; exact he (ha a hp),
    by simp [LegPhase.driving], by simp, h⟩

theorem LegUnit.Ok.withRecord {u : LegUnit} (h : u.Ok) {r r' : TripRecord} (hp : u.phase = .tripped r) :
    LegUnit.Ok { u with phase := .tripped r' } := by
  obtain ⟨hq, ht, -, hd, -, h⟩ := h
  simp only [hp] at ht hd
  exact ⟨hq, fun _ => ht rfl, fun b hb => by simp at hb, fun _ => hd rfl, by simp, h⟩

theorem LegUnit.Ok.toIdle {u : LegUnit} (h : u.Ok) : u.toIdle.Ok := by
  obtain ⟨hq, -, -, -, -, htc, -, hcfg⟩ := h
  exact ⟨hq, by simp [LegUnit.toIdle, LegPhase.isTripped], fun b hb => by simp [LegUnit.toIdle] at hb,
    fun _ => ⟨rfl, rfl⟩, fun _ => rfl, htc, by simp [LegUnit.toIdle], hcfg⟩

theorem LegUnit.Sturdy.toIdle {u : LegUnit} (h : u.Sturdy) : u.toIdle.Sturdy :=
  h.congr LegUnit.Ok.toIdle rfl rfl

theorem LegUnit.Ok.planGone {u : LegUnit} (h : u.Ok) : u.planGone.Ok := by
  have hq : LegUnit.Ok { u with queue := [] } := h.withQueue (by simp) fun _ => rfl
  unfold LegUnit.planGone LegUnit.cutForLease
  split
  · next a hp => exact hq.withActive hp id
  all_goals exact hq

theorem LegUnit.Fit.planGone {u : LegUnit} {c : Nat} (h : u.Fit c) : u.planGone.Fit c := by
  refine h.congr LegUnit.Ok.planGone ?_ ?_ <;> cases hp : u.phase <;>
    simp [LegUnit.planGone, LegUnit.cutForLease, LegUnit.output, hp]

theorem LegUnit.Fit.cutByHost {u : LegUnit} {c : Nat} (h : u.Fit c) : u.cutByHost.Fit c := by
  unfold LegUnit.cutByHost
  split
  · next a hp =>
    split
    · exact h.congr (fun hok => hok.withActive hp id) rfl (by simp [LegUnit.output, hp])
    · exact h
  all_goals exact h

theorem LegUnit.Fit.setRearm {u : LegUnit} {c : Nat} (h : u.Fit c) : u.setRearm.Fit c := by
  unfold LegUnit.setRearm
  split
  · next r hp => exact h.congr (fun hok => hok.withRecord hp) rfl (by simp [LegUnit.output, hp])
  all_goals exact h

theorem LegUnit.Fit.withQueue {u : LegUnit} {c : Nat} (h : u.Fit c) {q : List Segment}
    (hlen : q.length ≤ 8) (ht : u.phase.isTripped = true → q = []) :
    LegUnit.Fit { u with queue := q } c :=
  h.congr (fun hok => hok.withQueue hlen ht) rfl rfl

theorem LegUnit.Fit.examine {u : LegUnit} {c : Nat} (h : u.Fit c) (d : Chan) (position : Nat) (up : Bool) :
    (u.examine d position up).Fit c := by
  unfold LegUnit.examine
  split
  · next a hp =>
    split
    · split
      · exact h.congr (fun hok => hok.withActive hp id) rfl (by simp [LegUnit.output, hp])
      · exact h
    · exact h
  all_goals exact h

/-- A trip keeps a leg sturdy, whatever its run count was set to before it (R112, R120). -/
theorem LegUnit.Sturdy.trippedBy {u : LegUnit} (h : u.Sturdy) {run : Nat} (hrun : run ≤ 255) (x : Cause)
    (period : Dword) (c : Nat) : (LegUnit.trippedBy { u with runCount := run } x period c).Fit c := by
  obtain ⟨⟨-, -, -, -, -, -, -, hcfg⟩, hstage⟩ := h
  refine LegUnit.Sturdy.settle (u := { u with
      phase := .tripped ⟨x, period, u.phase.activeTag, .empty, false⟩
      queue := [], tripCount := count255 u.tripCount, limited := false, runCount := run
      stage := { u.stage with cycleCut := false } }) ⟨?_, hstage⟩ c
  exact ⟨by simp, fun _ => rfl, fun b hb => by simp at hb, fun _ => ⟨rfl, rfl⟩, by simp, count255_le _,
    hrun, hcfg⟩

theorem LegUnit.Fit.caused {u : LegUnit} {c : Nat} (h : u.Fit c) (x : Cause) (period : Dword) :
    (u.caused x period c).Fit c := by
  unfold LegUnit.caused
  split
  · next r hp => exact h.congr (fun hok => hok.withRecord hp) rfl (by simp [LegUnit.joined, LegUnit.output, hp])
  all_goals exact h.sturdy.trippedBy h.1.2.2.2.2.2.2.1 x period c

theorem LegUnit.Sturdy.escalated {u : LegUnit} (h : u.Sturdy) {run : Nat} (hrun : run ≤ 255)
    (period : Dword) (c : Nat) : (u.escalated run period c).Sturdy := by
  unfold LegUnit.escalated LegUnit.caused
  split
  · next r hp =>
    refine h.congr (fun hok => ?_) rfl rfl
    obtain ⟨hq, ht, -, hd, -, htc, -, hcfg⟩ := hok
    simp only at hp
    simp only [hp] at ht hd
    exact ⟨hq, fun _ => ht rfl, fun b hb => by simp [LegUnit.joined] at hb, fun _ => hd rfl,
      by simp [LegUnit.joined], htc, hrun, hcfg⟩
  all_goals exact (h.trippedBy hrun .escalated period c).sturdy

theorem LegUnit.Sturdy.activated {u : LegUnit} (h : u.Sturdy) {head : Segment} {rest : List Segment}
    (hq : u.queue = head :: rest) :
    LegUnit.Sturdy { u with phase := .running ⟨head, 0, false, .none⟩, queue := rest } := by
  refine h.congr (fun hok => ?_) rfl rfl
  obtain ⟨hlen, -, -, -, -, hrest⟩ := hok
  rw [hq] at hlen
  exact ⟨by simp at hlen ⊢; omega, by simp [LegPhase.isTripped], fun b hb => by cases hb; simp,
    by simp [LegPhase.driving], by simp, hrest⟩

theorem LegUnit.Sturdy.held {u : LegUnit} (h : u.Sturdy) (x : Held) :
    LegUnit.Sturdy { u with phase := .holding x } := by
  refine h.congr (fun hok => ?_) rfl rfl
  obtain ⟨hlen, -, -, -, -, hrest⟩ := hok
  exact ⟨hlen, by simp [LegPhase.isTripped], fun b hb => by simp at hb, by simp [LegPhase.driving], by simp,
    hrest⟩

theorem LegUnit.Sturdy.followed {u : LegUnit} (h : u.Sturdy) (answer : Option SyncAnswer) (c : Nat) :
    (u.followed answer c).Sturdy := by
  unfold LegUnit.followed
  split
  · split
    · exact (h.toIdle.settle c).sturdy
    · exact h
  · next head rest hq =>
    split
    · exact ((h.activated hq).settle c).sturdy
    · exact ((h.activated hq).settle c).sturdy
    · exact ((h.held _).settle c).sturdy
    · have hflushed : LegUnit.Sturdy { u with queue := [] } :=
        h.congr (fun hok => hok.withQueue (by simp) fun _ => rfl) rfl rfl
      exact (hflushed.toIdle.settle c).sturdy
    · exact h

theorem LegUnit.Sturdy.taken {u : LegUnit} (h : u.Sturdy) (answer : Option SyncAnswer) (c : Nat) :
    (u.taken answer c).Sturdy := by
  unfold LegUnit.taken
  split
  · exact h
  · next a hp =>
    have haged : LegUnit.Sturdy { u with phase := .running a.age } :=
      h.congr (fun hok => hok.withActive hp fun _ => min_le_left _ _) rfl rfl
    split
    · exact haged
    · exact haged.followed answer c
  all_goals exact h.followed answer c

/-- A RUNNING or HOLDING leg may take any cycle cut, limited mark and run count of a byte (R117, R118). -/
theorem LegUnit.Sturdy.withCut {u : LegUnit} (h : u.Sturdy) (hd : u.phase.driving = true) (limited cut : Bool)
    {run : Nat} (hrun : run ≤ 255) :
    LegUnit.Sturdy { u with limited := limited, runCount := run, stage := { u.stage with cycleCut := cut } } := by
  refine h.congr (fun hok => ?_) rfl rfl
  obtain ⟨hq, ht, ha, -, -, htc, -, hcfg⟩ := hok
  exact ⟨hq, ht, ha, fun hn => by simp [hd] at hn, fun hi => by simp at hi; simp [hi, LegPhase.driving] at hd,
    htc, hrun, hcfg⟩

theorem LegUnit.Sturdy.closed {u : LegUnit} (h : u.Sturdy) (before : LegUnit) (trip0 : Bool) (period : Dword)
    (c : Nat) : (u.closed before trip0 period c).Sturdy := by
  have hdrive : u.phase.driving = true → LegUnit.Sturdy (if before.escalates then
      u.escalated before.closedRun period c
    else
      { u with
        limited := u.cutAfter before trip0, runCount := before.closedRun
        stage := { u.stage with cycleCut := u.cutAfter before trip0 } }.settle c) := by
    intro hd
    split
    · exact h.escalated before.closedRun_le period c
    · exact ((h.withCut hd _ _ before.closedRun_le).settle c).sturdy
  unfold LegUnit.closed
  split
  · split
    · exact (h.toIdle.settle c).sturdy
    · exact h
  · exact (h.toIdle.settle c).sturdy
  · next hp => exact hdrive (by simp [hp, LegPhase.driving])
  · next hp => exact hdrive (by simp [hp, LegPhase.driving])

theorem SideState.sample_count_le {x : SideState} (other : Bool) (d : Nat) :
    (x.sample other d).count ≤ 255 := by
  unfold SideState.sample
  split_ifs
  · simp
  · simp
  · exact min_le_left _ _

theorem LegUnit.Fit.sample {u : LegUnit} {c : Nat} (h : u.Fit c) : u.sample.Fit c := by
  obtain ⟨hok, hr, hd, -⟩ := h
  refine ⟨hok, hr, ?_, u.sample_exclusive, SideState.sample_count_le _ _, SideState.sample_count_le _ _⟩
  simpa [LegUnit.sample, LegUnit.demandsAt, LegUnit.output] using hd

theorem LegUnit.reset_fit (c : Nat) : LegUnit.reset.Fit c := by
  unfold LegUnit.Fit LegUnit.Ok LegUnit.StageFollows
  simp [LegUnit.reset, Stage.reset, LegConfig.reset, LegPhase.isTripped, LegPhase.driving,
    LegUnit.referenceAt, LegUnit.demandsAt, LegUnit.output, Pattern.demands]

/-! ### The whole part -/

/-- Every leg is legal and followed by its stage. -/
def State.LegsFit (s : State) : Prop := ∀ n, (s.leg n).Fit s.carrier.counter

/-- Every leg is sturdy, as also inside a boundary. -/
def State.LegsSturdy (s : State) : Prop := ∀ n, (s.leg n).Sturdy

theorem State.legsFit_iff (s : State) : s.LegsFit ↔ s.LegsOk ∧ s.StagesFollow :=
  ⟨fun h => ⟨fun n => (h n).1, fun n => (h n).2⟩, fun h n => ⟨h.1 n, h.2 n⟩⟩

/-- Where every leg stays as it was, or is one leg changed, a legal part stays legal. -/
theorem State.LegsFit.of_leg {s t : State} (h : s.LegsFit) (hc : t.carrier.counter = s.carrier.counter)
    (hleg : ∀ n, t.leg n = s.leg n ∨ (t.leg n).Fit s.carrier.counter) : t.LegsFit := by
  intro n
  rw [hc]
  rcases hleg n with hn | hn
  · rw [hn]; exact h n
  · exact hn

theorem foldl_keeps {α : Type} {P : State → Prop} {f : State → α → State} (h : ∀ s a, P s → P (f s a))
    (xs : List α) {s : State} (hs : P s) : P (xs.foldl f s) :=
  List.foldlRecOn xs f (motive := P) hs fun _ ht a _ => h _ a ht

theorem State.LegsFit.endLease {s : State} (h : s.LegsFit) (r : Resource) : (s.endLease r).LegsFit := by
  refine h.of_leg (by simp) fun n => ?_
  rw [State.endLease_leg]
  split
  · exact .inr (h n).planGone
  · exact .inl rfl

theorem State.LegsFit.completeRearm {s : State} (h : s.LegsFit) (n : Leg) : (s.completeRearm n).LegsFit := by
  refine h.of_leg (by simp) fun k => ?_
  rw [State.completeRearm_leg]
  split
  · exact .inr ((h k).sturdy.toIdle.settle _)
  · exact .inl rfl

theorem State.LegsFit.completeIfPending {s : State} (h : s.LegsFit) (n : Leg) :
    (s.completeIfPending n).LegsFit := by
  unfold State.completeIfPending
  split
  · exact h.completeRearm n
  · exact h

theorem State.LegsFit.causeArises {s : State} (h : s.LegsFit) (n : Leg) (c : Cause) :
    (s.causeArises n c).LegsFit := by
  refine h.of_leg (by simp) fun k => ?_
  rw [State.causeArises_leg]
  split
  · exact .inr ((h k).caused c _)
  · exact .inl rfl

theorem State.LegsFit.settleAll {s : State} (h : s.LegsSturdy) : s.settleAll.LegsFit := by
  intro n
  rw [State.settleAll_leg, State.settleAll_carrier]
  exact (h n).settle _

theorem State.LegsFit.sturdy {s : State} (h : s.LegsFit) : s.LegsSturdy := fun n => (h n).sturdy

/-- A boundary leaves every leg legal and followed by its stage (R31). -/
theorem State.LegsFit.boundaryWith {s : State} (h : s.LegsFit) (first : PerLeg Bool) :
    (s.boundaryWith first).LegsFit := by
  refine State.LegsFit.settleAll ?_
  refine foldl_keeps (P := State.LegsSturdy) (fun t k ht n => ?_) Leg.all ?_
  · rw [State.closePeriod_leg]
    split
    · exact (ht n).closed _ _ _ _
    · exact ht n
  refine foldl_keeps (P := State.LegsSturdy) (fun t k ht n => ?_) Leg.all ?_
  · rw [State.takeBoundary_leg]
    split
    · exact (ht n).taken _ _
    · exact ht n
  refine foldl_keeps (P := State.LegsSturdy) (fun t k ht => ?_) Leg.all h.sturdy
  split
  · intro n
    rw [State.escalate_leg]
    split
    · exact (ht n).escalated (LegUnit.closedRun_le _) _ _
    · exact ht n
  · exact ht

theorem State.LegsFit.flushQueue {s : State} (h : s.LegsFit) (n : Leg) : (s.flushQueue n).LegsFit := by
  refine h.of_leg (by simp) fun k => ?_
  rw [State.flushQueue_leg]
  split
  · exact .inr ((h k).withQueue (by simp) fun _ => rfl)
  · exact .inl rfl

theorem State.LegsFit.updLeg {s : State} (h : s.LegsFit) (n : Leg) {f : LegUnit → LegUnit}
    (hf : (s.leg n).Fit s.carrier.counter → (f (s.leg n)).Fit s.carrier.counter) : (s.updLeg n f).LegsFit := by
  refine h.of_leg rfl fun k => ?_
  rw [State.updLeg_leg]
  split
  · next hk => subst hk; exact .inr (hf (h k))
  · exact .inl rfl

/-- The settings of a leg that is not RUNNING or HOLDING may be any of a byte each (R24). -/
theorem State.LegsFit.configured {s : State} (h : s.LegsFit) (n : Leg) {cfg : LegConfig}
    (hcfg : cfg.deadTime ≤ 255 ∧ cfg.escalation ≤ 255) :
    (s.changeLeg n fun u => { u with config := cfg }).LegsFit := by
  refine h.updLeg n fun hu => LegUnit.Sturdy.settle (u := { s.leg n with config := cfg })
    (hu.sturdy.congr (fun hok => ?_) rfl rfl) _
  obtain ⟨hq, ht, ha, hd, hi, htc, hrun, -⟩ := hok
  exact ⟨hq, ht, ha, hd, hi, htc, hrun, hcfg⟩

theorem Effect.legsFit {s t : State} {p : Port} (h : Effect s p t) (hs : s.LegsFit) : t.LegsFit := by
  cases h
  case wait r n _ _ _ =>
    unfold State.joinWaiters
    dsimp only
    split
    · exact hs
    · split <;> exact hs
  case renew rs => exact foldl_keeps (P := State.LegsFit) (f := fun s r => s.updLease r Lease.renew) (fun _ _ h => h) rs hs
  case release r _ => exact hs.endLease r
  case seize r n _ _ | seizeTold r n _ _ q x =>
    refine hs.of_leg ?_ fun k => ?_
    · cases r <;> simp [State.clearSeized, State.grantTo]
    · simp only [State.post_leg, State.clearSeized_leg, State.grantTo, State.updLease_leg]
      split
      · exact .inr (hs k).planGone
      · exact .inl rfl
  case append n seg hopen hroom =>
    exact hs.updLeg n fun hu => hu.withQueue (by simp; omega) fun ht => by simp [hopen.2] at ht
  case replace n seg hopen =>
    refine (hs.flushQueue n).updLeg n fun hu => hu.withQueue (by simp) fun ht => ?_
    simp [State.flushQueue_leg, hopen.2] at ht
  case replaceAtOnce n seg hopen =>
    refine State.LegsFit.updLeg ((hs.flushQueue n).updLeg n fun hu => hu.withQueue (by simp) fun ht => ?_) n
      fun hu => hu.cutByHost
    simp [State.flushQueue_leg, hopen.2] at ht
  case flush n => exact hs.flushQueue n
  case cut n => exact hs.updLeg n fun hu => hu.cutByHost
  case setLeg n cfg _ hcfg => exact hs.configured n hcfg
  case setLegCause n cfg _ hcfg => exact (hs.configured n hcfg).causeArises n _
  case setRearm n => exact hs.updLeg n fun hu => hu.setRearm
  case completeRearm n => exact hs.completeRearm n
  case setPeriod n _ => exact hs.of_leg (by unfold Carrier.setPeriod; simp; split <;> rfl) fun _ => .inl rfl
  case setCarrier | start => exact State.LegsFit.settleAll hs.sturdy
  case stop =>
    have hhalt : (s.setCarrier s.carrier.halt).LegsFit := hs
    exact foldl_keeps (fun _ n h => h.completeIfPending n) Leg.all hhalt
  all_goals exact hs

theorem Deed.legsFit {s t : State} (hs : s.LegsFit) (h : Deed False False s t) : t.LegsFit := by
  cases h
  case command p _ heffect => exact heffect.legsFit hs
  case presenceFalls p =>
    have hdropped : (((s.updPort p PortEngine.fall).unsubscribe p).dropWaiters p).LegsFit :=
      hs.of_leg (by simp) fun n => .inl (by simp)
    refine foldl_keeps (P := State.LegsFit) (fun t r ht => ?_) Resource.all hdropped
    unfold State.endIfHeld
    split
    · exact ht.endLease r
    · exact ht
  case rearms n => exact hs.completeRearm n
  case cause n c => exact hs.causeArises n c
  case cut n hd =>
    refine hs.of_leg (by simp) fun k => ?_
    rw [State.setCut_leg]
    split
    · next hk =>
      subst hk
      exact .inr (((hs k).sturdy.withCut hd true true (hs k).1.2.2.2.2.2.2.1).settle _)
    · exact .inl rfl
  case leaseTick =>
    have hclock : (s.setLeaseClock { s.leaseClock with number := s.leaseClock.number + 1 }).LegsFit := hs
    refine foldl_keeps (P := State.LegsFit) (fun t r ht => ?_) Resource.all hclock
    unfold State.leaseCount
    split
    · exact ht
    · exact ht
    · split
      · exact State.LegsFit.endLease ht r
      · split <;> exact ht
  case count => exact State.LegsFit.settleAll hs.sturdy
  case boundary first _ => exact hs.boundaryWith first
  case intervalTick c => exact hs.of_leg (by simp) fun n => .inl (by simp)
  case chanTakes c tick x y z =>
    refine hs.of_leg (by simp) fun n => ?_
    rcases s.chanTakes_leg c tick x y z n with h | ⟨d, position, up, h⟩
    · exact .inl h
    · rw [h]; exact .inr ((hs n).examine d position up)
  case sampleStages =>
    refine hs.of_leg (by simp) fun n => ?_
    rw [State.sampleStages_leg]
    exact .inr (hs n).sample
  case abandon | released =>
    intro n
    cases n <;> exact LegUnit.reset_fit _
  all_goals exact hs

/-- A stage that follows a source demands at most one side, so that never are both gates on (R60, R62). -/
theorem State.StagesFollow.neverBothOn {s : State} (h : s.StagesFollow) : s.NeverBothOn := by
  intro n ⟨hhigh, hlow⟩
  obtain ⟨-, -, hdriven, -⟩ := h n
  simp only [State.gateHigh, State.gateLow, Bool.and_eq_true] at hhigh hlow
  exact hdriven ⟨(SideState.on_demand hhigh.2).2, (SideState.on_demand hlow.2).2⟩

/-- Settles O58: legal legs with stages that follow are an invariant of every deed, and exclude that both gates
of a leg are on. -/
theorem legsAndStagesKept : Obligations.LegsAndStagesKept := by
  intro s t hlegs hstages hstep
  have hfit : t.LegsFit := step_keeps (P := State.LegsFit) (fun _ _ h => h) (fun _ _ h hd => hd.legsFit h)
    ((State.legsFit_iff s).mpr ⟨hlegs, hstages⟩) hstep
  obtain ⟨hlegs', hstages'⟩ := (State.legsFit_iff t).mp hfit
  exact ⟨hlegs', hstages', hstages'.neverBothOn⟩

end Sys2Proof.Machine
end

section
/-! PROOFS. What each operation makes of the lease records: the record it names, and every other as it was. -/

namespace Sys2Proof.Machine

open Sys2Proof

-- One theorem at a time, as in the tests: proofs that wait for the kernel would each hold a thread.
set_option Elab.async false

/-- The record after the report of a leg that trips or goes IDLE (R21, R98). -/
def Lease.reported (l : Lease) : Lease := if l.phase = .releasing then l.passedOn else l

theorem State.leaseReported_eq (s : State) (n : Leg) : s.leaseReported n = (s.lease (.leg n)).reported := rfl

theorem State.passOn_lease (s : State) (r q : Resource) :
    (s.passOn r).lease q = if q = r then (s.lease q).passedOn else s.lease q := by
  by_cases h : q = r
  · subst h
    cases hw : (s.lease q).waiters with
    | nil => simp [State.passOn_nil _ _ hw, Lease.passedOn, hw]
    | cons w ws =>
      simp [State.passOn_cons _ _ w ws hw, State.postGranted, Lease.passedOn, hw, Lease.grant,
        Lease.grantedTo, Lease.genAfter_eq_nextGen]
  · cases hw : (s.lease r).waiters with
    | nil => simp [State.passOn_nil _ _ hw, h]
    | cons w ws => simp [State.passOn_cons _ _ w ws hw, State.postGranted, h]

theorem State.legReport_lease (s : State) (n : Leg) (q : Resource) :
    (s.legReport n).lease q = if q = .leg n then (s.lease q).reported else s.lease q := by
  by_cases hp : (s.lease (.leg n)).phase = .releasing
  · rw [State.legReport_releasing _ _ hp, State.passOn_lease]
    by_cases h : q = .leg n
    · subst h; simp [Lease.reported, hp]
    · simp [h]
  · rw [State.legReport_eq_self _ _ hp]
    by_cases h : q = .leg n
    · subst h; simp [Lease.reported, hp]
    · simp [h]

theorem State.flushAndCut_lease (s : State) (n : Leg) (q : Resource) :
    (s.flushAndCut n).lease q
      = if q = .leg n ∧ (s.leg n).atRest = true then (s.lease q).reported else s.lease q := by
  rw [State.flushAndCut_eq]
  cases hr : (s.leg n).atRest <;> simp [State.legReport_lease]

theorem Lease.passedOn_phase (l : Lease) (f : LeasePhase) :
    Lease.passedOn { l with phase := f } = l.passedOn := by
  cases hw : l.waiters <;> simp [Lease.passedOn, hw, Lease.grantedTo, Lease.genAfter]

/-- The end of a lease: it passes on from a resource at rest, and goes RELEASING else (R95, R98, R103). -/
theorem State.endLease_lease (s : State) (r q : Resource) :
    (s.endLease r).lease q
      = if q = r then
          (if s.resourceAtRest r then (s.lease q).passedOn else { s.lease q with phase := .releasing })
        else s.lease q := by
  cases r with
  | carrier | chan c => simp [State.endLease, State.passOn_lease, State.resourceAtRest]
  | leg n =>
    simp only [State.endLease, State.flushAndCut_lease, State.updLease_lease, State.updLease_leg,
      State.resourceAtRest]
    by_cases h : q = .leg n
    · subst h
      by_cases hr : (s.leg n).atRest = true <;> simp [hr, Lease.reported, Lease.passedOn_phase]
    · simp [h]

theorem State.clearSeized_lease (s : State) (r q : Resource) (h : (s.lease r).phase ≠ .releasing) :
    (s.clearSeized r).lease q = s.lease q := by
  cases r with
  | carrier | chan c => rfl
  | leg n =>
    simp only [State.clearSeized, State.flushAndCut_lease]
    split
    · next hq => obtain ⟨rfl, -⟩ := hq; simp [Lease.reported, h]
    · rfl

theorem State.latchTrip_lease (s : State) (n : Leg) (c : Cause) (q : Resource) :
    (s.latchTrip n c).lease q = if q = .leg n then (s.lease q).reported else s.lease q := by
  unfold State.latchTrip
  dsimp only
  cases (s.leg n).phase <;> simp [State.legReport_lease]

theorem State.causeArises_lease (s : State) (n : Leg) (c : Cause) (q : Resource) :
    (s.causeArises n c).lease q
      = if q = .leg n ∧ (s.leg n).phase.isTripped = false then (s.lease q).reported else s.lease q := by
  cases ht : (s.leg n).phase.isTripped with
  | false => rw [State.causeArises_latches _ _ _ ht, State.latchTrip_lease]; simp
  | true =>
    obtain ⟨rec, hrec⟩ := (LegPhase.isTripped_iff _).mp ht
    rw [State.causeArises_tripped _ _ _ rec hrec]
    simp

theorem State.escalate_lease (s : State) (n : Leg) (run : Nat) (q : Resource) :
    (s.escalate n run).lease q
      = if q = .leg n ∧ (s.leg n).phase.isTripped = false then (s.lease q).reported else s.lease q := by
  simp [State.escalate, State.causeArises_lease]

theorem State.goIdle_lease (s : State) (n : Leg) (q : Resource) :
    (s.goIdle n).lease q
      = if q = .leg n ∧ reportsIdle (s.leg n).phase = true then (s.lease q).reported else s.lease q := by
  unfold State.goIdle
  cases hr : reportsIdle (s.leg n).phase <;> simp [State.legReport_lease]

/-- Whether a leg that takes a boundary goes IDLE there from RUNNING or HOLDING, and so reports (R21). -/
def LegUnit.reports (u u' : LegUnit) : Bool := reportsIdle u.phase && decide (u'.phase = .idle)

theorem State.follow_lease (s : State) (n : Leg) (ended : Option (Active × EndReason))
    (answer : Option SyncAnswer) (hended : ended.isSome = true → reportsIdle (s.leg n).phase = true)
    (q : Resource) :
    (s.follow n ended answer).lease q
      = if q = .leg n ∧ (s.leg n).reports ((s.leg n).followed answer s.carrier.counter) = true then
          (s.lease q).reported
        else s.lease q := by
  have hnotIdle : reportsIdle (s.leg n).phase = true → (s.leg n).phase ≠ .idle := by
    intro h hp; simp [hp, reportsIdle] at h
  cases hq : (s.leg n).queue with
  | nil =>
    cases ended with
    | none =>
      by_cases hr : reportsIdle (s.leg n).phase = true <;>
        simp [State.follow, LegUnit.followed, hq, hr, State.goIdle_lease, LegUnit.reports, LegUnit.toIdle]
    | some e =>
      obtain ⟨a, reason⟩ := e
      have hr := hended rfl
      by_cases hquiet : a.seg.final = true ∨ reason = .lease <;>
        simp [State.follow, LegUnit.followed, hq, hr, hquiet, State.goIdle_lease, LegUnit.reports,
          LegUnit.toIdle]
  | cons head rest =>
    cases hsync : head.sync with
    | none => simp [State.follow, LegUnit.followed, hq, hsync, LegUnit.reports]
    | some f =>
      rcases answer with _ | _ | _ | _
      · by_cases hr : reportsIdle (s.leg n).phase = true
        · simp [State.follow, LegUnit.followed, hq, hsync, LegUnit.reports, hnotIdle hr]
        · simp [State.follow, LegUnit.followed, hq, hsync, LegUnit.reports, hr]
      all_goals
        simp [State.follow, LegUnit.followed, hq, hsync, LegUnit.reports, State.breakLeg,
          State.goIdle_lease, LegUnit.toIdle]

theorem State.takeBoundary_lease (s : State) (n : Leg) (answer : Option SyncAnswer) (q : Resource) :
    (s.takeBoundary n answer).lease q
      = if q = .leg n ∧ (s.leg n).reports ((s.leg n).taken answer s.carrier.counter) = true then
          (s.lease q).reported
        else s.lease q := by
  unfold State.takeBoundary
  cases hp : (s.leg n).phase with
  | tripped rec => simp [LegUnit.taken, hp, LegUnit.reports]
  | idle => simp [State.follow_lease, LegUnit.taken, hp]
  | holding x => simp [State.follow_lease, LegUnit.taken, hp]
  | running a =>
    dsimp only
    split
    · next hend => simp [LegUnit.taken, hp, hend, LegUnit.reports]
    · next reason hend =>
      rw [State.follow_lease _ _ _ _ (by simp [reportsIdle])]
      simp [LegUnit.taken, hp, hend, LegUnit.reports, reportsIdle]

theorem State.closePeriod_lease (s : State) (n : Leg) (before : LegUnit) (q : Resource) :
    (s.closePeriod n before).lease q
      = if q = .leg n ∧ (s.leg n).phase.driving = true ∧ before.escalates = true then (s.lease q).reported
        else s.lease q := by
  unfold State.closePeriod
  dsimp only
  cases hp : (s.leg n).phase with
  | tripped rec => simp [LegPhase.driving]
  | idle => simp [LegPhase.driving]
  | running _ | holding _ =>
    dsimp only
    split
    · next he => simp [State.escalate_lease, he, LegPhase.driving, LegPhase.isTripped, hp]
    · next he => split <;> simp [he]

end Sys2Proof.Machine
end

section
/-! PROOFS. Every step keeps the lease records legal, and every leg's plan with its lease (R73 to R76, R97, R105,
R108). -/

namespace Sys2Proof.Machine

open Sys2Proof

/-! ### One lease record -/

theorem Lease.Ok.passedOn {l : Lease} (h : l.Ok) : l.passedOn.Ok ∧ l.passedOn.phase ≠ .releasing := by
  obtain ⟨hnodup, hlen, hint, -⟩ := h
  cases hw : l.waiters with
  | nil => simp [Lease.passedOn, hw, Lease.Ok]
  | cons w rest =>
    rw [hw] at hnodup hlen hint
    obtain ⟨hlow, hhigh⟩ := hint w (by simp)
    simp only [Lease.passedOn, hw, Lease.grantedTo]
    refine ⟨⟨?_, ?_, fun x hx => hint x (by simp [(List.mem_filter.mp hx).1]), ?_⟩, by simp⟩
    · exact (List.nodup_cons.mp hnodup).2.sublist (List.filter_sublist.map _)
    · have hfilter := List.length_filter_le (fun x : Waiter => x.port != w.port) rest
      simp only [List.length_cons] at hlen
      exact hfilter.trans (by omega)
    · refine ⟨fun x hx => ?_, ?_, hlow, le_refl _, hhigh⟩
      · simpa using (List.mem_filter.mp hx).2
      · rw [Lease.genAfter_eq_nextGen]; exact nextGen_ne_zero _

theorem Lease.Ok.reported {l : Lease} (h : l.Ok) : l.reported.Ok := by
  unfold Lease.reported
  split
  · exact h.passedOn.1
  · exact h

theorem Lease.Ok.gen_ne_zero {l : Lease} (h : l.Ok) (hp : l.phase ≠ .free) : l.gen ≠ 0 := by
  obtain ⟨-, -, -, h⟩ := h
  cases hf : l.phase with
  | free => exact absurd hf hp
  | held _ _ _ _ => simp only [hf] at h; exact h.2.1
  | releasing => simpa only [hf] using h

theorem Lease.Ok.grant {l : Lease} (h : l.Ok) (p : Port) {i : Nat} (hi : 1 ≤ i ∧ i ≤ 10000) :
    (l.grant p i).Ok := by
  obtain ⟨hnodup, hlen, hint, -⟩ := h
  refine ⟨hnodup.sublist (List.filter_sublist.map _), ?_, fun x hx => hint x (List.mem_filter.mp hx).1, ?_⟩
  · exact (List.length_filter_le _ _).trans hlen
  · refine ⟨fun x hx => ?_, nextGen_ne_zero _, hi.1, le_refl _, hi.2⟩
    simpa using (List.mem_filter.mp hx).2

theorem Lease.Ok.releasing {l : Lease} (h : l.Ok) (hp : l.phase ≠ .free) :
    Lease.Ok { l with phase := .releasing } :=
  ⟨h.1, h.2.1, h.2.2.1, h.gen_ne_zero hp⟩

theorem Lease.Ok.dropWaiter {l : Lease} (h : l.Ok) (p : Port) : (l.dropWaiter p).Ok := by
  obtain ⟨hnodup, hlen, hint, hphase⟩ := h
  refine ⟨hnodup.sublist (List.filter_sublist.map _), (List.length_filter_le _ _).trans hlen,
    fun x hx => hint x (List.mem_filter.mp hx).1, ?_⟩
  cases hf : l.phase with
  | free => simp only [hf] at hphase; simp [Lease.dropWaiter, hf, hphase]
  | releasing => simpa only [Lease.dropWaiter, hf] using hphase
  | held q i k low =>
    simp only [hf] at hphase
    simp only [Lease.dropWaiter, hf]
    exact ⟨fun x hx => hphase.1 x (List.mem_filter.mp hx).1, hphase.2⟩

theorem Lease.Ok.renew {l : Lease} (h : l.Ok) : l.renew.Ok := by
  unfold Lease.renew
  split
  · next q i k low hf =>
    obtain ⟨hnodup, hlen, hint, hphase⟩ := h
    simp only [hf] at hphase
    obtain ⟨hw, hg, hlow, hik, hhigh⟩ := hphase
    exact ⟨hnodup, hlen, hint, hw, hg, hlow.trans hik, le_refl _, hhigh⟩
  all_goals exact h

/-- A HELD record may count down to any remaining count of at least 1 (R88). -/
theorem Lease.Ok.counted {l : Lease} (h : l.Ok) {q : Port} {i k : Nat} {low : Bool}
    (hf : l.phase = .held q i k low) {k' : Nat} (hlow : 1 ≤ k') (hk : k' ≤ k) (w : Bool) :
    Lease.Ok { l with phase := .held q i k' w } := by
  obtain ⟨hnodup, hlen, hint, hphase⟩ := h
  simp only [hf] at hphase
  obtain ⟨hw, hg, -, hik, hhigh⟩ := hphase
  exact ⟨hnodup, hlen, hint, hw, hg, hlow, hk.trans hik, hhigh⟩

theorem waiterPosition_eq_none {p : Port} {ws : List Waiter} :
    waiterPosition p ws = none ↔ ∀ w ∈ ws, w.port ≠ p := by
  induction ws with
  | nil => simp [waiterPosition]
  | cons w ws ih =>
    by_cases h : w.port = p <;> simp [waiterPosition, h, ih]

/-- The record that a waiting port leaves: a new entry, or its own entry with another interval (R82). -/
theorem Lease.Ok.withWaiters {l : Lease} (h : l.Ok) (hfree : l.phase ≠ .free) {ws : List Waiter}
    (hnodup : (ws.map Waiter.port).Nodup) (hlen : ws.length ≤ 2)
    (hint : ∀ w ∈ ws, 1 ≤ w.interval ∧ w.interval ≤ 10000)
    (hholder : ∀ q, l.holder? = some q → ∀ w ∈ ws, w.port ≠ q) : Lease.Ok { l with waiters := ws } := by
  obtain ⟨-, -, -, hphase⟩ := h
  refine ⟨hnodup, hlen, hint, ?_⟩
  cases hf : l.phase with
  | free => exact absurd hf hfree
  | releasing => simpa only [hf] using hphase
  | held q i k low =>
    simp only [hf] at hphase
    exact ⟨hholder q (by simp [Lease.holder?, hf]), hphase.2⟩

/-- A waiting port leaves a legal record (R75, R82). -/
theorem State.joinWaiters_lease_ok {s : State} {r : Resource} {p : Port} {n : Nat} (h : (s.lease r).Ok)
    (hfree : (s.lease r).phase ≠ .free) (hother : (s.lease r).holder? ≠ some p) (hn : 1 ≤ n ∧ n ≤ 10000) :
    ((s.joinWaiters r p n).state.lease r).Ok := by
  have hwaiters : ∀ q, (s.lease r).holder? = some q → ∀ w ∈ (s.lease r).waiters, w.port ≠ q := by
    intro q hq w hw
    have hphase := h.2.2.2
    cases hf : (s.lease r).phase with
    | free => exact absurd hf hfree
    | releasing => simp [Lease.holder?, hf] at hq
    | held q' i k low =>
      simp only [hf] at hphase
      simp only [Lease.holder?, hf, Option.some.injEq] at hq
      subst hq
      exact hphase.1 w hw
  obtain ⟨hnodup, hlen, hint, -⟩ := id h
  unfold State.joinWaiters
  dsimp only
  split
  · simp only [State.updLease_lease, if_true]
    have hports : ((s.lease r).waiters.map fun w => if w.port = p then (⟨p, n⟩ : Waiter) else w).map
        Waiter.port = (s.lease r).waiters.map Waiter.port := by
      rw [List.map_map]
      refine List.map_congr_left fun w _ => ?_
      by_cases hw : w.port = p <;> simp [hw]
    refine h.withWaiters hfree (by rwa [hports]) (by simpa using hlen) ?_ ?_
    · intro w hw
      obtain ⟨w', hw', rfl⟩ := List.mem_map.mp hw
      split
      · exact hn
      · exact hint w' hw'
    · intro q hq w hw
      obtain ⟨w', hw', rfl⟩ := List.mem_map.mp hw
      split
      · rintro rfl; exact hother hq
      · exact hwaiters q hq w' hw'
  · next hnone =>
    have habsent := waiterPosition_eq_none.mp hnone
    split
    · next hroom =>
      simp only [State.updLease_lease, if_true]
      refine h.withWaiters hfree ?_ (by simp; omega) ?_ ?_
      · rw [List.map_append, List.nodup_append]
        refine ⟨hnodup, by simp, ?_⟩
        intro a ha b hb
        obtain ⟨w, hw, rfl⟩ := List.mem_map.mp ha
        simp only [List.map_cons, List.map_nil, List.mem_singleton] at hb
        subst hb
        exact habsent w hw
      · intro w hw
        rcases List.mem_append.mp hw with hw | hw
        · exact hint w hw
        · rw [List.mem_singleton] at hw; subst hw; exact hn
      · intro q hq w hw
        rcases List.mem_append.mp hw with hw | hw
        · exact hwaiters q hq w hw
        · rw [List.mem_singleton] at hw
          subst hw
          rintro rfl
          exact hother hq
    · exact h

theorem State.joinWaiters_phase (s : State) (r : Resource) (p : Port) (n : Nat) (q : Resource) :
    ((s.joinWaiters r p n).state.lease q).phase = (s.lease q).phase
      ∧ ((s.joinWaiters r p n).state.lease q).gen = (s.lease q).gen
      ∧ (q ≠ r → (s.joinWaiters r p n).state.lease q = s.lease q) := by
  unfold State.joinWaiters
  dsimp only
  split
  · by_cases h : q = r <;> simp [h]
  · split
    · by_cases h : q = r <;> simp [h]
    · exact ⟨rfl, rfl, fun _ => rfl⟩

/-- A waiting port touches at most the record that it waits for. -/
theorem State.joinWaiters_eq (s : State) (r : Resource) (p : Port) (n : Nat) :
    (s.joinWaiters r p n).state = s ∨ ∃ f, (s.joinWaiters r p n).state = s.updLease r f := by
  unfold State.joinWaiters
  dsimp only
  split
  · dsimp only; exact .inr ⟨_, rfl⟩
  · split
    · dsimp only; exact .inr ⟨_, rfl⟩
    · exact .inl rfl

@[simp] theorem State.joinWaiters_leg (s : State) (r : Resource) (p : Port) (n : Nat) (k : Leg) :
    (s.joinWaiters r p n).state.leg k = s.leg k := by
  rcases s.joinWaiters_eq r p n with h | ⟨f, h⟩ <;> simp [h]

@[simp] theorem State.joinWaiters_carrier (s : State) (r : Resource) (p : Port) (n : Nat) :
    (s.joinWaiters r p n).state.carrier = s.carrier := by
  rcases s.joinWaiters_eq r p n with h | ⟨f, h⟩ <;> simp [h]

@[simp] theorem State.joinWaiters_mark (s : State) (r : Resource) (p : Port) (n : Nat) (m : Mark) :
    (s.joinWaiters r p n).state.mark m = s.mark m := by
  rcases s.joinWaiters_eq r p n with h | ⟨f, h⟩ <;> simp [h]

@[simp] theorem State.joinWaiters_chan (s : State) (r : Resource) (p : Port) (n : Nat) (c : Chan) :
    (s.joinWaiters r p n).state.chan c = s.chan c := by
  rcases s.joinWaiters_eq r p n with h | ⟨f, h⟩ <;> simp [h]

/-! ### A record with the leg it leases -/

/-- A legal record and a plan that belongs to it. -/
def Fenced (l : Lease) (u : LegUnit) : Prop := l.Ok ∧ planFenced l u

/-- A plan belongs to a record by its phase and generation alone. -/
theorem planFenced_congr {l l' : Lease} {u : LegUnit} (h : planFenced l u) (hp : l'.phase = l.phase)
    (hg : l'.gen = l.gen) : planFenced l' u := by
  unfold planFenced at *
  rw [hp, hg]
  exact h

/-- The plan of a HELD leg, which alone may have pending segments (R97, R105). -/
theorem Fenced.held_of_pending {l : Lease} {u : LegUnit} (h : Fenced l u) (hq : u.queue ≠ []) :
    ∃ p i k w, l.phase = .held p i k w := by
  obtain ⟨-, h⟩ := h
  unfold planFenced at h
  cases hf : l.phase with
  | free => simp only [hf] at h; exact absurd h.2 hq
  | releasing => simp only [hf] at h; exact absurd h.2.1 hq
  | held p i k w => exact ⟨p, i, k, w, rfl⟩

/-- On a HELD leg a plan belongs where its segments carry the current generation. -/
theorem planFenced_of_held {l : Lease} {u : LegUnit} (hf : ∃ p i k w, l.phase = .held p i k w)
    (hq : ∀ seg ∈ u.queue, seg.gen = l.gen)
    (ha : ∀ a, u.phase = .running a → a.seg.gen = l.gen ∨ a.cut = .lease) : planFenced l u := by
  obtain ⟨p, i, k, w, hf⟩ := hf
  unfold planFenced
  rw [hf]
  exact ⟨hq, ha⟩

theorem planFenced.of_held {l : Lease} {u : LegUnit} (h : planFenced l u)
    (hf : ∃ p i k w, l.phase = .held p i k w) :
    (∀ seg ∈ u.queue, seg.gen = l.gen) ∧ ∀ a, u.phase = .running a → a.seg.gen = l.gen ∨ a.cut = .lease := by
  obtain ⟨p, i, k, w, hf⟩ := hf
  unfold planFenced at h
  rwa [hf] at h

/-- A leg that stays at rest or not at rest, keeps at most its pending segments, and keeps its active one with
its generation and a LEASE cut that it may have, keeps its plan fenced. -/
theorem Fenced.stays {l : Lease} {u u' : LegUnit} (h : Fenced l u) (hrest : u'.atRest = u.atRest)
    (hq : ∀ seg ∈ u'.queue, seg ∈ u.queue)
    (ha : ∀ a', u'.phase = .running a' → ∃ a, u.phase = .running a ∧ a'.seg = a.seg
      ∧ (a.cut = .lease → a'.cut = .lease)) : Fenced l u' := by
  have hempty : u.queue = [] → u'.queue = [] := fun he =>
    List.eq_nil_iff_forall_not_mem.mpr fun seg hseg => by simpa [he] using hq seg hseg
  obtain ⟨hok, h⟩ := h
  refine ⟨hok, ?_⟩
  unfold planFenced at *
  cases hf : l.phase with
  | free => simp only [hf] at h; exact ⟨hrest.trans h.1, hempty h.2⟩
  | releasing =>
    simp only [hf] at h
    refine ⟨hrest.trans h.1, hempty h.2.1, fun a' ha' => ?_⟩
    obtain ⟨a, hrun, -, hcut⟩ := ha a' ha'
    exact hcut (h.2.2 a hrun)
  | held p i k w =>
    simp only [hf] at h
    refine ⟨fun seg hseg => h.1 seg (hq seg hseg), fun a' ha' => ?_⟩
    obtain ⟨a, hrun, hseg, hcut⟩ := ha a' ha'
    rcases h.2 a hrun with hgen | hlease
    · exact .inl (by rw [hseg]; exact hgen)
    · exact .inr (hcut hlease)

/-- A leg that comes to rest and reports, with at most the pending segments it had, is fenced (R98). -/
theorem Fenced.rests {l : Lease} {u u' : LegUnit} (h : Fenced l u) (hrest : u'.atRest = true)
    (hq : ∀ seg ∈ u'.queue, seg ∈ u.queue) : Fenced l.reported u' := by
  have hempty : u.queue = [] → u'.queue = [] := fun he =>
    List.eq_nil_iff_forall_not_mem.mpr fun seg hseg => by simpa [he] using hq seg hseg
  have hnotRunning : ∀ a, u'.phase ≠ .running a := fun a ha => by simp [LegUnit.atRest, ha] at hrest
  refine ⟨h.1.reported, ?_⟩
  by_cases hrel : l.phase = .releasing
  · have hq' : u'.queue = [] := by
      have hplan := h.2
      unfold planFenced at hplan
      simp only [hrel] at hplan
      exact hempty hplan.2.1
    simp only [Lease.reported, hrel, if_true]
    cases hw : l.waiters with
    | nil => simp [planFenced, Lease.passedOn, hw, hrest, hq']
    | cons w ws => simp [planFenced, Lease.passedOn, hw, Lease.grantedTo, hq', hnotRunning]
  · have hsame : l.reported = l := by simp [Lease.reported, hrel]
    rw [hsame]
    have hplan := h.2
    unfold planFenced at *
    cases hf : l.phase with
    | releasing => exact absurd hf hrel
    | free => simp only [hf] at hplan; exact ⟨hrest, hempty hplan.2⟩
    | held p i k w =>
      simp only [hf] at hplan
      exact ⟨fun seg hseg => hplan.1 seg (hq seg hseg), fun a ha => absurd ha (hnotRunning a)⟩

theorem LegUnit.atRest_settle (u : LegUnit) (c : Nat) : (u.settle c).atRest = u.atRest := rfl

theorem LegUnit.atRest_of_driving {u : LegUnit} : u.atRest = !u.phase.driving := by
  cases h : u.phase <;> simp [LegUnit.atRest, LegPhase.driving, h]

/-- A leg whose plan is taken has nothing pending, and an active segment only with a LEASE cut (R20). -/
theorem LegUnit.planGone_spec (u : LegUnit) :
    u.planGone.queue = [] ∧ u.planGone.atRest = u.atRest
      ∧ ∀ a, u.planGone.phase = .running a → a.cut = .lease := by
  cases h : u.phase <;> simp [LegUnit.planGone, LegUnit.cutForLease, LegUnit.atRest, h]

/-- A record and a leg whose plan has been taken from it: any phase that the leg's state allows (R20, R95). -/
theorem Fenced.planGone {l : Lease} (hok : l.Ok) (u : LegUnit)
    (hfree : l.phase = .free → u.atRest = true) (hrel : l.phase = .releasing → u.atRest = false) :
    Fenced l u.planGone := by
  obtain ⟨hq, hrest, hcut⟩ := u.planGone_spec
  refine ⟨hok, ?_⟩
  unfold planFenced
  cases hf : l.phase with
  | free => exact ⟨hrest.trans (hfree hf), hq⟩
  | releasing => exact ⟨hrest.trans (hrel hf), hq, hcut⟩
  | held p i k w => exact ⟨by simp [hq], fun a ha => .inr (hcut a ha)⟩

/-! ### A leg at a boundary -/

theorem Fenced.followed {l : Lease} {u : LegUnit} (h : Fenced l u) (hrest : u.phase.isTripped = false)
    (answer : Option SyncAnswer) (c : Nat) :
    Fenced (if u.reports (u.followed answer c) then l.reported else l) (u.followed answer c) := by
  have hidle : ∀ q : List Segment, (∀ seg ∈ q, seg ∈ u.queue) →
      Fenced (if u.reports ({ u with queue := q }.toIdle.settle c) then l.reported else l)
        ({ u with queue := q }.toIdle.settle c) := by
    intro q hq
    split
    · exact h.rests rfl hq
    · next hr =>
      refine h.stays ?_ hq fun a ha => by simp [LegUnit.toIdle] at ha
      have hnot : reportsIdle u.phase = false := by simpa [LegUnit.reports, LegUnit.toIdle] using hr
      cases hp : u.phase <;> simp_all [LegUnit.atRest, reportsIdle, LegUnit.settle, LegUnit.toIdle]
  have hstays : Fenced (if u.reports u then l.reported else l) u := by
    have hsame : u.reports u = false := by cases hp : u.phase <;> simp [LegUnit.reports, hp, reportsIdle]
    simpa [hsame] using h
  cases hq : u.queue with
  | nil =>
    cases hr : reportsIdle u.phase with
    | false => simpa [LegUnit.followed, hq, hr] using hstays
    | true =>
      have hidled : u.followed answer c = u.toIdle.settle c := by simp [LegUnit.followed, hq, hr]
      rw [hidled]
      exact hidle u.queue fun _ hs => hs
  | cons head rest =>
    have hheld := h.held_of_pending (by simp [hq])
    obtain ⟨hgens, hactive⟩ := h.2.of_held hheld
    have hactivated : Fenced l
        ({ u with phase := .running ⟨head, 0, false, .none⟩, queue := rest }.settle c) := by
      refine ⟨h.1, planFenced_of_held hheld (fun seg hseg => hgens seg ?_) fun a ha => ?_⟩
      · rw [hq]; exact List.mem_cons_of_mem _ hseg
      · simp only [LegUnit.settle_phase, LegPhase.running.injEq] at ha
        subst ha
        exact .inl (hgens head (by simp [hq]))
    have hholding : Fenced l ({ u with phase := .holding (heldAfter u.phase) }.settle c) :=
      ⟨h.1, planFenced_of_held hheld hgens fun a ha => by simp at ha⟩
    cases hsync : head.sync with
    | none => simpa [LegUnit.followed, hq, hsync, LegUnit.reports] using hactivated
    | some f =>
      rcases answer with _ | _ | _ | _
      · simpa [LegUnit.followed, hq, hsync] using hstays
      · simpa [LegUnit.followed, hq, hsync, LegUnit.reports] using hactivated
      · simpa [LegUnit.followed, hq, hsync, LegUnit.reports] using hholding
      · simpa [LegUnit.followed, hq, hsync] using hidle [] (by simp)

theorem Fenced.aged {l : Lease} {u : LegUnit} {a : Active} (h : Fenced l u) (hp : u.phase = .running a) :
    Fenced l { u with phase := .running a.age } :=
  h.stays (by simp [LegUnit.atRest, hp]) (fun _ hs => hs) fun a' ha' => by
    cases ha'; exact ⟨a, hp, rfl, id⟩

theorem Fenced.taken {l : Lease} {u : LegUnit} (h : Fenced l u) (answer : Option SyncAnswer) (c : Nat) :
    Fenced (if u.reports (u.taken answer c) then l.reported else l) (u.taken answer c) := by
  cases hp : u.phase with
  | tripped rec => simpa [LegUnit.taken, hp, LegUnit.reports] using h
  | idle => simpa [LegUnit.taken, hp] using h.followed (by simp [hp, LegPhase.isTripped]) answer c
  | holding x => simpa [LegUnit.taken, hp] using h.followed (by simp [hp, LegPhase.isTripped]) answer c
  | running a =>
    have haged := h.aged hp
    simp only [LegUnit.taken, hp]
    cases hend : a.age.endReason u.queue.length with
    | none => simpa [LegUnit.reports] using haged
    | some reason =>
      simpa [LegUnit.reports, hp, reportsIdle] using haged.followed rfl answer c

theorem Fenced.caused {l : Lease} {u : LegUnit} (h : Fenced l u) (x : Cause) (period : Dword) (c : Nat) :
    Fenced (if u.phase.isTripped then l else l.reported) (u.caused x period c) := by
  cases hp : u.phase with
  | tripped rec =>
    simp only [LegUnit.caused, hp, LegPhase.isTripped, if_true]
    exact h.stays (by simp [LegUnit.joined, LegUnit.atRest, hp]) (fun _ hs => hs) fun a ha => by
      simp [LegUnit.joined] at ha
  | idle | running _ | holding _ =>
    simp only [LegUnit.caused, hp, LegPhase.isTripped]
    exact h.rests rfl (by simp [LegUnit.trippedBy])

theorem Fenced.escalated {l : Lease} {u : LegUnit} (h : Fenced l u) (run : Nat) (period : Dword) (c : Nat) :
    Fenced (if u.phase.isTripped then l else l.reported) (u.escalated run period c) :=
  Fenced.caused (u := { u with runCount := run }) h .escalated period c

theorem Fenced.toIdle {l : Lease} {u : LegUnit} (h : Fenced l u) (hrest : u.atRest = true) (c : Nat) :
    Fenced l (u.toIdle.settle c) :=
  h.stays (by rw [hrest]; rfl) (fun _ hs => hs) fun a ha => by simp [LegUnit.toIdle] at ha

theorem Fenced.closed {l : Lease} {u : LegUnit} (h : Fenced l u) (before : LegUnit) (trip0 : Bool)
    (period : Dword) (c : Nat) :
    Fenced (if u.phase.driving = true ∧ before.escalates = true then l.reported else l)
      (u.closed before trip0 period c) := by
  unfold LegUnit.closed
  cases hp : u.phase with
  | tripped rec =>
    simp only [LegPhase.driving, Bool.false_eq_true, false_and, if_false]
    split
    · exact h.toIdle (by simp [LegUnit.atRest, hp]) c
    · exact h
  | idle =>
    simp only [LegPhase.driving, Bool.false_eq_true, false_and, if_false]
    exact h.toIdle (by simp [LegUnit.atRest, hp]) c
  | running _ | holding _ =>
    have hsame : ∀ v : LegUnit, v.phase = u.phase → v.queue = u.queue → Fenced l v := fun v hv hq =>
      h.stays (by simp only [LegUnit.atRest_of_driving, hv]) (fun seg hseg => hq ▸ hseg) fun a ha =>
        ⟨a, hv ▸ ha, rfl, id⟩
    simp only [LegPhase.driving, true_and]
    split
    · simpa [hp, LegPhase.isTripped] using h.escalated before.closedRun period c
    · exact hsame _ hp.symm rfl

theorem Fenced.examine {l : Lease} {u : LegUnit} (h : Fenced l u) (d : Chan) (position : Nat) (up : Bool) :
    Fenced l (u.examine d position up) := by
  unfold LegUnit.examine
  split
  · next a hp =>
    split
    · split
      · exact h.stays (by simp [LegUnit.atRest, hp]) (fun _ hs => hs) fun a' ha' => by
          cases ha'; exact ⟨a, hp, rfl, id⟩
      · exact h
    · exact h
  all_goals exact h

theorem Fenced.cutByHost {l : Lease} {u : LegUnit} (h : Fenced l u) : Fenced l u.cutByHost := by
  unfold LegUnit.cutByHost
  split
  · next a hp =>
    split
    · next hcut =>
      exact h.stays (by simp [LegUnit.atRest, hp]) (fun _ hs => hs) fun a' ha' => by
        cases ha'; exact ⟨a, hp, rfl, fun hl => by simp [hcut] at hl⟩
    · exact h
  all_goals exact h

end Sys2Proof.Machine
end

section
/-! PROOFS. Every step keeps the lease records legal, and every leg's plan with its lease: the whole part (R73 to
R76, R97, R105, R108). -/

namespace Sys2Proof.Machine

open Sys2Proof

-- One theorem at a time, as in the tests: proofs that wait for the kernel would each hold a thread.
set_option Elab.async false

/-- What the invariant asks of one resource: a leg's plan belongs to its legal record, and another resource has a
legal record that is not RELEASING (R74, R108). -/
def State.FencedAt (s : State) : Resource → Prop
  | .leg n => Fenced (s.lease (.leg n)) (s.leg n)
  | .carrier => (s.lease .carrier).Ok ∧ (s.lease .carrier).phase ≠ .releasing
  | .chan c => (s.lease (.chan c)).Ok ∧ (s.lease (.chan c)).phase ≠ .releasing

/-- The invariant, resource by resource. -/
def State.AllFenced (s : State) : Prop := ∀ r, s.FencedAt r

theorem State.allFenced_iff (s : State) : s.AllFenced ↔ s.LeasesOk ∧ s.PlansFenced := by
  constructor
  · intro h
    refine ⟨⟨fun r => ?_, (h .carrier).2, fun c => (h (.chan c)).2⟩, fun n => (h (.leg n)).2⟩
    cases r with
    | leg n => exact (h (.leg n)).1
    | carrier => exact (h .carrier).1
    | chan c => exact (h (.chan c)).1
  · rintro ⟨⟨hok, hcarrier, hchan⟩, hplans⟩ r
    cases r with
    | leg n => exact ⟨hok _, hplans n⟩
    | carrier => exact ⟨hok _, hcarrier⟩
    | chan c => exact ⟨hok _, hchan c⟩

theorem State.FencedAt.ok {s : State} {r : Resource} (h : s.FencedAt r) : (s.lease r).Ok := by
  cases r <;> exact h.1

/-- A resource whose record and leg stay as they were stays fenced. -/
theorem State.FencedAt.congr {s t : State} {r : Resource} (h : s.FencedAt r) (hl : t.lease r = s.lease r)
    (hu : ∀ n, r = .leg n → t.leg n = s.leg n) : t.FencedAt r := by
  cases r with
  | leg n => simp only [State.FencedAt] at *; rw [hl, hu n rfl]; exact h
  | carrier | chan c => simp only [State.FencedAt] at *; rw [hl]; exact h

theorem State.AllFenced.congr {s t : State} (h : s.AllFenced) (hl : ∀ r, t.lease r = s.lease r)
    (hu : ∀ n, t.leg n = s.leg n) : t.AllFenced := fun r => (h r).congr (hl r) fun n _ => hu n

/-- A change of one leg with its record. -/
theorem State.AllFenced.atLeg {s t : State} (h : s.AllFenced) (n : Leg)
    (hl : ∀ r, r ≠ .leg n → t.lease r = s.lease r) (hu : ∀ k, k ≠ n → t.leg k = s.leg k)
    (hn : Fenced (s.lease (.leg n)) (s.leg n) → Fenced (t.lease (.leg n)) (t.leg n)) : t.AllFenced := by
  intro r
  by_cases hr : r = .leg n
  · subst hr; exact hn (h (.leg n))
  · exact (h r).congr (hl r hr) fun k hk => hu k fun hkn => hr (hkn ▸ hk)

/-- A change of one record that keeps its phase and generation, and keeps it legal. -/
theorem State.AllFenced.atLease {s t : State} (h : s.AllFenced) (r : Resource)
    (hl : ∀ q, q ≠ r → t.lease q = s.lease q) (hu : ∀ n, t.leg n = s.leg n)
    (hok : (s.lease r).Ok → (t.lease r).Ok)
    (hheld : (t.lease r).gen = (s.lease r).gen ∧ ((t.lease r).phase = (s.lease r).phase
      ∨ (∃ p i k w, (s.lease r).phase = .held p i k w) ∧ ∃ p i k w, (t.lease r).phase = .held p i k w)) :
    t.AllFenced := by
  intro q
  by_cases hq : q = r
  · subst hq
    have hfenced := h q
    obtain ⟨hgen, hphase⟩ := hheld
    have hnot : (s.lease q).phase ≠ .releasing → (t.lease q).phase ≠ .releasing := by
      rcases hphase with hsame | ⟨-, p, i, k, w, hf⟩
      · rw [hsame]; exact id
      · rw [hf]; simp
    cases q with
    | leg n =>
      refine ⟨hok hfenced.1, ?_⟩
      rw [hu]
      rcases hphase with hsame | ⟨hbefore, hafter⟩
      · exact planFenced_congr hfenced.2 hsame hgen
      · obtain ⟨hq, ha⟩ := hfenced.2.of_held hbefore
        exact planFenced_of_held hafter (by rwa [hgen]) (by rwa [hgen])
    | carrier | chan c => exact ⟨hok hfenced.1, hnot hfenced.2⟩
  · exact (h q).congr (hl q hq) fun n _ => hu n

/-! ### The shared operations -/

theorem State.AllFenced.endLease {s : State} (h : s.AllFenced) (r : Resource)
    (hheld : (s.lease r).phase ≠ .free) : (s.endLease r).AllFenced := by
  intro q
  by_cases hq : q = r
  · subst hq
    have hok := (h q).ok
    cases q with
    | leg n =>
      simp only [State.FencedAt]
      rw [State.endLease_lease, State.endLease_leg, if_pos rfl, if_pos rfl]
      cases hrest : s.resourceAtRest (.leg n) with
      | true =>
        refine Fenced.planGone hok.passedOn.1 _ (fun _ => hrest) fun hrel => ?_
        exact absurd hrel hok.passedOn.2
      | false => exact Fenced.planGone (hok.releasing hheld) _ (fun hf => by simp at hf) fun _ => hrest
    | carrier | chan c =>
      simp only [State.FencedAt]
      rw [State.endLease_lease, if_pos rfl]
      exact hok.passedOn
  · refine (h q).congr (by rw [State.endLease_lease, if_neg hq]) fun n hn => ?_
    rw [State.endLease_leg, if_neg fun hr => hq (hn.trans hr.symm)]

theorem State.AllFenced.completeRearm {s : State} (h : s.AllFenced) (n : Leg) :
    (s.completeRearm n).AllFenced := by
  refine h.atLeg n (fun r _ => by simp) (fun k hk => by simp [State.completeRearm_leg, hk]) fun hn => ?_
  rw [State.completeRearm_leg, State.completeRearm_lease]
  split
  · next ht => exact hn.toIdle (by cases hp : (s.leg n).phase <;> simp_all [LegUnit.atRest, LegPhase.isTripped]) _
  · exact hn

theorem State.AllFenced.completeIfPending {s : State} (h : s.AllFenced) (n : Leg) :
    (s.completeIfPending n).AllFenced := by
  unfold State.completeIfPending
  split
  · exact h.completeRearm n
  · exact h

theorem State.AllFenced.causeArises {s : State} (h : s.AllFenced) (n : Leg) (c : Cause) :
    (s.causeArises n c).AllFenced := by
  refine h.atLeg n (fun r hr => by simp [State.causeArises_lease, hr])
    (fun k hk => by simp [State.causeArises_leg, hk]) fun hn => ?_
  rw [State.causeArises_leg, State.causeArises_lease]
  have hcaused := hn.caused c s.carrier.period s.carrier.counter
  cases ht : (s.leg n).phase.isTripped <;> simpa [ht] using hcaused

theorem State.AllFenced.escalate {s : State} (h : s.AllFenced) (n : Leg) (run : Nat) :
    (s.escalate n run).AllFenced := by
  refine h.atLeg n (fun r hr => by simp [State.escalate_lease, hr])
    (fun k hk => by simp [State.escalate_leg, hk]) fun hn => ?_
  rw [State.escalate_leg, State.escalate_lease]
  have hcaused := hn.escalated run s.carrier.period s.carrier.counter
  cases ht : (s.leg n).phase.isTripped <;> simpa [ht] using hcaused

/-- Each leg stays as it is up to its output stage, so its plan is where it was. -/
theorem State.AllFenced.sameLegs {s t : State} (h : s.AllFenced) (hl : ∀ r, t.lease r = s.lease r)
    (hu : ∀ n, (t.leg n).phase = (s.leg n).phase ∧ (t.leg n).queue = (s.leg n).queue) : t.AllFenced := by
  intro r
  cases r with
  | leg n =>
    obtain ⟨hphase, hqueue⟩ := hu n
    simp only [State.FencedAt]
    rw [hl]
    exact (h (.leg n)).stays (by simp only [LegUnit.atRest_of_driving, hphase])
      (fun seg hseg => hqueue ▸ hseg) fun a ha => ⟨a, hphase ▸ ha, rfl, id⟩
  | carrier | chan c => exact (h _).congr (hl _) fun n hn => by cases hn

theorem State.AllFenced.settleAll {s : State} (h : s.AllFenced) : s.settleAll.AllFenced :=
  h.sameLegs (fun r => by simp) fun n => by simp

/-- A boundary keeps every plan with its lease (R31, R98). -/
theorem State.AllFenced.boundaryWith {s : State} (h : s.AllFenced) (first : PerLeg Bool) :
    (s.boundaryWith first).AllFenced := by
  refine State.AllFenced.settleAll ?_
  refine foldl_keeps (P := State.AllFenced) (fun t k ht => ?_) Leg.all ?_
  · refine ht.atLeg k (fun r hr => by simp [State.closePeriod_lease, hr])
      (fun n hn => by simp [State.closePeriod_leg, hn]) fun hk => ?_
    rw [State.closePeriod_leg, State.closePeriod_lease]
    simpa using hk.closed (s.legs.get k) t.trip.trip0.level t.carrier.period t.carrier.counter
  have htake : ((s.setCarrier s.carrier.boundary).escalateEarly first).AllFenced := by
    refine foldl_keeps (P := State.AllFenced) (fun t k ht => ?_) Leg.all (h.congr (fun _ => rfl) fun _ => rfl)
    split
    · exact ht.escalate k _
    · exact ht
  refine foldl_keeps (P := State.AllFenced) (fun t k ht => ?_) Leg.all htake
  refine ht.atLeg k (fun r hr => by simp [State.takeBoundary_lease, hr])
    (fun n hn => by simp [State.takeBoundary_leg, hn]) fun hk => ?_
  rw [State.takeBoundary_leg, State.takeBoundary_lease]
  simpa using hk.taken _ t.carrier.counter

/-! ### Commands -/

/-- A change of one leg alone. -/
theorem State.AllFenced.updLeg {s : State} (h : s.AllFenced) (n : Leg) {f : LegUnit → LegUnit}
    (hf : Fenced (s.lease (.leg n)) (s.leg n) → Fenced (s.lease (.leg n)) (f (s.leg n))) :
    (s.updLeg n f).AllFenced := by
  refine h.atLeg n (fun _ _ => rfl) (fun k hk => by simp [hk]) fun hn => ?_
  simpa using hf hn

theorem State.AllFenced.flushQueue {s : State} (h : s.AllFenced) (n : Leg) : (s.flushQueue n).AllFenced := by
  refine h.atLeg n (fun _ _ => by simp) (fun k hk => by simp [State.flushQueue_leg, hk]) fun hn => ?_
  rw [State.flushQueue_leg, if_pos rfl, State.flushQueue_lease]
  exact hn.stays rfl (by simp) fun a ha => ⟨a, ha, rfl, id⟩

/-- A command whose segment passed the checks of R14 finds the leg HELD. -/
theorem State.PlanOpen.held {s : State} {n : Leg} {p : Port} {seg : Segment} (h : s.PlanOpen n p seg) :
    ∃ q i k w, (s.lease (.leg n)).phase = .held q i k w := by
  obtain ⟨⟨hh, -⟩, -⟩ := h
  cases hf : (s.lease (.leg n)).phase <;> simp [Lease.holder?, hf] at hh ⊢

/-- The queue of a HELD leg may take segments of the current generation (R14, R97). -/
theorem Fenced.withQueue {l : Lease} {u : LegUnit} (h : Fenced l u) (hheld : ∃ p i k w, l.phase = .held p i k w)
    {q : List Segment} (hq : ∀ seg ∈ q, seg ∈ u.queue ∨ seg.gen = l.gen) : Fenced l { u with queue := q } := by
  obtain ⟨hgens, hactive⟩ := h.2.of_held hheld
  refine ⟨h.1, planFenced_of_held hheld (fun seg hseg => ?_) hactive⟩
  rcases hq seg hseg with hold | hnew
  · exact hgens seg hold
  · exact hnew

theorem Fenced.setRearm {l : Lease} {u : LegUnit} (h : Fenced l u) : Fenced l u.setRearm := by
  unfold LegUnit.setRearm
  split
  · next rec hp =>
    exact h.stays (by simp [LegUnit.atRest, hp]) (fun _ hs => hs) fun a ha => by simp at ha
  all_goals exact h

theorem State.AllFenced.replaced {s : State} (h : s.AllFenced) {n : Leg} {p : Port} {seg : Segment}
    (hopen : s.PlanOpen n p seg) : ((s.flushQueue n).updLeg n fun u => { u with queue := [seg] }).AllFenced := by
  refine (h.flushQueue n).updLeg n fun hu => hu.withQueue (by simpa using hopen.held) fun x hx => .inr ?_
  rw [List.mem_singleton.mp hx, State.flushQueue_lease]
  exact hopen.1.2.symm

theorem State.AllFenced.configured {s : State} (h : s.AllFenced) (n : Leg) (cfg : LegConfig) :
    (s.changeLeg n fun u => { u with config := cfg }).AllFenced :=
  h.updLeg n fun hu => hu.stays rfl (fun _ hs => hs) fun a ha => ⟨a, ha, rfl, id⟩

/-- A grant to a resource that was FREE, or whose plan is taken (R81, R106). -/
theorem State.AllFenced.grantTo {s t : State} (h : s.AllFenced) (r : Resource) (p : Port) {n : Nat}
    (hn : 1 ≤ n ∧ n ≤ 10000) (hl : ∀ q, t.lease q = (s.grantTo r p n).lease q)
    (hu : ∀ k, t.leg k = if r = .leg k then (s.leg k).planGone else s.leg k) : t.AllFenced := by
  intro q
  by_cases hq : q = r
  · subst hq
    have hok : (t.lease q).Ok := by simpa [hl, State.grantTo] using (h q).ok.grant p hn
    have hphase : (t.lease q).phase = .held p n n false := by simp [hl, State.grantTo, Lease.grant]
    cases q with
    | leg k =>
      simp only [State.FencedAt]
      rw [hu, if_pos rfl]
      exact Fenced.planGone hok _ (fun hf => by simp [hphase] at hf) fun hf => by simp [hphase] at hf
    | carrier | chan c => exact ⟨hok, by simp [hphase]⟩
  · refine (h q).congr (by simp [hl, State.grantTo, hq]) fun k hk => ?_
    rw [hu, if_neg fun hr => hq (hk.trans hr.symm)]

/-- A leg whose lease is FREE has no plan to take (R105). -/
theorem State.AllFenced.planGone_free {s : State} (h : s.AllFenced) {n : Leg}
    (hf : (s.lease (.leg n)).phase = .free) : (s.leg n).planGone = s.leg n := by
  have hplan := (h (.leg n)).2
  unfold planFenced at hplan
  simp only [hf] at hplan
  obtain ⟨hrest, hq⟩ := hplan
  cases hp : (s.leg n).phase <;> simp_all [LegUnit.planGone, LegUnit.cutForLease, LegUnit.atRest]
  all_goals simp [← hp, ← hq]

theorem Effect.allFenced {s t : State} {p : Port} (h : Effect s p t) (hs : s.AllFenced) : t.AllFenced := by
  cases h
  case grant r n hfree hn =>
    refine hs.grantTo r p hn (fun _ => rfl) fun k => ?_
    split
    · next hr => subst hr; exact (hs.planGone_free hfree).symm
    · rfl
  case wait r n hphase hother hn =>
    have hsame := State.joinWaiters_phase s r p n
    refine hs.atLease r (fun q hq => (hsame q).2.2 hq) (fun _ => State.joinWaiters_leg ..)
      (fun hok => State.joinWaiters_lease_ok hok hphase hother hn) ⟨(hsame r).2.1, .inl (hsame r).1⟩
  case cancelWait r =>
    refine hs.atLease r (fun q hq => by simp [hq]) (fun _ => rfl) (fun hok => ?_) ?_
    · simpa using hok.dropWaiter p
    · simp [Lease.dropWaiter]
  case renew rs =>
    refine foldl_keeps (P := State.AllFenced) (fun t r ht => ?_) rs hs
    refine ht.atLease r (fun q hq => by simp [hq]) (fun _ => rfl) (fun hok => by simpa using hok.renew) ?_
    cases hf : (t.lease r).phase <;> simp [Lease.renew, hf]
  case release r hheld =>
    exact hs.endLease r fun hf => by simp [Lease.holder?, hf] at hheld
  case seize r n _ hn | seizeTold r n _ hn q x =>
    refine hs.grantTo r p hn (fun q => ?_) fun k => ?_
    · simp [State.clearSeized_lease, State.grantTo, Lease.grant]
    · simp [State.clearSeized_leg, State.grantTo]
  case append n seg hopen _ =>
    refine hs.updLeg n fun hu => hu.withQueue hopen.held fun x hx => ?_
    rcases List.mem_append.mp hx with hx | hx
    · exact .inl hx
    · exact .inr (by rw [List.mem_singleton.mp hx]; exact hopen.1.2.symm)
  case replace n seg hopen => exact hs.replaced hopen
  case replaceAtOnce n seg hopen => exact (hs.replaced hopen).updLeg n fun hu => hu.cutByHost
  case flush n => exact hs.flushQueue n
  case cut n => exact hs.updLeg n fun hu => hu.cutByHost
  case setLeg n cfg _ _ => exact hs.configured n cfg
  case setLegCause n cfg _ _ => exact (hs.configured n cfg).causeArises n _
  case setRearm n => exact hs.updLeg n fun hu => hu.setRearm
  case completeRearm n => exact hs.completeRearm n
  case setCarrier | start => exact State.AllFenced.settleAll (hs.congr (fun _ => rfl) fun _ => rfl)
  case stop =>
    exact foldl_keeps (fun _ n h => h.completeIfPending n) Leg.all (hs.congr (fun _ => rfl) fun _ => rfl)
  all_goals exact hs.congr (fun _ => rfl) fun _ => rfl

/-- A record at a lease tick counts down, warns or expires (R88, R89, R101). -/
theorem State.AllFenced.leaseCount {s : State} (h : s.AllFenced) (r : Resource) : (s.leaseCount r).AllFenced := by
  unfold State.leaseCount
  split
  · exact h
  · exact h
  · next p i k w hf =>
    have hcount : ∀ (w' : Bool) (t : State), ¬ k ≤ 1 →
        (∀ q, t.lease q = if q = r then { s.lease q with phase := .held p i (k - 1) w' } else s.lease q) →
        (∀ n, t.leg n = s.leg n) → t.AllFenced := by
      intro w' t hk hl hu
      refine h.atLease r (fun q hq => by simp [hl, hq]) hu (fun hok => ?_) ?_
      · rw [hl, if_pos rfl]; exact hok.counted hf (by omega) (by omega) w'
      · rw [hl, if_pos rfl]; exact ⟨rfl, .inr ⟨⟨p, i, k, w, hf⟩, ⟨p, i, k - 1, w', rfl⟩⟩⟩
    split
    · exact (h.endLease r (by simp [hf])).congr (fun _ => rfl) fun _ => rfl
    · next hk =>
      split
      · exact hcount true _ hk (fun q => by simp) fun n => by simp
      · exact hcount w _ hk (fun q => by simp) fun n => by simp

theorem State.AllFenced.presenceFalls {s : State} (h : s.AllFenced) (p : Port) :
    (s.presenceFalls p).AllFenced := by
  refine foldl_keeps (P := State.AllFenced) (fun t r ht => ?_) Resource.all ?_
  · unfold State.endIfHeld
    split
    · next hheld => exact ht.endLease r fun hf => by simp [Lease.holder?, hf] at hheld
    · exact ht
  refine foldl_keeps (P := State.AllFenced) (f := fun t r => t.updLease r fun l => l.dropWaiter p)
    (fun t r ht => ?_) Resource.all (h.congr (fun _ => rfl) fun _ => rfl)
  refine ht.atLease r (fun q hq => by simp [hq]) (fun _ => rfl) (fun hok => ?_) ?_
  · simpa using hok.dropWaiter p
  · simp [Lease.dropWaiter]

theorem PerResource.get_all {α : Type} (x : α) (r : Resource) : (PerResource.all x).get r = x := by
  rcases r with n | _ | c
  · cases n <;> rfl
  · rfl
  · cases c <;> rfl

/-- At reset every lease is FREE and every leg IDLE with an empty queue. -/
theorem State.AllFenced.of_reset {s : State} (hl : ∀ r, s.lease r = Lease.reset)
    (hu : ∀ n, s.leg n = LegUnit.reset) : s.AllFenced := by
  have hok : Lease.reset.Ok := by simp [Lease.Ok, Lease.reset]
  intro r
  cases r with
  | leg n => simp only [State.FencedAt, hl, hu]; exact ⟨hok, rfl, rfl⟩
  | carrier | chan c => simp only [State.FencedAt, hl]; exact ⟨hok, by simp [Lease.reset]⟩

theorem Deed.allFenced {s t : State} (hs : s.AllFenced) (h : Deed False False s t) : t.AllFenced := by
  cases h
  case command p _ heffect => exact heffect.allFenced hs
  case presenceFalls p => exact hs.presenceFalls p
  case rearms n => exact hs.completeRearm n
  case cause n c => exact hs.causeArises n c
  case cut n _ =>
    refine hs.sameLegs (fun r => by simp) fun k => ?_
    rw [State.setCut_leg]
    split <;> exact ⟨rfl, rfl⟩
  case leaseTick =>
    exact foldl_keeps (P := State.AllFenced) (fun t r ht => ht.leaseCount r) Resource.all
      (hs.congr (fun _ => rfl) fun _ => rfl)
  case count => exact State.AllFenced.settleAll (hs.congr (fun _ => rfl) fun _ => rfl)
  case boundary first _ => exact hs.boundaryWith first
  case intervalTick c => exact hs.congr (fun r => by simp) fun n => by simp
  case chanTakes c tick x y z =>
    intro r
    cases r with
    | leg n =>
      simp only [State.FencedAt, State.chanTakes_lease]
      rcases s.chanTakes_leg c tick x y z n with hn | ⟨d, position, up, hn⟩ <;> rw [hn]
      · exact hs (.leg n)
      · exact (hs (.leg n)).examine d position up
    | carrier | chan d => exact (hs _).congr (by simp) fun n hn => by cases hn
  case sampleStages => exact hs.sameLegs (fun r => by simp) fun n => by simp [State.sampleStages_leg, LegUnit.sample]
  case abandon | released =>
    exact State.AllFenced.of_reset (PerResource.get_all Lease.reset) fun n => by cases n <;> rfl
  all_goals exact hs.congr (fun _ => rfl) fun _ => rfl

/-- Settles O57: that every resource is fenced is an invariant of every deed. -/
theorem leasesAndPlansKept : Obligations.LeasesAndPlansKept := by
  intro s t hleases hplans hstep
  exact (State.allFenced_iff t).mp (step_keeps (P := State.AllFenced)
    (fun _ _ h => h.congr (fun _ => rfl) fun _ => rfl) (fun _ _ h hd => hd.allFenced h)
    ((State.allFenced_iff s).mpr ⟨hleases, hplans⟩) hstep)

end Sys2Proof.Machine
end

section
/-! PROOFS. Every step keeps the Carrier Timer legal, and no leg drives while it is STOPPED or in a lead-in (R26,
R30, R40). -/

namespace Sys2Proof.Machine

open Sys2Proof

-- One theorem at a time, as in the tests: proofs that wait for the kernel would each hold a thread.
set_option Elab.async false

/-! ### The Carrier Timer -/

/-- A RUNNING carrier may stand at any count up to the active period, RISING in EDGE mode. -/
theorem Carrier.Ok.moved {t : Carrier} (h : t.Ok) (hrun : t.run = .running) {counter : Nat} {slope : Slope}
    {dwell : Nat} (hc : counter ≤ t.active) (hm : t.mode = .edge → slope = .rising) :
    Carrier.Ok { t with counter := counter, slope := slope, dwell := dwell } := by
  obtain ⟨ha, ha', hp, hp', hl, hl', -, -, -, -⟩ := h
  exact ⟨ha, ha', hp, hp', hl, hl', hc.trans ha', hm, fun h => by simp [hrun] at h, fun _ => hc⟩

theorem Carrier.Ok.count {t : Carrier} (h : t.Ok) (hrun : t.run = .running) (hdue : t.boundaryDue = false) :
    t.count.Ok := by
  obtain ⟨ha, -, -, -, -, -, -, hm, -, hr⟩ := id h
  have hbound := hr hrun
  unfold Carrier.count
  split
  · next slope hmode =>
    simp only [Carrier.boundaryDue, hmode, decide_eq_false_iff_not] at hdue
    exact h.moved hrun (by omega) hm
  · next hmode hslope =>
    simp only [Carrier.boundaryDue, hmode, hslope, decide_eq_false_iff_not] at hdue
    exact h.moved hrun (by omega) hm
  · next hmode hslope =>
    split_ifs
    · exact h.moved hrun (by omega) hm
    · exact h.moved hrun hbound hm
    · exact h.moved hrun (by omega) fun _ => rfl

theorem Carrier.Ok.boundary {t : Carrier} (h : t.Ok) (hrun : t.run = .running) : t.boundary.Ok := by
  obtain ⟨-, -, hp, hp', hl, hl', -⟩ := h
  unfold Carrier.boundary
  refine ⟨hp, hp', hp, hp', hl, hl', ?_, fun hm => ?_, fun h => by simp [hrun] at h, fun _ => ?_⟩
  · dsimp only; split <;> omega
  · simp only at hm; simp only [hm]
  · dsimp only; split <;> omega

theorem Carrier.Ok.restart {t : Carrier} (h : 16 ≤ t.active ∧ t.active ≤ 65535 ∧ 16 ≤ t.preload
    ∧ t.preload ≤ 65535 ∧ 1 ≤ t.syncLimit ∧ t.syncLimit ≤ 1023)
    (hs : t.run = .stopped → t.active = t.preload) : t.restart.Ok := by
  obtain ⟨ha, ha', hp, hp', hl, hl'⟩ := h
  unfold Carrier.restart
  exact ⟨ha, ha', hp, hp', hl, hl', Nat.zero_le _, fun hm => by simp only at hm; simp only [hm],
    fun hst => ⟨hs hst, by simp only at hst; simp [hst]⟩, fun _ => Nat.zero_le _⟩

theorem Carrier.Ok.setPeriod {t : Carrier} (h : t.Ok) {n : Nat} (hn : 16 ≤ n ∧ n ≤ 65535) :
    (t.setPeriod n).Ok := by
  obtain ⟨ha, ha', -, -, hl, hl', hc, hm, hs, hr⟩ := h
  unfold Carrier.setPeriod
  split
  · next hrun =>
    exact ⟨ha, ha', hn.1, hn.2, hl, hl', hc, hm, fun h => by simp [hrun] at h, hr⟩
  · next hrun =>
    exact ⟨hn.1, hn.2, hn.1, hn.2, hl, hl', hc, hm, fun h => ⟨rfl, (hs hrun).2⟩, fun h => by simp [hrun] at h⟩

theorem Carrier.reset_ok : Carrier.reset.Ok := by unfold Carrier.Ok; decide

/-! ### Legs at rest -/

/-- While the carrier is STOPPED or in a lead-in every leg is at rest (R30, R40). -/
def State.RestsUnlessCounting (s : State) : Prop :=
  s.carrier.run = .stopped ∨ s.carrier.leadIn = true → ∀ n, (s.leg n).atRest = true

theorem leg_mem_all (n : Leg) : n ∈ Leg.all := by cases n <;> decide

theorem State.atRest_of_anyDriving {s : State} (h : s.anyDriving = false) (n : Leg) :
    (s.leg n).atRest = true := by
  have hnot : (s.leg n).phase.driving ≠ true := List.any_eq_false.mp h n (leg_mem_all n)
  simpa [LegUnit.atRest_of_driving] using hnot

/-- Legs that stay at rest keep the rule while the carrier runs on as it did. -/
theorem State.RestsUnlessCounting.of_leg {s t : State} (h : s.RestsUnlessCounting)
    (hrun : t.carrier.run = s.carrier.run) (hlead : t.carrier.leadIn = s.carrier.leadIn)
    (hleg : ∀ n, (s.leg n).atRest = true → (t.leg n).atRest = true) : t.RestsUnlessCounting := by
  intro hstill n
  rw [hrun, hlead] at hstill
  exact hleg n (h hstill n)

theorem LegUnit.caused_atRest (u : LegUnit) (x : Cause) (period : Dword) (c : Nat) :
    (u.caused x period c).atRest = true := by
  cases hp : u.phase <;> simp [LegUnit.caused, LegUnit.trippedBy, LegUnit.joined, LegUnit.atRest, hp]

theorem LegUnit.cutByHost_atRest (u : LegUnit) : u.cutByHost.atRest = u.atRest := by
  unfold LegUnit.cutByHost
  split
  · split <;> simp_all [LegUnit.atRest]
  all_goals rfl

theorem LegUnit.examine_atRest (u : LegUnit) (d : Chan) (position : Nat) (up : Bool) :
    (u.examine d position up).atRest = u.atRest := by
  unfold LegUnit.examine
  split
  · split
    · split <;> simp_all [LegUnit.atRest]
    · rfl
  all_goals rfl

theorem LegUnit.setRearm_atRest (u : LegUnit) : u.setRearm.atRest = u.atRest := by
  unfold LegUnit.setRearm
  split <;> simp_all [LegUnit.atRest]

theorem State.completeRearm_atRest (s : State) (n k : Leg) (h : (s.leg k).atRest = true) :
    ((s.completeRearm n).leg k).atRest = true := by
  rw [State.completeRearm_leg]
  split
  · rfl
  · exact h

/-- What a command leaves of the carrier's rules (R34 to R38). -/
theorem Effect.carrierOk {s t : State} {p : Port} (h : Effect s p t) (hs : s.CarrierOk) : t.CarrierOk := by
  obtain ⟨hok, hrests⟩ := hs
  obtain ⟨ha, ha', hp, hp', hl, hl', -, -, hstop, -⟩ := id hok
  have hframe : ∀ t : State, t.carrier = s.carrier →
      (∀ n, (s.leg n).atRest = true → (t.leg n).atRest = true) → t.CarrierOk := fun t hc hleg =>
    ⟨by rwa [hc], State.RestsUnlessCounting.of_leg hrests (by rw [hc]) (by rw [hc]) hleg⟩
  cases h
  case wait r n _ _ _ => exact hframe _ (by simp) fun k hk => by simpa using hk
  case renew rs =>
    refine hframe _ ?_ fun k hk => ?_
    · exact foldl_frame State.carrier _ (fun s r => by simp) rs s
    · rwa [foldl_frame (fun s => State.leg s k) _ (fun s r => by simp) rs s]
  case release r _ =>
    refine hframe _ (by simp) fun k hk => ?_
    rw [State.endLease_leg]
    split
    · exact (LegUnit.planGone_spec _).2.1.trans hk
    · exact hk
  case seize r n _ _ | seizeTold r n _ _ q x =>
    refine hframe _ (by cases r <;> simp [State.clearSeized, State.grantTo]) fun k hk => ?_
    simp only [State.post_leg, State.clearSeized_leg, State.grantTo, State.updLease_leg]
    split
    · exact (LegUnit.planGone_spec _).2.1.trans hk
    · exact hk
  case append n seg _ _ | replace n seg _ | flush n =>
    refine hframe _ (by simp) fun k hk => ?_
    simp only [State.updLeg_leg, State.flushQueue_leg]
    split <;> exact hk
  case replaceAtOnce n seg _ =>
    refine hframe _ (by simp) fun k hk => ?_
    simp only [State.updLeg_leg, State.flushQueue_leg]
    split
    · rw [LegUnit.cutByHost_atRest]; exact hk
    · exact hk
  case cut n =>
    refine hframe _ rfl fun k hk => ?_
    rw [State.updLeg_leg]
    split
    · rwa [LegUnit.cutByHost_atRest]
    · exact hk
  case setRearm n =>
    refine hframe _ rfl fun k hk => ?_
    rw [State.updLeg_leg]
    split
    · rwa [LegUnit.setRearm_atRest]
    · exact hk
  case setLeg n cfg _ _ =>
    refine hframe _ (by simp) fun k hk => ?_
    simp only [State.changeLeg_leg]
    split <;> exact hk
  case setLegCause n cfg _ _ =>
    refine hframe _ (by simp) fun k hk => ?_
    simp only [State.causeArises_leg, State.changeLeg_leg]
    split
    · exact LegUnit.caused_atRest ..
    · exact hk
  case completeRearm n => exact hframe _ (by simp) fun k hk => s.completeRearm_atRest n k hk
  case setPeriod n hn =>
    exact ⟨hok.setPeriod hn, State.RestsUnlessCounting.of_leg hrests
      (by simp only [State.setCarrier_carrier, Carrier.setPeriod]; split <;> simp_all)
      (by simp only [State.setCarrier_carrier, Carrier.setPeriod]; split <;> rfl) fun _ hk => hk⟩
  case setSyncLimit n hn =>
    obtain ⟨-, -, -, -, -, -, hc, hm, hst, hr⟩ := hok
    exact ⟨⟨ha, ha', hp, hp', hn.1, hn.2, hc, hm, hst, hr⟩, hrests⟩
  case setCarrier m e hrest =>
    refine ⟨Carrier.Ok.restart ⟨ha, ha', hp, hp', hl, hl'⟩ fun hst => (hstop hst).1, fun _ n => ?_⟩
    rw [State.settleAll_leg, LegUnit.atRest_settle]
    exact State.atRest_of_anyDriving hrest n
  case start hrun =>
    refine ⟨Carrier.Ok.restart ⟨ha, ha', hp, hp', hl, hl'⟩ fun hst => by simp at hst, fun _ n => ?_⟩
    rw [State.settleAll_leg, LegUnit.atRest_settle]
    exact hrests (.inl hrun) n
  case stop hrun hrest =>
    have hcarrier : (Leg.all.foldl State.completeIfPending (s.setCarrier s.carrier.halt)).carrier
        = s.carrier.halt := foldl_frame State.carrier _ State.completeIfPending_carrier Leg.all _
    obtain ⟨-, -, -, -, -, -, hc, hm, -, -⟩ := hok
    refine ⟨?_, fun _ n => ?_⟩
    · rw [hcarrier]
      exact ⟨hp, hp', hp, hp', hl, hl', hc, hm, fun _ => ⟨rfl, rfl⟩, fun h => by simp [Carrier.halt] at h⟩
    · refine foldl_keeps (P := fun t => (t.leg n).atRest = true) (fun t k ht => ?_) Leg.all
        (State.atRest_of_anyDriving hrest n)
      unfold State.completeIfPending
      split
      · exact t.completeRearm_atRest k n ht
      · exact ht
  all_goals exact hframe _ rfl fun _ hk => hk

theorem Deed.carrierOk {s t : State} (h : Deed False False s t) (hs : s.CarrierOk) : t.CarrierOk := by
  obtain ⟨hok, hrests⟩ := id hs
  have hframe : ∀ t : State, t.carrier = s.carrier →
      (∀ n, (s.leg n).atRest = true → (t.leg n).atRest = true) → t.CarrierOk := fun t hc hleg =>
    ⟨by rwa [hc], State.RestsUnlessCounting.of_leg hrests (by rw [hc]) (by rw [hc]) hleg⟩
  have hended : ∀ (t : State) r n, (t.leg n).atRest = true → ((t.endLease r).leg n).atRest = true := by
    intro t r n hn
    rw [State.endLease_leg]
    split
    · exact (LegUnit.planGone_spec _).2.1.trans hn
    · exact hn
  cases h
  case command p _ heffect => exact heffect.carrierOk hs
  case presenceFalls p =>
    refine hframe _ (by simp) fun n hn => ?_
    refine foldl_keeps (P := fun t => (t.leg n).atRest = true) (fun t r ht => ?_) Resource.all (by simpa using hn)
    unfold State.endIfHeld
    split
    · exact hended t r n ht
    · exact ht
  case rearms n => exact hframe _ (by simp) fun k hk => s.completeRearm_atRest n k hk
  case cause n c =>
    refine hframe _ (by simp) fun k hk => ?_
    rw [State.causeArises_leg]
    split
    · exact LegUnit.caused_atRest ..
    · exact hk
  case cut n _ =>
    refine hframe _ (by simp) fun k hk => ?_
    rw [State.setCut_leg]
    split <;> exact hk
  case leaseTick =>
    refine hframe _ (by simp) fun n hn => ?_
    refine foldl_keeps (P := fun t => (t.leg n).atRest = true) (fun t r ht => ?_) Resource.all hn
    unfold State.leaseCount
    split
    · exact ht
    · exact ht
    · split
      · exact hended t r n ht
      · split <;> exact ht
  case count hrun hdue =>
    have hlead : s.carrier.count.leadIn = s.carrier.leadIn := by
      unfold Carrier.count
      split
      · rfl
      · rfl
      · split_ifs <;> rfl
    exact ⟨hok.count hrun hdue, State.RestsUnlessCounting.of_leg hrests (Carrier.count_run _) hlead
      fun n hn => by rwa [State.settleAll_leg, LegUnit.atRest_settle]⟩
  case boundary first hrun =>
    refine ⟨by rw [State.boundaryWith_carrier]; exact hok.boundary hrun, fun hstill => ?_⟩
    rw [State.boundaryWith_carrier] at hstill
    simp [Carrier.boundary, hrun] at hstill
  case intervalTick c => exact hframe _ (by simp) fun n hn => by simpa using hn
  case chanTakes c tick x y z =>
    refine hframe _ (by simp) fun n hn => ?_
    rcases s.chanTakes_leg c tick x y z n with h | ⟨d, position, up, h⟩ <;> rw [h]
    · exact hn
    · rwa [LegUnit.examine_atRest]
  case sampleStages => exact hframe _ (by simp) fun n hn => by rw [State.sampleStages_leg]; exact hn
  case carrierDivider d => exact ⟨hok, hrests⟩
  case abandon | released => exact ⟨Carrier.reset_ok, fun _ n => by cases n <;> rfl⟩
  all_goals exact hframe _ rfl fun _ hk => hk

end Sys2Proof.Machine
end

section
/-! PROOFS. Every step keeps the Sync Unit legal: a leg in a holding-leg set is HOLDING on that mark (R43, R48, R51
to R53). -/

namespace Sys2Proof.Machine

open Sys2Proof

/-- A leg is HOLDING with a head that carries the mark. -/
def LegUnit.HoldsOn (u : LegUnit) (m : Mark) : Prop :=
  (∃ h, u.phase = .holding h) ∧ ∃ f, u.headSync = some f ∧ f.mark = m

theorem LegUnit.HoldsOn.congr {u u' : LegUnit} {m : Mark} (h : u.HoldsOn m) (hp : u'.phase = u.phase)
    (hq : u'.queue = u.queue) : u'.HoldsOn m := by
  unfold LegUnit.HoldsOn LegUnit.headSync at *
  rwa [hp, hq]

/-- Whether a leg is HOLDING. -/
def LegPhase.isHolding : LegPhase → Bool
  | .holding _ => true
  | .idle | .running _ | .tripped _ => false

theorem LegPhase.isHolding_iff (f : LegPhase) : f.isHolding = true ↔ ∃ x, f = .holding x := by
  cases f <;> simp [LegPhase.isHolding]

theorem LegUnit.HoldsOn.isHolding {u : LegUnit} {m : Mark} (h : u.HoldsOn m) : u.phase.isHolding = true :=
  (LegPhase.isHolding_iff _).mpr h.1

theorem LegUnit.HoldsOn.queue_ne_nil {u : LegUnit} {m : Mark} (h : u.HoldsOn m) : u.queue ≠ [] := by
  obtain ⟨-, f, hf, -⟩ := h
  intro hq
  simp [LegUnit.headSync, hq] at hf

/-- Marks and legs alone matter. -/
theorem State.SyncOk.of_leg {s t : State} (h : s.SyncOk) (hm : ∀ m, t.mark m = s.mark m)
    (hleg : ∀ n m, (s.leg n).HoldsOn m → (t.leg n).HoldsOn m) : t.SyncOk := by
  intro m
  rw [hm]
  exact ⟨(h m).1, fun n hn => hleg n m ((h m).2 n hn)⟩

theorem State.SyncOk.congr {s t : State} (h : s.SyncOk) (hm : ∀ m, t.mark m = s.mark m)
    (hleg : ∀ n, t.leg n = s.leg n) : t.SyncOk :=
  h.of_leg hm fun n m hn => by rwa [hleg]

/-- A leg that leaves its holding-leg set may change in any way (R51, R53). -/
theorem State.SyncOk.unholds {s t : State} (h : s.SyncOk) (n : Leg) (hm : ∀ m, t.mark m = (s.unhold n).mark m)
    (hleg : ∀ k, k ≠ n → t.leg k = s.leg k) : t.SyncOk := by
  intro m
  have hmark : t.mark m = { s.mark m with holding := (s.mark m).holding.set n false } := by
    rw [hm]; simp [State.unhold]
  rw [hmark]
  refine ⟨(h m).1, fun k hk => ?_⟩
  by_cases hkn : k = n
  · subst hkn; simp at hk
  · rw [hleg k hkn]
    exact (h m).2 k (by simpa [hkn] using hk)

/-- A leg that is not HOLDING is in no holding-leg set, and may change in any way. -/
theorem State.SyncOk.other {s t : State} (h : s.SyncOk) (n : Leg) (hm : ∀ m, t.mark m = s.mark m)
    (hnot : (s.leg n).phase.isHolding = false) (hleg : ∀ k, k ≠ n → t.leg k = s.leg k) : t.SyncOk := by
  refine h.of_leg hm fun k m hk => ?_
  by_cases hkn : k = n
  · subst hkn
    exact absurd (LegUnit.HoldsOn.isHolding hk) (by simp [hnot])
  · rwa [hleg k hkn]

theorem State.flushQueue_mark (s : State) (n : Leg) (m : Mark) :
    (s.flushQueue n).mark m
      = if (s.leg n).phase.isHolding = true ∧ (s.leg n).queue ≠ [] then (s.unhold n).mark m
        else s.mark m := by
  unfold State.flushQueue
  cases hp : (s.leg n).phase <;> cases hq : (s.leg n).queue <;> simp [State.unhold, LegPhase.isHolding]

/-- A leg that loses its pending segments, and may change besides as far as it is not HOLDING (R3, R51). -/
theorem State.SyncOk.flushed {s t : State} (h : s.SyncOk) (n : Leg)
    (hm : ∀ m, t.mark m = (s.flushQueue n).mark m) (hleg : ∀ k, k ≠ n → t.leg k = s.leg k) : t.SyncOk := by
  by_cases hhold : (s.leg n).phase.isHolding = true ∧ (s.leg n).queue ≠ []
  · exact h.unholds n (fun m => by rw [hm, State.flushQueue_mark, if_pos hhold]) hleg
  · refine h.of_leg (fun m => by rw [hm, State.flushQueue_mark, if_neg hhold]) fun k m hk => ?_
    by_cases hkn : k = n
    · subst hkn; exact absurd ⟨LegUnit.HoldsOn.isHolding hk, LegUnit.HoldsOn.queue_ne_nil hk⟩ hhold
    · rwa [hleg k hkn]

theorem State.planTaken_mark (s : State) (n : Leg) (m : Mark) :
    (s.planTaken n).mark m = (s.flushQueue n).mark m := by
  rw [← State.flushQueue_cutForLease]; rfl

theorem State.flushAndCut_mark (s : State) (n : Leg) (m : Mark) :
    (s.flushAndCut n).mark m = (s.flushQueue n).mark m := by
  rw [State.flushAndCut_eq]
  split <;> simp [State.planTaken_mark]

theorem State.SyncOk.endLease {s : State} (h : s.SyncOk) (r : Resource) : (s.endLease r).SyncOk := by
  cases r with
  | leg n =>
    have hreleasing : (s.updLease (.leg n) fun l => { l with phase := .releasing }).SyncOk := h
    exact hreleasing.flushed n (fun m => State.flushAndCut_mark ..) fun k hk => by
      simp [State.flushAndCut_leg, State.endLease, hk]
  | carrier | chan c => exact h.congr (fun m => by simp [State.endLease]) fun k => by simp [State.endLease]

theorem State.latchTrip_mark (s : State) (n : Leg) (c : Cause) (m : Mark) :
    (s.latchTrip n c).mark m
      = if (s.leg n).phase.isHolding = true then (s.unhold n).mark m else s.mark m := by
  unfold State.latchTrip
  dsimp only
  cases hp : (s.leg n).phase <;> simp [LegPhase.isHolding]

theorem State.SyncOk.causeArises {s : State} (h : s.SyncOk) (n : Leg) (c : Cause) : (s.causeArises n c).SyncOk := by
  have hother : ∀ k, k ≠ n → (s.causeArises n c).leg k = s.leg k := fun k hk => by
    rw [State.causeArises_leg, if_neg hk]
  cases ht : (s.leg n).phase.isTripped with
  | true =>
    obtain ⟨rec, hrec⟩ := (LegPhase.isTripped_iff _).mp ht
    refine h.other n (fun m => ?_) (by simp [hrec, LegPhase.isHolding]) hother
    rw [State.causeArises_tripped _ _ _ rec hrec]
    simp
  | false =>
    cases hhold : (s.leg n).phase.isHolding with
    | true =>
      refine h.unholds n (fun m => ?_) hother
      rw [State.causeArises_latches _ _ _ ht, State.latchTrip_mark, if_pos hhold]
    | false =>
      refine h.other n (fun m => ?_) hhold hother
      rw [State.causeArises_latches _ _ _ ht, State.latchTrip_mark, hhold]
      rfl

theorem State.SyncOk.completeRearm {s : State} (h : s.SyncOk) (n : Leg) : (s.completeRearm n).SyncOk := by
  refine h.of_leg (fun m => by simp) fun k m hk => ?_
  obtain ⟨⟨x, hx⟩, -⟩ := id hk
  rw [State.completeRearm_leg, if_neg fun hn => by simp [hx, LegPhase.isTripped] at hn]
  exact hk

theorem State.SyncOk.completeIfPending {s : State} (h : s.SyncOk) (n : Leg) : (s.completeIfPending n).SyncOk := by
  unfold State.completeIfPending
  split
  · exact h.completeRearm n
  · exact h

theorem State.SyncOk.settleAll {s : State} (h : s.SyncOk) : s.settleAll.SyncOk :=
  h.of_leg (fun m => by simp) fun n m hn => by rw [State.settleAll_leg]; exact hn.congr rfl rfl

theorem State.SyncOk.escalate {s : State} (h : s.SyncOk) (n : Leg) (run : Nat) : (s.escalate n run).SyncOk := by
  unfold State.escalate
  refine State.SyncOk.causeArises ?_ n _
  refine h.of_leg (fun m => by simp) fun k m hk => ?_
  rw [State.updLeg_leg]
  split
  · exact hk.congr rfl rfl
  · exact hk

theorem State.closePeriod_escalates {s : State} {n : Leg} {before : LegUnit}
    (hd : (s.leg n).phase.driving = true) (he : before.escalates = true) :
    s.closePeriod n before = s.escalate n before.closedRun := by
  cases hp : (s.leg n).phase <;> simp_all [State.closePeriod, LegPhase.driving]

theorem State.closePeriod_mark {s : State} {n : Leg} {before : LegUnit}
    (h : ¬ ((s.leg n).phase.driving = true ∧ before.escalates = true)) (m : Mark) :
    (s.closePeriod n before).mark m = s.mark m := by
  unfold State.closePeriod
  dsimp only
  cases hp : (s.leg n).phase with
  | tripped rec => simp
  | idle => simp
  | running _ | holding _ =>
    have hnot : before.escalates = false := by simpa [hp, LegPhase.driving] using h
    simp only [hnot]
    split
    · next hf => simp at hf
    · split <;> simp

/-- The Trip Unit's close of a period takes a leg out of its holding-leg set where it trips it (R53, R118). -/
theorem State.SyncOk.closePeriod {s : State} (h : s.SyncOk) (n : Leg) (before : LegUnit) :
    (s.closePeriod n before).SyncOk := by
  by_cases he : (s.leg n).phase.driving = true ∧ before.escalates = true
  · rw [State.closePeriod_escalates he.1 he.2]
    exact h.escalate n _
  · refine h.of_leg (fun m => State.closePeriod_mark he m) fun k m hk => ?_
    rw [State.closePeriod_leg]
    split
    · next hkn =>
      subst hkn
      obtain ⟨⟨x, hx⟩, -⟩ := id hk
      have hnot : before.escalates = false := by simpa [hx, LegPhase.driving] using he
      simp only [LegUnit.closed, hx, hnot]
      exact hk.congr hx.symm rfl
    · exact hk

/-! ### The decision at a boundary (R44 to R49) -/

/-- Each leg takes a boundary by itself. -/
theorem State.legsTake_leg (s : State) (answers : PerLeg (Option SyncAnswer)) (n : Leg) :
    (s.legsTake answers).leg n = (s.leg n).taken (answers.get n) s.carrier.counter := by
  have hother : ∀ (t : State) k, k ≠ n → ((t.takeBoundary k (answers.get k)).leg n,
      (t.takeBoundary k (answers.get k)).carrier) = (t.leg n, t.carrier) := fun t k hk => by
    simp [State.takeBoundary_leg, Ne.symm hk]
  obtain ⟨t, ht, hfold⟩ := foldl_view_at (view := fun s : State => (s.leg n, s.carrier)) hother
    (leg_mem_all n) (by decide) s
  obtain ⟨hleg, hcarrier⟩ := Prod.mk.inj ht
  have hresult := congrArg Prod.fst hfold
  simp only [State.takeBoundary_leg, if_true, hleg, hcarrier] at hresult
  exact hresult

/-- A leg that is told to hold is HOLDING on the head that it offered (R47). -/
theorem LegUnit.taken_hold {u : LegUnit} {f : SyncField} (h : u.offer = some f) (c : Nat) :
    (u.taken (some .hold) c).HoldsOn f.mark := by
  have hfollow : ∀ v : LegUnit, v.queue = u.queue → u.headSync = some f →
      (v.followed (some .hold) c).HoldsOn f.mark := by
    intro v hv hsync
    have hsame : v.headSync = some f := by rw [← hsync]; simp [LegUnit.headSync, hv]
    cases hq : v.queue with
    | nil => simp [LegUnit.headSync, hq] at hsame
    | cons head rest =>
      have hhead : head.sync = some f := by simpa [LegUnit.headSync, hq] using hsame
      simp only [LegUnit.followed, hq, hhead]
      exact ⟨⟨_, rfl⟩, f, by simpa [LegUnit.headSync, hq] using hhead, rfl⟩
  cases hp : u.phase with
  | tripped rec => simp [LegUnit.offer, hp] at h
  | idle | holding x =>
    simp only [LegUnit.offer, hp] at h
    simp only [LegUnit.taken, hp]
    exact hfollow u rfl h
  | running a =>
    simp only [LegUnit.offer, hp] at h
    cases hend : a.age.endReason u.queue.length with
    | none => simp [hend] at h
    | some reason =>
      simp only [hend, Option.isSome_some, if_true] at h
      simp only [LegUnit.taken, hp, hend]
      exact hfollow _ rfl h

theorem incompleteLegs_get {offers : PerLeg (Option SyncField)} {m : Mark} {n : Leg} :
    (incompleteLegs offers m).get n = true
      ↔ ∃ f, offers.get n = some f ∧ f.mark = m ∧ groupComplete offers f = false := by
  simp only [incompleteLegs, PerLeg.get_ofFn]
  cases h : offers.get n <;> simp

/-- The legs in the set of a mark after a boundary are those that were told to hold on it (R47, R48). -/
theorem State.SyncOk.legsDecide {s : State} (hlimit : s.carrier.syncLimit ≤ 1023) :
    ((s.legsTake (.ofFn fun n => s.syncAnswer (.ofFn fun k => (s.leg k).offer) n)).syncBoundary
      (.ofFn fun k => (s.leg k).offer)).SyncOk := by
  intro m
  simp only [State.syncBoundary, State.setSync_mark, PerMark.get_ofFn, State.legsTake_mark,
    State.legsTake_carrier, State.setSync_leg]
  unfold MarkState.atBoundary
  split_ifs with hnone hwait
  · exact ⟨Nat.zero_le _, fun n hn => by cases n <;> simp [MarkState.reset, PerLeg.get] at hn⟩
  · refine ⟨by dsimp only; omega, fun n hn => ?_⟩
    obtain ⟨f, hoffer, rfl, hincomplete⟩ := incompleteLegs_get.mp hn
    have hhold : s.syncAnswer (.ofFn fun k => (s.leg k).offer) n = some .hold := by
      simp [State.syncAnswer, hoffer, hincomplete, hwait]
    rw [State.legsTake_leg, PerLeg.get_ofFn, hhold]
    exact LegUnit.taken_hold (by simpa using hoffer) _
  · exact ⟨Nat.zero_le _, fun n hn => by cases n <;> simp [MarkState.reset, PerLeg.get] at hn⟩

theorem State.SyncOk.boundaryWith {s : State} (hlimit : s.carrier.syncLimit ≤ 1023) (first : PerLeg Bool) :
    (s.boundaryWith first).SyncOk := by
  refine State.SyncOk.settleAll ?_
  refine foldl_keeps (P := State.SyncOk) (fun t n ht => ht.closePeriod n _) Leg.all ?_
  exact State.SyncOk.legsDecide (by simpa [Carrier.boundary] using hlimit)

/-! ### Every deed -/

/-- A change of one leg that keeps it HOLDING where it holds. -/
theorem State.SyncOk.updLeg {s : State} (h : s.SyncOk) (n : Leg) {f : LegUnit → LegUnit}
    (hf : ∀ m, (s.leg n).HoldsOn m → (f (s.leg n)).HoldsOn m) : (s.updLeg n f).SyncOk := by
  refine h.of_leg (fun m => by simp) fun k m hk => ?_
  rw [State.updLeg_leg]
  split
  · next hkn => subst hkn; exact hf m hk
  · exact hk

theorem LegUnit.HoldsOn.cutByHost {u : LegUnit} {m : Mark} (h : u.HoldsOn m) : u.cutByHost.HoldsOn m := by
  obtain ⟨⟨x, hx⟩, -⟩ := id h
  simpa [LegUnit.cutByHost, hx] using h

theorem LegUnit.HoldsOn.setRearm {u : LegUnit} {m : Mark} (h : u.HoldsOn m) : u.setRearm.HoldsOn m := by
  obtain ⟨⟨x, hx⟩, -⟩ := id h
  simpa [LegUnit.setRearm, hx] using h

theorem LegUnit.HoldsOn.examine {u : LegUnit} {m : Mark} (h : u.HoldsOn m) (d : Chan) (position : Nat)
    (up : Bool) : (u.examine d position up).HoldsOn m := by
  obtain ⟨⟨x, hx⟩, -⟩ := id h
  simpa [LegUnit.examine, hx] using h

theorem Effect.syncOk {s t : State} {p : Port} (h : Effect s p t) (hs : s.SyncOk) : t.SyncOk := by
  cases h
  case wait r n _ _ _ => exact hs.congr (fun m => by simp) fun k => by simp
  case renew rs =>
    exact foldl_keeps (P := State.SyncOk) (f := fun s r => s.updLease r Lease.renew) (fun _ _ h => h) rs hs
  case release r _ => exact hs.endLease r
  case seize r n _ _ | seizeTold r n _ _ q x =>
    have hgranted : (s.grantTo r p n).SyncOk := hs
    cases r with
    | leg k =>
      exact hgranted.flushed k (fun m => State.flushAndCut_mark ..) fun j hj => by
        simp [State.flushAndCut_leg, State.clearSeized, hj]
    | carrier | chan c => exact hgranted
  case append n seg _ _ =>
    refine hs.updLeg n fun m hm => ?_
    obtain ⟨hphase, f, hf, hmark⟩ := id hm
    refine ⟨hphase, f, ?_, hmark⟩
    cases hq : (s.leg n).queue with
    | nil => exact absurd hq hm.queue_ne_nil
    | cons head rest => simpa [LegUnit.headSync, hq] using hf
  case replace n seg _ => exact hs.flushed n (fun m => rfl) fun k hk => by simp [State.flushQueue_leg, hk]
  case replaceAtOnce n seg _ => exact hs.flushed n (fun m => rfl) fun k hk => by simp [State.flushQueue_leg, hk]
  case flush n => exact hs.flushed n (fun m => rfl) fun k hk => by simp [State.flushQueue_leg, hk]
  case cut n => exact hs.updLeg n fun m hm => hm.cutByHost
  case setLeg n cfg _ _ => exact hs.updLeg n fun m hm => hm.congr rfl rfl
  case setLegCause n cfg _ _ =>
    have hset : (s.changeLeg n fun u => { u with config := cfg }).SyncOk := hs.updLeg n fun m hm => hm.congr rfl rfl
    exact hset.causeArises n _
  case setRearm n => exact hs.updLeg n fun m hm => hm.setRearm
  case completeRearm n => exact hs.completeRearm n
  case setCarrier m e _ | start => exact State.SyncOk.settleAll (hs.congr (fun _ => rfl) fun _ => rfl)
  case stop =>
    exact foldl_keeps (fun _ n h => h.completeIfPending n) Leg.all (hs.congr (fun _ => rfl) fun _ => rfl)
  all_goals exact hs.congr (fun _ => rfl) fun _ => rfl

theorem Deed.syncOk {s t : State} (h : Deed False False s t) (hlimit : s.carrier.syncLimit ≤ 1023) (hs : s.SyncOk) :
    t.SyncOk := by
  cases h
  case command p _ heffect => exact heffect.syncOk hs
  case presenceFalls p =>
    have hdropped : (((s.updPort p PortEngine.fall).unsubscribe p).dropWaiters p).SyncOk :=
      hs.congr (fun m => by simp) fun n => by simp
    refine foldl_keeps (P := State.SyncOk) (fun t r ht => ?_) Resource.all hdropped
    unfold State.endIfHeld
    split
    · exact ht.endLease r
    · exact ht
  case rearms n => exact hs.completeRearm n
  case cause n c => exact hs.causeArises n c
  case cut n _ =>
    refine hs.of_leg (fun m => by simp) fun k m hk => ?_
    rw [State.setCut_leg]
    split
    · exact hk.congr rfl rfl
    · exact hk
  case leaseTick =>
    have hclock : (s.setLeaseClock { s.leaseClock with number := s.leaseClock.number + 1 }).SyncOk := hs
    refine foldl_keeps (P := State.SyncOk) (fun t r ht => ?_) Resource.all hclock
    unfold State.leaseCount
    split
    · exact ht
    · exact ht
    · split
      · exact State.SyncOk.endLease ht r
      · split <;> exact ht
  case count => exact State.SyncOk.settleAll hs
  case boundary first _ => exact State.SyncOk.boundaryWith hlimit first
  case intervalTick c => exact hs.congr (fun m => by simp) fun n => by simp
  case chanTakes c tick x y z =>
    refine hs.of_leg (fun m => by simp) fun n m hn => ?_
    rcases s.chanTakes_leg c tick x y z n with h | ⟨d, position, up, h⟩ <;> rw [h]
    · exact hn
    · exact LegUnit.HoldsOn.examine hn d position up
  case sampleStages =>
    exact hs.of_leg (fun m => by simp) fun n m hn => by rw [State.sampleStages_leg]; exact hn.congr rfl rfl
  case abandon | released =>
    intro m
    cases m <;> exact ⟨Nat.zero_le _, fun n hn => by cases n <;> cases hn⟩
  all_goals exact hs.congr (fun _ => rfl) fun _ => rfl

end Sys2Proof.Machine
end

section
/-! PROOFS. Every step keeps the Position Channels legal (R128, R132, R136, R139). -/

namespace Sys2Proof.Machine

open Sys2Proof

-- One theorem at a time, as in the tests: proofs that wait for the kernel would each hold a thread.
set_option Elab.async false

/-! ### One channel -/

theorem Channel.withLevels_x (ch : Channel) (x y z : Bool) : (ch.withLevels x y z).x.level = x := by
  unfold Channel.withLevels
  dsimp only
  split
  · next h => exact h
  · rfl

theorem Channel.withLevels_y (ch : Channel) (x y z : Bool) : (ch.withLevels x y z).y.level = y := by
  unfold Channel.withLevels
  dsimp only
  split
  · next h => exact h
  · rfl

theorem Channel.Ok.withLevels {ch : Channel} (h : ch.Ok) (x y z : Bool) : (ch.withLevels x y z).Ok := by
  obtain ⟨h2, hmod, hpos, -, hrest⟩ := h
  refine ⟨h2, hmod, hpos, ?_, hrest⟩
  rw [Channel.withLevels_x, Channel.withLevels_y]
  rfl

/-- A counted step of a legal channel (R136, R137, R139). -/
theorem Channel.Ok.counted {ch : Channel} (h : ch.Ok) (up : Bool) : (ch.counted up).Ok := by
  obtain ⟨h2, hmod, hpos, hphase, htimer, -, hindex, hwidth, hperiod, -⟩ := h
  exact ⟨h2, hmod, ch.step_lt up h2 hpos, hphase, Nat.zero_le _, htimer, hindex, hwidth, hperiod, fun _ => rfl⟩

/-- An index edge of a legal channel (R138). -/
theorem Channel.Ok.indexed {ch : Channel} (h : ch.Ok) {position : Nat} (hp : position ≤ ch.position) :
    Channel.Ok { ch with indexLatch := ch.position, position := position } := by
  obtain ⟨h2, hmod, hpos, hphase, htimer, hinterval, -, hrest⟩ := h
  exact ⟨h2, hmod, by dsimp only; omega, hphase, htimer, hinterval, by dsimp only; omega, hrest⟩

theorem Channel.Ok.raised {ch : Channel} (h : ch.Ok) : ch.raised.Ok := by
  unfold Channel.raised
  split
  · next hr =>
    obtain ⟨h2, hmod, hpos, hphase, -, hinterval, hindex, hwidth, hperiod, -⟩ := h
    refine ⟨h2, hmod, hpos, hphase, ?_, hinterval, hindex, hwidth, hperiod, fun hn => ?_⟩
    · exact Nat.succ_le_of_lt hr.2
    · exact absurd hr.1 (by simpa [Channel.timerRuns] using hn)
  · exact h

/-- A channel at its reset values, with the phase of the levels that its filters hold (R129). -/
theorem Channel.reset_ok {x y z : Filter} {phase : Nat} (h : phase = phaseOf x.level y.level) :
    Channel.Ok { Channel.reset with x := x, y := y, z := z, phase := phase } := by
  subst h
  simp [Channel.Ok, Channel.reset, ChanConfig.reset]

/-! ### The part -/

/-- A change of one channel. -/
theorem State.ChannelsOk.setChan {s : State} (h : s.ChannelsOk) (c : Chan) {ch : Channel} (hc : ch.Ok) :
    (s.setChan c ch).ChannelsOk := by
  intro d
  rw [State.setChan_chan]
  split
  · exact hc
  · exact h d

theorem State.ChannelsOk.congr {s t : State} (h : s.ChannelsOk) (hc : ∀ c, t.chan c = s.chan c) :
    t.ChannelsOk := fun c => by rw [hc]; exact h c

theorem State.ChannelsOk.countStep {s : State} (h : s.ChannelsOk) (c : Chan) (up : Bool) :
    (s.countStep c up).ChannelsOk := by
  have hcounted : (s.setChan c ((s.chan c).counted up)).ChannelsOk := h.setChan c ((h c).counted up)
  unfold State.countStep
  dsimp only
  split
  · exact hcounted.congr fun d => by simp
  · exact hcounted.congr fun d => by simp

theorem State.ChannelsOk.indexEdge {s : State} (h : s.ChannelsOk) (c : Chan) : (s.indexEdge c).ChannelsOk := by
  unfold State.indexEdge
  refine State.ChannelsOk.congr (h.setChan c ((h c).indexed ?_)) fun d => State.postChan_chan ..
  split
  · exact Nat.zero_le _
  · exact le_refl _

/-- An edge of X in CAPTURE (R141). -/
theorem State.ChannelsOk.captureEdge {s : State} (h : s.ChannelsOk) (c : Chan) (x : Bool)
    (hcapture : (s.chan c).config.mode = .capture) : (s.captureEdge c x).ChannelsOk := by
  obtain ⟨h2, hmod, hpos, hphase, htimer, hinterval, hindex, hwidth, hperiod, hzero⟩ := h c
  unfold State.captureEdge
  dsimp only
  split
  · exact h.setChan c ⟨h2, hmod, hpos, hphase, Nat.zero_le _, hinterval, hindex, hwidth, hperiod, fun _ => rfl⟩
  · exact h
  · exact h.setChan c ⟨h2, hmod, hpos, hphase, htimer, hinterval, hindex, htimer, hperiod, hzero⟩
  · refine State.ChannelsOk.congr (h.setChan c ?_) fun d => State.postChan_chan ..
    exact ⟨h2, hmod, hpos, hphase, Nat.zero_le _, hinterval, hindex, hwidth, htimer, fun _ => rfl⟩

theorem State.ChannelsOk.acceptLevels {s : State} (h : s.ChannelsOk) (c : Chan) (x y z : Bool) :
    (s.acceptLevels c x y z).ChannelsOk := by
  have hlevels : (s.setChan c ((s.chan c).withLevels x y z)).ChannelsOk := h.setChan c ((h c).withLevels x y z)
  unfold State.acceptLevels
  dsimp only
  have hedges : ∀ s' : State, s'.ChannelsOk →
      ((s.chan c).captureEvent x = true → (s'.chan c).config.mode = .capture) →
      (if (s.chan c).indexEvent z = true then
          (if (s.chan c).captureEvent x = true then s'.captureEdge c x else s').indexEdge c
        else if (s.chan c).captureEvent x = true then s'.captureEdge c x else s').ChannelsOk := by
    intro s' hok hcapture
    have hs3 : (if (s.chan c).captureEvent x = true then s'.captureEdge c x else s').ChannelsOk := by
      split
      · next hc => exact hok.captureEdge c x (hcapture hc)
      · exact hok
    split
    · exact hs3.indexEdge c
    · exact hs3
  have hmode : (s.chan c).captureEvent x = true → (s.chan c).config.mode = .capture := fun hc => by
    simp only [Channel.captureEvent, Bool.and_eq_true, decide_eq_true_eq] at hc
    exact hc.1
  cases hevent : (s.chan c).countEvent x y with
  | none => exact hedges _ hlevels fun hc => by simpa [Channel.withLevels] using hmode hc
  | step up => exact hedges _ (hlevels.countStep c up) fun hc => by simp [Channel.countEvent, hmode hc] at hevent
  | phaseError =>
    exact hedges _ (hlevels.congr fun d => State.postChan_chan ..) fun hc => by
      simp [Channel.countEvent, hmode hc] at hevent

theorem State.ChannelsOk.saturate {s : State} (h : s.ChannelsOk) (c : Chan) (before : Nat) :
    (s.saturate c before).ChannelsOk := by
  obtain ⟨h2, hmod, hpos, hphase, htimer, hinterval, hindex, hwidth, hperiod, hzero⟩ := h c
  unfold State.saturate
  dsimp only
  split
  · next hsat =>
    split
    · refine State.ChannelsOk.congr (h.setChan c ?_) fun d => State.postChan_chan ..
      exact ⟨h2, hmod, hpos, hphase, le_refl _, le_refl _, hindex, hwidth, hperiod,
        fun hn => absurd hsat.1 (by simpa [Channel.timerRuns] using hn)⟩
    · refine State.ChannelsOk.congr (h.setChan c ?_) fun d => State.postChan_chan ..
      refine ⟨h2, hmod, hpos, hphase, Nat.zero_le _, hinterval, hindex, ?_, le_refl _, fun _ => rfl⟩
      dsimp only
      split
      · exact hwidth
      · exact le_refl _
  · exact h

theorem State.ChannelsOk.chanTakes {s : State} (h : s.ChannelsOk) (c : Chan) (tick x y z : Bool) :
    (s.chanTakes c tick x y z).ChannelsOk := by
  have hraised : (s.setChan c (s.chan c).raised).ChannelsOk := h.setChan c (h c).raised
  unfold State.chanTakes
  split
  · unfold State.tickAndAccept
    dsimp only
    split
    · exact hraised.acceptLevels c x y z
    · exact (hraised.saturate c _).acceptLevels c x y z
    · exact (hraised.saturate c _).acceptLevels c x y z
  · exact h.acceptLevels c x y z

theorem Effect.channelsOk {s t : State} {p : Port} (h : Effect s p t) (hs : s.ChannelsOk) : t.ChannelsOk := by
  have hone : ∀ (c : Chan) (f : Channel → Channel), (f (s.chan c)).Ok → (s.updChan c f).ChannelsOk :=
    fun c f hf => hs.setChan c hf
  cases h
  case wait r n _ _ _ => exact hs.congr fun c => by simp
  case renew rs =>
    exact foldl_keeps (P := State.ChannelsOk) (f := fun s r => s.updLease r Lease.renew) (fun _ _ h => h) rs hs
  case seize r n _ _ | seizeTold r n _ _ q x =>
    exact hs.congr fun c => by cases r <;> simp [State.clearSeized, State.grantTo]
  case stop =>
    exact foldl_keeps (P := State.ChannelsOk) (fun _ n h => h.congr fun c => by simp) Leg.all hs
  case setChannel c cfg hcfg =>
    obtain ⟨-, -, -, hphase, -⟩ := hs c
    exact hone c _ ⟨hcfg.1, hcfg.2, by simp [Channel.configure]; omega, hphase, Nat.zero_le _, Nat.zero_le _,
      Nat.zero_le _, Nat.zero_le _, Nat.zero_le _, fun _ => rfl⟩
  case setPosition c v hv =>
    obtain ⟨h2, hmod, -, hrest⟩ := hs c
    exact hone c _ ⟨h2, hmod, hv, hrest⟩
  case subscribe c k => exact hone c _ (hs c)
  all_goals exact hs.congr fun c => by simp [State.grantTo]

theorem Deed.channelsOk {s t : State} (h : Deed False False s t) (hs : s.ChannelsOk) : t.ChannelsOk := by
  cases h
  case command p _ heffect => exact heffect.channelsOk hs
  case presenceFalls p =>
    have hunsubscribed : ((s.updPort p PortEngine.fall).unsubscribe p).ChannelsOk := fun c => by
      simp only [State.unsubscribe, State.setChans_chan, PerChan.get_ofFn]
      exact hs c
    refine foldl_keeps (P := State.ChannelsOk) (fun t r ht => ht.congr fun c => by simp) Resource.all ?_
    exact hunsubscribed.congr fun c => by simp
  case filters c x y z d hx hy hz =>
    obtain ⟨h2, hmod, hpos, hphase, hrest⟩ := hs c
    exact hs.setChan c ⟨h2, hmod, hpos, by dsimp only; rw [hx, hy]; exact hphase, hrest⟩
  case intervalTick c => exact (hs.setChan c (hs c).raised).saturate c _
  case chanTakes c tick x y z => exact hs.chanTakes c tick x y z
  case abandon r =>
    intro c
    have hchan : (s.abandon r).chan c = (s.chan c).inReset := by cases c <;> rfl
    obtain ⟨-, -, -, hphase, -⟩ := hs c
    rw [hchan]
    exact Channel.reset_ok hphase
  case released pins =>
    intro c
    have hchan : (s.released pins).chan c = Channel.released (pins.chans.get c) := by cases c <;> rfl
    rw [hchan]
    exact Channel.reset_ok rfl
  all_goals exact hs.congr fun c => by simp

/-- Settles O59: the rules of the Carrier Timer, the Sync Unit and the channels are together an invariant of every
deed; the Sync Unit's rests on the range of the sync limit. -/
theorem timerSyncAndChannelsKept : Obligations.TimerSyncAndChannelsKept := by
  intro s t hcarrier hsync hchans hstep
  refine step_keeps (P := fun s => s.CarrierOk ∧ s.SyncOk ∧ s.ChannelsOk) (fun _ _ h => h) ?_
    ⟨hcarrier, hsync, hchans⟩ hstep
  rintro s t ⟨hcarrier, hsync, hchans⟩ hdeed
  obtain ⟨⟨-, -, -, -, -, hlimit, -⟩, -⟩ := id hcarrier
  exact ⟨hdeed.carrierOk hcarrier, hdeed.syncOk hlimit hsync, hdeed.channelsOk hchans⟩

end Sys2Proof.Machine
end

section
/-! PROOFS. Every step keeps the bounds of the port engines, and an absent port holds nothing (R102, R154, R157,
R158, R171). -/

namespace Sys2Proof.Machine

open Sys2Proof

-- One theorem at a time, as in the tests: proofs that wait for the kernel would each hold a thread.
set_option Elab.async false

/-! ### Who has to do with a lease record -/

/-- A port holds a lease, or waits for it. -/
def Lease.Uses (l : Lease) (p : Port) : Prop := l.holder? = some p ∨ ∃ w ∈ l.waiters, w.port = p

theorem Lease.uses_passedOn {l : Lease} {p : Port} (h : l.passedOn.Uses p) : ∃ w ∈ l.waiters, w.port = p := by
  unfold Lease.passedOn at h
  cases hw : l.waiters with
  | nil => simp [hw, Lease.Uses, Lease.holder?] at h
  | cons w rest =>
    simp only [hw, Lease.Uses, Lease.grantedTo, Lease.holder?, Option.some.injEq, List.mem_filter] at h
    rcases h with rfl | ⟨x, ⟨hx, -⟩, hp⟩
    · exact ⟨w, by simp, rfl⟩
    · exact ⟨x, by simp [hx], hp⟩

theorem Lease.uses_reported {l : Lease} {p : Port} (h : l.reported.Uses p) : l.Uses p := by
  unfold Lease.reported at h
  split at h
  · exact .inr (Lease.uses_passedOn h)
  · exact h

theorem Lease.uses_grant {l : Lease} {p q : Port} {n : Nat} (h : (l.grant q n).Uses p) : l.Uses p ∨ p = q := by
  simp only [Lease.Uses, Lease.grant, Lease.holder?, Option.some.injEq, List.mem_filter] at h
  rcases h with rfl | ⟨w, ⟨hw, -⟩, hp⟩
  · exact .inr rfl
  · exact .inl (.inr ⟨w, hw, hp⟩)

theorem Lease.uses_dropWaiter {l : Lease} {p q : Port} (h : (l.dropWaiter q).Uses p) : l.Uses p := by
  rcases h with h | ⟨w, hw, hp⟩
  · exact .inl h
  · exact .inr ⟨w, (List.mem_filter.mp hw).1, hp⟩

theorem Lease.uses_renew {l : Lease} {p : Port} (h : l.renew.Uses p) : l.Uses p := by
  unfold Lease.renew at h
  split at h
  · next q i k w hf =>
    rcases h with h | h
    · exact .inl (by simpa [Lease.holder?, hf] using h)
    · exact .inr h
  all_goals exact h

/-- A change of a record's phase alone, to one with the same holder or none. -/
theorem Lease.uses_phase {l : Lease} {f : LeasePhase} {p : Port}
    (h : Lease.Uses { l with phase := f } p)
    (hf : Lease.holder? { l with phase := f } = some p → l.holder? = some p) : l.Uses p := by
  rcases h with h | h
  · exact .inl (hf h)
  · exact .inr h

/-- No port but `p` comes to hold a lease, or to wait for one. -/
def State.NoNewUser (s t : State) (p : Option Port) : Prop :=
  ∀ r q, (t.lease r).Uses q → (s.lease r).Uses q ∨ p = some q

theorem State.NoNewUser.of_lease {s t : State} {p : Option Port} (h : ∀ r, t.lease r = s.lease r) :
    s.NoNewUser t p := fun r q hq => .inl (by rwa [h] at hq)

theorem State.NoNewUser.trans {s t u : State} (h : s.NoNewUser t none) (h' : t.NoNewUser u none) :
    s.NoNewUser u none := fun r q hq => by
  rcases h' r q hq with ht | ht
  · exact h r q ht
  · cases ht

/-- A fold of changes that bring no new user. -/
theorem State.noNewUser_foldl {α : Type} {f : State → α → State} (h : ∀ (s : State) a, s.NoNewUser (f s a) none)
    (xs : List α) (s : State) : s.NoNewUser (xs.foldl f s) none :=
  foldl_keeps (P := fun t => s.NoNewUser t none) (fun t a ht => ht.trans (h t a)) xs (.of_lease fun _ => rfl)

theorem State.endLease_noNewUser (s : State) (r : Resource) : s.NoNewUser (s.endLease r) none := by
  intro q p hp
  rw [State.endLease_lease] at hp
  split at hp
  · split at hp
    · exact .inl (.inr (Lease.uses_passedOn hp))
    · exact .inl (Lease.uses_phase hp fun h => by simp [Lease.holder?] at h)
  · exact .inl hp

/-- A record that a report may pass on brings no new user (R98). -/
theorem State.NoNewUser.of_reported {s t : State} {c : Resource → Prop} [DecidablePred c]
    (h : ∀ r, t.lease r = if c r then (s.lease r).reported else s.lease r) : s.NoNewUser t none := by
  intro r q hq
  rw [h] at hq
  split at hq
  · exact .inl (Lease.uses_reported hq)
  · exact .inl hq

theorem State.causeArises_noNewUser (s : State) (n : Leg) (c : Cause) : s.NoNewUser (s.causeArises n c) none :=
  .of_reported (s.causeArises_lease n c)

theorem State.boundaryWith_noNewUser (s : State) (first : PerLeg Bool) :
    s.NoNewUser (s.boundaryWith first) none := by
  let s1 := (s.setCarrier s.carrier.boundary).escalateEarly first
  have hearly : s.NoNewUser s1 none := by
    refine .trans (.of_lease fun _ => rfl) (State.noNewUser_foldl (fun t k => ?_) Leg.all _)
    split
    · exact .of_reported (t.escalate_lease k _)
    · exact .of_lease fun _ => rfl
  have htake : ∀ answers, s.NoNewUser (s1.legsTake answers) none := fun answers =>
    hearly.trans (State.noNewUser_foldl (fun t k => .of_reported (t.takeBoundary_lease k _)) Leg.all _)
  have hclose : ∀ answers offers, s.NoNewUser (((s1.legsTake answers).syncBoundary offers).tripUnitTakes s.legs) none :=
    fun answers offers => .trans ((htake answers).trans (.of_lease fun r => by simp))
      (State.noNewUser_foldl (fun t k => .of_reported (t.closePeriod_lease k _)) Leg.all _)
  let offers : PerLeg (Option SyncField) := .ofFn fun n => (s1.leg n).offer
  exact State.NoNewUser.trans (hclose (.ofFn fun n => s1.syncAnswer offers n) offers)
    (.of_lease fun r => State.settleAll_lease _ r)

theorem State.leaseCount_noNewUser (s : State) (r : Resource) : s.NoNewUser (s.leaseCount r) none := by
  unfold State.leaseCount
  split
  · exact .of_lease fun _ => rfl
  · exact .of_lease fun _ => rfl
  · next p i k w hf =>
    have hcount : ∀ (t : State) w', (∀ q, t.lease q
        = if q = r then { s.lease q with phase := .held p i (k - 1) w' } else s.lease q) →
        s.NoNewUser t none := by
      intro t w' ht q p' hp'
      rw [ht] at hp'
      split at hp'
      · next hq => exact .inl (Lease.uses_phase hp' fun h => by simpa [Lease.holder?, hf, hq] using h)
      · exact .inl hp'
    split
    · exact s.endLease_noNewUser r
    · split
      · exact hcount _ true fun q => by simp
      · exact hcount _ w fun q => by simp

theorem State.joinWaiters_uses {s : State} {r q : Resource} {p p' : Port} {n : Nat}
    (h : ((s.joinWaiters r p n).state.lease q).Uses p') : (s.lease q).Uses p' ∨ p' = p := by
  unfold State.joinWaiters at h
  dsimp only at h
  split at h
  · simp only [State.updLease_lease] at h
    split at h
    · rcases h with h | ⟨w, hw, hp⟩
      · exact .inl (.inl h)
      · obtain ⟨w', hw', rfl⟩ := List.mem_map.mp hw
        split at hp
        · exact .inr hp.symm
        · exact .inl (.inr ⟨w', hw', hp⟩)
    · exact .inl h
  · split at h
    · simp only [State.updLease_lease] at h
      split at h
      · rcases h with h | ⟨w, hw, hp⟩
        · exact .inl (.inl h)
        · rcases List.mem_append.mp hw with hw | hw
          · exact .inl (.inr ⟨w, hw, hp⟩)
          · rw [List.mem_singleton.mp hw] at hp
            exact .inr hp.symm
      · exact .inl h
    · exact .inl h

/-- A command brings at most its own port to a lease record (R81, R82, R106). -/
theorem Effect.noNewUser {s t : State} {p : Port} (h : Effect s p t) : s.NoNewUser t (some p) := by
  have hnone : ∀ {t : State}, s.NoNewUser t none → s.NoNewUser t (some p) := fun ht r q hq =>
    .inl ((ht r q hq).resolve_right (by simp))
  have hgrant : ∀ {t : State} (r : Resource) (n : Nat), (∀ q, t.lease q = (s.grantTo r p n).lease q) →
      s.NoNewUser t (some p) := by
    intro t r n ht q p' hp'
    rw [ht] at hp'
    simp only [State.grantTo, State.updLease_lease] at hp'
    split at hp'
    · exact (Lease.uses_grant hp').imp_right fun h => by rw [h]
    · exact .inl hp'
  cases h
  case grant r n _ _ => exact hgrant r n fun _ => rfl
  case wait r n _ _ _ =>
    intro q p' hp'
    exact (State.joinWaiters_uses hp').imp_right fun h => by rw [h]
  case cancelWait r =>
    intro q p' hp'
    rw [State.updLease_lease] at hp'
    split at hp'
    · exact .inl (Lease.uses_dropWaiter hp')
    · exact .inl hp'
  case renew rs =>
    refine hnone (State.noNewUser_foldl (fun t r q p' hp' => ?_) rs s)
    rw [State.updLease_lease] at hp'
    split at hp'
    · exact .inl (Lease.uses_renew hp')
    · exact .inl hp'
  case release r _ => exact hnone (s.endLease_noNewUser r)
  case seize r n _ _ | seizeTold r n _ _ q x =>
    exact hgrant r n fun q => by simp [State.clearSeized_lease, State.grantTo, Lease.grant]
  case setLegCause n cfg _ _ =>
    exact hnone (State.NoNewUser.trans (.of_lease fun r => by simp) (State.causeArises_noNewUser _ n _))
  case stop =>
    exact hnone (State.NoNewUser.trans (.of_lease fun _ => rfl)
      (State.noNewUser_foldl (fun t n => .of_lease fun r => by simp) Leg.all _))
  all_goals exact .of_lease fun r => by simp

/-! ### Subscriptions -/

/-- A channel that keeps its subscribers, where another stays as it was. -/
theorem State.setChan_subscribers {s : State} {c d : Chan} {ch : Channel}
    (h : ch.subscribers = (s.chan c).subscribers) :
    ((s.setChan c ch).chan d).subscribers = (s.chan d).subscribers := by
  rw [State.setChan_chan]
  split
  · next hd => rw [hd, h]
  · rfl

theorem State.countStep_subscribers (s : State) (c d : Chan) (up : Bool) :
    ((s.countStep c up).chan d).subscribers = (s.chan d).subscribers := by
  unfold State.countStep
  dsimp only
  split
  · exact State.setChan_subscribers rfl
  · exact State.setChan_subscribers rfl

theorem State.captureEdge_subscribers (s : State) (c d : Chan) (x : Bool) :
    ((s.captureEdge c x).chan d).subscribers = (s.chan d).subscribers := by
  unfold State.captureEdge
  dsimp only
  split
  · exact State.setChan_subscribers rfl
  · rfl
  · exact State.setChan_subscribers rfl
  · exact State.setChan_subscribers rfl

theorem State.indexEdge_subscribers (s : State) (c d : Chan) :
    ((s.indexEdge c).chan d).subscribers = (s.chan d).subscribers := by
  unfold State.indexEdge
  exact State.setChan_subscribers rfl

theorem State.acceptLevels_subscribers (s : State) (c d : Chan) (x y z : Bool) :
    ((s.acceptLevels c x y z).chan d).subscribers = (s.chan d).subscribers := by
  have hlevels : ((s.setChan c ((s.chan c).withLevels x y z)).chan d).subscribers = (s.chan d).subscribers :=
    State.setChan_subscribers rfl
  simp only [State.setChan_chan] at hlevels
  unfold State.acceptLevels
  dsimp only
  cases (s.chan c).countEvent x y <;> cases (s.chan c).captureEvent x <;> cases (s.chan c).indexEvent z <;>
    simp [State.countStep_subscribers, State.captureEdge_subscribers, State.indexEdge_subscribers, hlevels]

theorem State.saturate_subscribers (s : State) (c d : Chan) (before : Nat) :
    ((s.saturate c before).chan d).subscribers = (s.chan d).subscribers := by
  unfold State.saturate
  dsimp only
  split
  · split
    · unfold State.stallChan; exact State.setChan_subscribers rfl
    · unfold State.saturateCapture; exact State.setChan_subscribers rfl
  · rfl

theorem Channel.raised_subscribers (ch : Channel) : ch.raised.subscribers = ch.subscribers := by
  unfold Channel.raised
  split <;> rfl

theorem State.intervalTicks_subscribers (s : State) (c d : Chan) :
    ((s.intervalTicks c).chan d).subscribers = (s.chan d).subscribers := by
  unfold State.intervalTicks
  rw [State.saturate_subscribers]
  exact State.setChan_subscribers (Channel.raised_subscribers _)

theorem State.chanTakes_subscribers (s : State) (c d : Chan) (tick x y z : Bool) :
    ((s.chanTakes c tick x y z).chan d).subscribers = (s.chan d).subscribers := by
  have hraised : ((s.setChan c (s.chan c).raised).chan d).subscribers = (s.chan d).subscribers :=
    State.setChan_subscribers (Channel.raised_subscribers _)
  unfold State.chanTakes
  split
  · unfold State.tickAndAccept
    dsimp only
    split <;> simp only [State.acceptLevels_subscribers, State.saturate_subscribers, hraised]
  · exact State.acceptLevels_subscribers ..

/-- A command changes at most its own port's subscriptions (R155). -/
theorem Effect.subscribers {s t : State} {p q : Port} (h : Effect s p t) (hq : q ≠ p) (c : Chan) :
    (t.chan c).subscribers.get q = (s.chan c).subscribers.get q := by
  cases h
  case renew rs => rw [foldl_frame (fun s => State.chan s c) _ (fun s r => by simp) rs s]
  case stop =>
    rw [foldl_frame (fun s => State.chan s c) _ (fun s n => State.completeIfPending_chan ..) Leg.all _]
    rfl
  case seize r n _ _ | seizeTold r n _ _ p' x => cases r <;> simp [State.clearSeized, State.grantTo]
  case setChannel d cfg _ | setPosition d v _ => exact congrArg (fun k => PerPort.get k q) (State.setChan_subscribers rfl)
  case subscribe d k =>
    simp only [State.updChan_chan]
    split
    · simp [hq]
    · rfl
  all_goals simp [State.grantTo]

end Sys2Proof.Machine
end

section
/-! PROOFS. Every step keeps the bounds of the port engines, that an absent port holds nothing, and that commands
wait only behind full answers (R102, R154, R157, R158, R164, R171). -/

namespace Sys2Proof.Machine

open Sys2Proof

-- One theorem at a time, as in the tests: proofs that wait for the kernel would each hold a thread.
set_option Elab.async false

/-! ### Sound engines -/

theorem State.PortsOk.congr {s t : State} (h : s.PortsOk) (hp : t.ports = s.ports) : t.PortsOk := by
  intro p
  unfold State.port
  rw [hp]
  exact h p

theorem State.PortsOk.updPort {s : State} (h : s.PortsOk) (p : Port) {f : PortEngine → PortEngine}
    (hf : (f (s.port p)).Sound) : (s.updPort p f).PortsOk := by
  intro q
  rw [State.updPort_port]
  split
  · next hq => rw [hq]; exact hf
  · exact h q

theorem PortEngine.fall_sound (e : PortEngine) : e.fall.Sound := by
  refine ⟨?_, fun _ => ⟨rfl, rfl, rfl, rfl, rfl, rfl, rfl⟩, fun _ => rfl⟩
  simp [PortEngine.Bounded, PortEngine.fall]

theorem PortEngine.inReset_sound (e : PortEngine) : e.inReset.Sound := by
  refine ⟨?_, fun _ => ⟨rfl, rfl, rfl, rfl, rfl, rfl, rfl⟩, fun _ => rfl⟩
  simp [PortEngine.Bounded, PortEngine.inReset, PortEngine.reset]

theorem PortEngine.reset_sound (pins : PortPins) (b : Bool) :
    PortEngine.Sound { PortEngine.reset pins with ignoring := b } := by
  refine ⟨?_, fun _ => ⟨rfl, rfl, rfl, rfl, rfl, rfl, rfl⟩, fun _ => rfl⟩
  simp [PortEngine.Bounded, PortEngine.reset]

/-- A command changes no engine but the mask of its own port (R174). -/
theorem Effect.ports {s t : State} {p : Port} (h : Effect s p t) :
    t.ports = s.ports ∨ ∃ k, t = s.updPort p fun e => { e with mask := k } := by
  cases h
  case mask k => exact .inr ⟨k, rfl⟩
  case wait r n _ _ _ => rcases s.joinWaiters_eq r p n with h | ⟨f, h⟩ <;> exact .inl (by simp [h])
  case renew rs => exact .inl (foldl_frame State.ports _ (fun s r => by simp) rs s)
  case stop => exact .inl (foldl_frame State.ports _ State.completeIfPending_ports Leg.all _)
  case seize r n _ _ | seizeTold r n _ _ q x =>
    exact .inl (by cases r <;> simp [State.clearSeized, State.grantTo])
  all_goals exact .inl (by simp [State.grantTo])

theorem State.presenceFalls_port (s : State) (p q : Port) :
    (s.presenceFalls p).port q = if q = p then (s.port q).fall else s.port q := by
  have hports : (s.presenceFalls p).ports = (s.updPort p PortEngine.fall).ports := by
    unfold State.presenceFalls
    rw [foldl_frame State.ports _ (fun s r => by simp)]
    simp
  unfold State.port at *
  rw [hports]
  exact State.updPort_port ..

theorem Deed.portsOk {calm : Prop} {s t : State} (h : Deed True calm s t) (hs : s.PortsOk) : t.PortsOk := by
  cases h
  case engine p f hsound _ _ => exact hs.updPort p (hsound trivial (hs p))
  case command p hpresent heffect =>
    rcases heffect.ports with hsame | ⟨k, rfl⟩
    · exact hs.congr hsame
    · obtain ⟨hb, -, hone⟩ := hs p
      exact hs.updPort p ⟨hb, fun ha => by simp [hpresent trivial] at ha, hone⟩
  case presenceFalls p =>
    intro q
    rw [State.presenceFalls_port]
    split
    · exact PortEngine.fall_sound _
    · exact hs q
  case abandon r => exact fun q => by cases q <;> exact PortEngine.inReset_sound _
  case released pins => exact fun q => by cases q <;> exact PortEngine.reset_sound _ _
  all_goals exact hs.congr (by simp)

/-! ### Absent ports -/

/-- An absent port stays without leases and subscriptions where nobody but a present port comes by any. -/
theorem State.AbsentHoldsNothing.of_users {s t : State} (h : s.AbsentHoldsNothing) (p : Option Port)
    (hp : ∀ q, p = some q → (t.port q).presence.level = true)
    (hpresence : ∀ q, (t.port q).presence.level = false → (s.port q).presence.level = false)
    (husers : s.NoNewUser t p)
    (hsubs : ∀ q c, p ≠ some q → (t.chan c).subscribers.get q = (s.chan c).subscribers.get q) :
    t.AbsentHoldsNothing := by
  intro q hq
  have hnot : p ≠ some q := fun hpq => by simp [hp q hpq] at hq
  obtain ⟨hleases, hchans⟩ := h q (hpresence q hq)
  have hunused : ∀ r, ¬ (t.lease r).Uses q := fun r hr => by
    rcases (husers r q hr).resolve_right hnot with hheld | ⟨w, hw, hwq⟩
    · exact (hleases r).1 hheld
    · exact (hleases r).2 w hw hwq
  exact ⟨fun r => ⟨fun hheld => hunused r (.inl hheld), fun w hw hwq => hunused r (.inr ⟨w, hw, hwq⟩)⟩,
    fun c => (hsubs q c hnot).trans (hchans c)⟩

/-- The same where nobody at all comes by any. -/
theorem State.AbsentHoldsNothing.of_noUser {s t : State} (h : s.AbsentHoldsNothing)
    (hpresence : ∀ q, (t.port q).presence.level = false → (s.port q).presence.level = false)
    (husers : s.NoNewUser t none) (hsubs : ∀ c, (t.chan c).subscribers = (s.chan c).subscribers) :
    t.AbsentHoldsNothing :=
  h.of_users none (fun _ hq => by cases hq) hpresence husers fun q c _ => by rw [hsubs]

theorem resource_mem_all (r : Resource) : r ∈ Resource.all := by
  rcases r with n | _ | c
  · cases n <;> decide
  · decide
  · cases c <;> decide

theorem State.dropWaiters_lease (s : State) (p : Port) (r : Resource) :
    (s.dropWaiters p).lease r = (s.lease r).dropWaiter p := by
  obtain ⟨s', hs', hfold⟩ := foldl_view_at (view := fun s : State => s.lease r)
    (f := fun s r => s.updLease r fun l => l.dropWaiter p) (a := r)
    (fun t k hk => by simp [Ne.symm hk]) (resource_mem_all r) (by decide) s
  rw [State.dropWaiters]
  simpa [hs'] using hfold

/-- What becomes of each record at a presence fall (R102). -/
theorem State.presenceFalls_lease (s : State) (p : Port) (r : Resource) :
    ∃ s' : State, s'.lease r = (s.lease r).dropWaiter p
      ∧ (s.presenceFalls p).lease r = (s'.endIfHeld p r).lease r := by
  have hother : ∀ (t : State) k, k ≠ r → (t.endIfHeld p k).lease r = t.lease r := by
    intro t k hk
    unfold State.endIfHeld
    split
    · rw [State.endLease_lease, if_neg (Ne.symm hk)]
    · rfl
  obtain ⟨s', hs', hfold⟩ := foldl_view_at (view := fun s : State => s.lease r) hother (resource_mem_all r)
    (by decide) (((s.updPort p PortEngine.fall).unsubscribe p).dropWaiters p)
  exact ⟨s', by simpa [State.dropWaiters_lease] using hs', hfold⟩

theorem State.endIfHeld_uses {s : State} {p q : Port} {r : Resource}
    (h : ((s.endIfHeld p r).lease r).Uses q) : (s.lease r).Uses q ∧ (q = p → ∃ w ∈ (s.lease r).waiters, w.port = p) := by
  unfold State.endIfHeld at h
  split at h
  · rw [State.endLease_lease, if_pos rfl] at h
    split at h
    · obtain ⟨w, hw, hwq⟩ := Lease.uses_passedOn h
      exact ⟨.inr ⟨w, hw, hwq⟩, fun hqp => ⟨w, hw, hwq.trans hqp⟩⟩
    · rcases h with h | ⟨w, hw, hwq⟩
      · simp [Lease.holder?] at h
      · exact ⟨.inr ⟨w, hw, hwq⟩, fun hqp => ⟨w, hw, hwq.trans hqp⟩⟩
  · next hheld =>
    refine ⟨h, fun hqp => ?_⟩
    subst hqp
    exact h.resolve_left hheld

/-- A port whose presence falls is left with no lease and no waiter entry, and nobody new comes by any (R102). -/
theorem State.presenceFalls_uses {s : State} {p q : Port} {r : Resource}
    (h : ((s.presenceFalls p).lease r).Uses q) : (s.lease r).Uses q ∧ q ≠ p := by
  obtain ⟨s', hlease, hfall⟩ := s.presenceFalls_lease p r
  rw [hfall] at h
  obtain ⟨huses, hself⟩ := State.endIfHeld_uses h
  rw [hlease] at huses hself
  refine ⟨Lease.uses_dropWaiter huses, fun hqp => ?_⟩
  obtain ⟨w, hw, hwp⟩ := hself hqp
  simp [Lease.dropWaiter, hwp] at hw

theorem State.presenceFalls_chan (s : State) (p : Port) (c : Chan) :
    (s.presenceFalls p).chan c
      = { s.chan c with subscribers := (s.chan c).subscribers.set p .empty } := by
  have hchan : (s.presenceFalls p).chan c = (((s.updPort p PortEngine.fall).unsubscribe p)).chan c := by
    unfold State.presenceFalls
    rw [foldl_frame (fun t => State.chan t c) _ (fun s r => by simp)]
    simp
  rw [hchan]
  simp [State.unsubscribe]

theorem State.AbsentHoldsNothing.presenceFalls {s : State} (h : s.AbsentHoldsNothing) (p : Port) :
    (s.presenceFalls p).AbsentHoldsNothing := by
  intro q hq
  rw [State.presenceFalls_port] at hq
  by_cases hqp : q = p
  · subst hqp
    refine ⟨fun r => ⟨fun hheld => ?_, fun w hw hwq => ?_⟩, fun c => by simp [State.presenceFalls_chan]⟩
    · exact (State.presenceFalls_uses (.inl hheld)).2 rfl
    · exact (State.presenceFalls_uses (.inr ⟨w, hw, hwq⟩)).2 rfl
  · rw [if_neg hqp] at hq
    obtain ⟨hleases, hchans⟩ := h q hq
    have hunused : ∀ r, ¬ ((s.presenceFalls p).lease r).Uses q := fun r hr => by
      rcases (State.presenceFalls_uses hr).1 with hheld | ⟨w, hw, hwq⟩
      · exact (hleases r).1 hheld
      · exact (hleases r).2 w hw hwq
    refine ⟨fun r => ⟨fun hheld => hunused r (.inl hheld), fun w hw hwq => hunused r (.inr ⟨w, hw, hwq⟩)⟩,
      fun c => ?_⟩
    simpa [State.presenceFalls_chan, hqp] using hchans c

theorem Deed.absentHoldsNothing {calm : Prop} {s t : State} (h : Deed True calm s t)
    (hs : s.AbsentHoldsNothing) : t.AbsentHoldsNothing := by
  cases h
  case engine p f _ hpresent _ =>
    refine hs.of_noUser (fun q hq => ?_) (.of_lease fun _ => rfl) fun _ => rfl
    rw [State.updPort_port] at hq
    split at hq
    · next hqp => subst hqp; exact hpresent trivial hq
    · exact hq
  case command p hpresent heffect =>
    have hpresence : ∀ q, (t.port q).presence = (s.port q).presence := fun q => (heffect.engines q).1
    refine hs.of_users (some p) (fun q hq => ?_) (fun q hq => by rwa [hpresence] at hq) heffect.noNewUser
      fun q c hq => heffect.subscribers (fun hqp => hq (by rw [hqp])) c
    cases hq
    rw [hpresence]
    exact hpresent trivial
  case presenceFalls p => exact hs.presenceFalls p
  case cause n c =>
    exact hs.of_noUser (fun q hq => by simpa using hq) (s.causeArises_noNewUser n c) fun d => by simp
  case leaseTick =>
    exact hs.of_noUser (fun q hq => by simpa using hq)
      (.trans (.of_lease fun _ => rfl) (State.noNewUser_foldl State.leaseCount_noNewUser Resource.all _))
      fun d => by simp
  case boundary first _ =>
    exact hs.of_noUser (fun q hq => by simpa using hq) (s.boundaryWith_noNewUser first) fun d => by simp
  case filters c x y z d _ _ _ =>
    exact hs.of_noUser (fun _ hq => hq) (.of_lease fun _ => rfl) fun d => State.setChan_subscribers rfl
  case intervalTick c =>
    exact hs.of_noUser (fun q hq => by simpa using hq) (.of_lease fun r => by simp)
      (s.intervalTicks_subscribers c)
  case chanTakes c tick x y z =>
    exact hs.of_noUser (fun q hq => by simpa using hq) (.of_lease fun r => by simp)
      fun d => s.chanTakes_subscribers c d tick x y z
  case abandon | released =>
    intro q _
    refine ⟨fun r => ?_, fun c => by cases c <;> cases q <;> rfl⟩
    have hlease : ∀ (t : State), t.leases = PerResource.all Lease.reset → t.lease r = Lease.reset :=
      fun t ht => by unfold State.lease; rw [ht]; exact PerResource.get_all _ _
    rw [hlease _ rfl]
    exact ⟨by simp [Lease.holder?, Lease.reset], by simp [Lease.reset]⟩
  all_goals exact hs.of_noUser (fun q hq => by simpa using hq) (.of_lease fun r => by simp) fun d => by simp

/-! ### No copy left on its way -/

theorem State.event_quiet {s : State} {effect : State → State} (h : s.Quiet) (he : (effect s).Quiet) :
    (s.event effect).Quiet := by
  unfold State.event
  split
  · exact h
  · exact he

theorem State.liveSample_quiet (s : State) : s.liveSample.Quiet := State.deliver_outbox _

theorem State.sample_quiet {s : State} (h : s.Quiet) : s.sample.Quiet := by
  unfold State.sample
  split
  · unfold State.resetSample
    split
    · exact State.deliver_outbox _
    · exact h
  · exact s.liveSample_quiet

theorem State.samples_quiet (k : Nat) {s : State} (h : s.Quiet) : (s.samples k).Quiet := by
  induction k generalizing s with
  | zero => exact h
  | succ k ih => exact ih (State.sample_quiet h)

theorem State.atBoundary_quiet {s : State} (h : s.Quiet) (act : State → Option State) :
    (s.atBoundary act).Quiet := by
  unfold State.atBoundary
  split
  · exact h
  · split
    · exact State.deliver_outbox _
    · exact h

theorem State.changeRow_quiet {s : State} (h : s.Quiet) (c : Chan) (change : Channel → Option Levels) :
    (s.changeRow c change).Quiet := by
  rcases s.changeRow_cases c change with ⟨-, he⟩ | ⟨l, -, -, he⟩ | ⟨l, -, -, he⟩ <;> rw [he]
  · exact h
  · exact State.deliver_outbox _
  · split
    · exact h
    · exact State.deliver_outbox _

theorem State.intervalTickGiven_quiet {s : State} (h : s.Quiet) (c : Chan) : (s.intervalTickGiven c).Quiet := by
  unfold State.intervalTickGiven
  split
  · exact State.sample_quiet h
  · exact State.deliver_outbox _

theorem State.nextSaturation_quiet {s : State} (h : s.Quiet) (c : Chan) (mode : Channel → Bool) :
    (s.nextSaturation c mode).Quiet := by
  unfold State.nextSaturation
  dsimp only
  split
  · split
    · exact State.intervalTickGiven_quiet (State.samples_quiet _ h) c
    · exact h
  · exact h

theorem respond_leaves_quiet (p : Port) (f : Frame) (a : Answer) : (respond p f a).Quiet := by
  unfold respond State.Quiet
  rw [State.updPort_outbox, State.deliver_outbox]

theorem State.submit_leaves_quiet {s : State} (h : s.Quiet) (i : Instr) (effect : State → Answer) :
    (s.submit i effect).Quiet := by
  unfold State.submit
  split
  · exact h
  · split
    · split
      · exact respond_leaves_quiet ..
      · exact h
    · exact h

theorem State.takeNext_quiet {s : State} (h : s.Quiet) (p : Port) : (s.takeNext p).Quiet := by
  unfold State.takeNext
  split
  · exact h
  · split
    · exact respond_leaves_quiet ..
    · exact h

theorem State.takeWaiting_quiet {s : State} (h : s.Quiet) (p : Port) : (s.takeWaiting p).Quiet :=
  State.takeNext_quiet (State.takeNext_quiet (State.takeNext_quiet (State.takeNext_quiet h p) p) p) p

theorem State.rise_quiet {s : State} (h : s.Quiet) (p : Port) (kind : TransactionKind) (bytes : List Byte)
    {act : State → Transaction → State} (hact : ∀ t, (act s t).Quiet) : (s.rise p kind bytes act).Quiet := by
  unfold State.rise
  split
  · exact h
  · refine State.event_quiet h ?_
    split
    · split
      · exact hact _
      · exact h
    · exact h

/-- Every row delivers the notices that it raises (R168). -/
theorem exec_quiet {i : Instr} {s t : State} (hs : s.Quiet) (h : exec i s = .next t) : t.Quiet := by
  cases i <;> cases h
  case unknown p seq code args =>
    split
    · exact hs
    · exact State.submit_leaves_quiet hs ..
  case statusCapture p => exact hs
  case fetchFrameFixed p q =>
    refine State.event_quiet hs ?_
    split
    · split <;> exact hs
    · exact hs
  case commandTransaction p b r =>
    refine State.rise_quiet hs _ _ _ fun t => State.takeWaiting_quiet ?_ p
    exact hs
  case fetchResponse p b =>
    refine State.rise_quiet hs _ _ _ fun t => ?_
    split
    · refine State.takeWaiting_quiet ?_ p
      exact hs
    · exact hs
  case fetchNotice p b =>
    refine State.rise_quiet hs _ _ _ fun t => ?_
    split <;> exact hs
  case framingFault p b => exact State.rise_quiet hs _ _ _ fun t => hs
  case presenceFall p =>
    refine State.event_quiet hs ?_
    split
    · exact State.deliver_outbox _
    · exact hs
  case presenceRise p | trip0Inactive | trip1Inactive | armHigh =>
    refine State.event_quiet hs ?_
    split <;> exact hs
  case trip0Active | trip1Active =>
    refine State.event_quiet hs ?_
    split
    · exact hs
    · exact State.deliver_outbox _
  case disarm =>
    refine State.event_quiet hs ?_
    split
    · exact State.deliver_outbox _
    · exact hs
  case resetAssert source => rfl
  case resetRelease pins =>
    split
    · exact State.deliver_outbox _
    · exact hs
  case carrierTick =>
    refine State.event_quiet hs ?_
    unfold State.nextTick
    split
    · exact hs
    · exact State.deliver_outbox _
  case periodBoundary | segmentLengthExpiry n | syncBreak m | escalation n =>
    exact State.event_quiet hs (State.atBoundary_quiet hs _)
  case rearmCompletion n =>
    refine State.event_quiet hs ?_
    split
    · exact State.atBoundary_quiet hs _
    · split
      · exact State.deliver_outbox _
      · exact hs
  case leaseTick => exact State.event_quiet hs (State.deliver_outbox _)
  case leaseExpiry r =>
    refine State.event_quiet hs ?_
    split
    · exact State.deliver_outbox _
    · exact hs
  case sideTurnOn n side =>
    refine State.event_quiet hs ?_
    split
    · exact s.liveSample_quiet
    · exact hs
  case intervalTick c =>
    exact State.event_quiet hs (State.intervalTickGiven_quiet (State.samples_quiet _ hs) c)
  case stall c | captureSaturation c => exact State.event_quiet hs (State.nextSaturation_quiet hs c _)
  case quadInputChange c x y | stepDirEdge c y | upDownEdge c x y | indexEdge c | captureEdge c
      | acceptedLevelChange c x y z =>
    exact State.event_quiet hs (State.changeRow_quiet hs c _)
  all_goals exact State.submit_leaves_quiet hs ..

/-! ### Commands wait only behind full answers -/

/-- An engine has no command that it could take (R164). -/
def PortEngine.Busy (e : PortEngine) : Prop := e.commands ≠ [] → 4 ≤ e.responses.length

theorem PortEngine.Busy.congr {e e' : PortEngine} (h : e.Busy) (hc : e'.commands = e.commands)
    (hr : e'.responses = e.responses) : e'.Busy := by
  unfold PortEngine.Busy at *
  rwa [hc, hr]

theorem PortEngine.busy_of_nil {e : PortEngine} (h : e.commands = []) : e.Busy := fun hn => absurd h hn

/-- The calm rows leave the queues of commands and answers alone, or empty them. -/
theorem Deed.enginesBusy {sound : Prop} {s t : State} (h : Deed sound True s t) (hs : s.EnginesBusy) :
    t.EnginesBusy := by
  have hsame : ∀ t : State, (∀ q, t.port q = s.port q) → t.EnginesBusy := fun t ht q => by
    rw [ht]; exact hs q
  cases h
  case engine p f _ _ hqueues =>
    intro q
    rw [State.updPort_port]
    split
    · next hqp =>
      subst hqp
      obtain ⟨hc, hr⟩ := hqueues trivial
      exact PortEngine.Busy.congr (hs q) hc hr
    · exact hs q
  case command p _ heffect =>
    intro q
    obtain ⟨-, hr, hc⟩ := heffect.engines q
    exact PortEngine.Busy.congr (hs q) hc hr
  case presenceFalls p =>
    intro q
    rw [State.presenceFalls_port]
    split
    · exact PortEngine.busy_of_nil rfl
    · exact hs q
  case abandon | released => exact fun q => by cases q <;> exact PortEngine.busy_of_nil rfl
  all_goals exact hsame _ fun q => by simp

/-- What a command that is taken makes of the queues (R164). -/
theorem respond_port (p : Port) (f : Frame) {s : State} {a : Answer} (h : Effect s p a.state) (q : Port) :
    ((respond p f a).port q).commands = (s.port q).commands
      ∧ ((respond p f a).port q).responses.length
        = if q = p then (s.port q).responses.length + 1 else (s.port q).responses.length := by
  obtain ⟨-, hr, hc⟩ := h.engines q
  unfold respond
  rw [State.updPort_port]
  by_cases hq : q = p
  · subst hq; simp [hr, hc]
  · simp [hq, hr, hc]

theorem State.EnginesBusy.submit {s : State} (h : s.EnginesBusy) (i : Instr) :
    (s.submit i (answer i)).EnginesBusy := by
  unfold State.submit
  split
  · exact h
  · next p f hf =>
    split
    · split
      · next htakes =>
        simp only [PortEngine.takesAtOnce, Bool.and_eq_true, List.isEmpty_iff] at htakes
        intro q
        obtain ⟨hc, hr⟩ := respond_port p f (answer_effect hf s) q
        intro hn
        rw [hc] at hn
        rw [hr]
        have hbusy := h q hn
        split <;> omega
      · next htakes =>
        intro q
        rw [State.updPort_port]
        split
        · next hqp =>
          subst hqp
          have hfull : 4 ≤ (s.port q).responses.length := by
            by_contra hroom
            by_cases hc : (s.port q).commands = []
            · simp [PortEngine.takesAtOnce, hc] at htakes; omega
            · exact hroom (h q hc)
          intro _
          unfold PortEngine.enqueue
          split <;> exact hfull
        · exact h q
    · exact h

/-- All engines are busy but for `p`, which may have up to `n` commands to take. -/
def State.BusyBut (s : State) (p : Port) (n : Nat) : Prop :=
  (∀ q, q ≠ p → (s.port q).Busy) ∧ ((s.port p).Busy ∨ (s.port p).commands.length ≤ n)

/-- One step of taking waiting commands: the engine is done, or has one less to take (R164). -/
theorem State.BusyBut.takeNext {s : State} {p : Port} {n : Nat} (h : s.BusyBut p (n + 1)) :
    (s.takeNext p).BusyBut p n := by
  obtain ⟨hothers, hself⟩ := h
  unfold State.takeNext
  split
  · next hnil => exact ⟨hothers, .inl (PortEngine.busy_of_nil hnil)⟩
  · next f rest hcommands =>
    split
    · next hroom =>
      have hport : ∀ q, (s.updPort p fun e => { e with commands := rest }).port q
          = if q = p then { s.port q with commands := rest } else s.port q := fun q => State.updPort_port ..
      have hresult := respond_port p f (answerFrame_effect p f (s.updPort p fun e => { e with commands := rest }))
      refine ⟨fun q hq => ?_, .inr ?_⟩
      · obtain ⟨hc, hr⟩ := hresult q
        rw [hport, if_neg hq] at hc
        rw [hport, if_neg hq, if_neg hq] at hr
        unfold PortEngine.Busy
        rw [hc, hr]
        exact hothers q hq
      · have hlength : (s.port p).commands.length ≤ n + 1 := hself.resolve_left fun hbusy => by
          have := hbusy (by simp [hcommands])
          omega
        rw [(hresult p).1, hport, if_pos rfl]
        rw [hcommands] at hlength
        simpa using hlength
    · next hfull => exact ⟨hothers, .inl fun _ => by omega⟩

/-- Four steps take every command that can be taken (R157, R164). -/
theorem State.BusyBut.takeWaiting {s : State} {p : Port} (h : s.BusyBut p 4) : (s.takeWaiting p).EnginesBusy := by
  obtain ⟨hothers, hself⟩ := h.takeNext.takeNext.takeNext.takeNext
  intro q
  by_cases hq : q = p
  · subst hq
    rcases hself with hbusy | hnone
    · exact hbusy
    · exact PortEngine.busy_of_nil (List.eq_nil_of_length_eq_zero (Nat.le_zero.mp hnone))
  · exact hothers q hq

/-- A change of one engine that leaves it at most 4 commands, after which it takes those it can. -/
theorem State.EnginesBusy.updPort_takeWaiting {s : State} (h : s.EnginesBusy) (p : Port)
    {f : PortEngine → PortEngine} (hf : (f (s.port p)).commands.length ≤ 4) :
    ((s.updPort p f).takeWaiting p).EnginesBusy := by
  refine State.BusyBut.takeWaiting ⟨fun q hq => ?_, .inr ?_⟩
  · rw [State.updPort_port, if_neg hq]
    exact h q
  · rwa [State.updPort_port, if_pos rfl]

theorem State.rise_busy {s : State} (h : s.EnginesBusy) (p : Port) (kind : TransactionKind) (bytes : List Byte)
    {act : State → Transaction → State} (hact : ∀ t, (act s t).EnginesBusy) :
    (s.rise p kind bytes act).EnginesBusy := by
  unfold State.rise
  split
  · intro q
    rw [State.updPort_port]
    split
    · exact PortEngine.Busy.congr (h q) rfl rfl
    · exact h q
  · unfold State.event
    split
    · exact h
    · dsimp only
      split
      · split
        · exact hact _
        · exact h
      · exact h

/-- Every row leaves commands waiting only behind full answers (R164). -/
theorem exec_busy {i : Instr} {s t : State} (hports : s.PortsOk) (hs : s.EnginesBusy) (h : exec i s = .next t) :
    t.EnginesBusy := by
  by_cases hmoves : MovesQueues i
  · rcases hmoves with hcommand | ⟨p, b, r, rfl⟩ | ⟨p, b, rfl⟩
    · cases i
      case unknown p seq code args =>
        cases h
        split
        · exact hs
        · exact hs.submit (.unknown p seq code args)
      all_goals cases hcommand
      all_goals cases h; exact hs.submit _
    · cases h
      refine State.rise_busy hs _ _ _ fun t => hs.updPort_takeWaiting p ?_
      obtain ⟨-, -, -, -, -, hlength⟩ := ((s.port p).endTransaction t b.length).receive_fields b.tail r
      exact hlength (hports p).1.1
    · cases h
      refine State.rise_busy hs _ _ _ fun t => ?_
      split
      · exact hs.updPort_takeWaiting p (hports p).1.1
      · intro q
        rw [State.updPort_port]
        split
        · exact PortEngine.Busy.congr (hs q) rfl rfl
        · exact hs q
  · exact (exec_deeds (sound := False) (calm := True) False.elim (fun _ => hmoves) h).keep
      (P := State.EnginesBusy) (fun _ _ hu hdeed => hdeed.enginesBusy hu) hs

/-- Settles O56: sound engines and idle absent ports are invariants of every deed, and every row delivers its
notices and takes the commands that it lets be taken. -/
theorem portsKept : Obligations.PortsKept := by
  intro s t hquiet hports habsent hbusy hstep
  have hdeeds : ∃ q, Deeds True False (s.setPending q) t := step_deeds (fun _ => hports) id hstep
  obtain ⟨q, hdeeds⟩ := hdeeds
  obtain ⟨hports', habsent'⟩ := hdeeds.keep (P := fun u => u.PortsOk ∧ u.AbsentHoldsNothing)
    (fun _ _ hu hdeed => ⟨hdeed.portsOk hu.1, hdeed.absentHoldsNothing hu.2⟩) ⟨hports, habsent⟩
  unfold step at hstep
  split at hstep
  · cases hstep
    exact ⟨State.sample_quiet hquiet, hports', habsent', (State.sample_deeds (sound := False) (calm := True) s).keep
      (P := State.EnginesBusy) (fun _ _ hu hdeed => hdeed.enginesBusy hu) hbusy⟩
  · next i rest _ =>
    exact ⟨exec_quiet (s := s.setPending rest) hquiet hstep, hports', habsent',
      exec_busy (s := s.setPending rest) hports hbusy hstep⟩

end Sys2Proof.Machine
end

section
/-! PROOFS. Statements about the encoding of single frames, about one port engine, and about the reset state. -/

namespace Sys2Proof.Machine

open Sys2Proof

-- One theorem at a time, as in the tests: proofs that wait for the kernel would each hold a thread.
set_option Elab.async false

/-- Settles O7: by evaluation of the decoder, the segment reader and the CRC. -/
theorem writtenFramesDecode : Obligations.WrittenFramesDecode := by
  unfold Obligations.WrittenFramesDecode
  refine ⟨by decide +kernel, rfl, rfl, rfl, rfl, rfl, rfl, by decide +kernel, by decide +kernel, by decide +kernel⟩

/-! ### Host commands at their port -/

/-- The row of a host command is its submission at its port; UNKNOWN stands for a code that names none. -/
theorem exec_command {i : Instr} {p : Port} {f : Frame} (hf : encodeFrame i = some (p, f))
    (hcode : ∀ q n c args, i = .unknown q n c args → opcodeOf c = none) (s : State) :
    exec i s = .next (s.submit i (answer i)) := by
  cases i
  case unknown q n c args =>
    have hnone := hcode q n c args rfl
    simp only [exec, execUnknown, hnone]
    rfl
  all_goals cases hf
  all_goals rfl

/-- A decoded frame is never an UNKNOWN with the code of a command (R165). -/
theorem decodeFrame_unknown {p q : Port} {f : Frame} {n c : Byte} {args : List Byte}
    (h : decodeFrame p f = some (.unknown q n c args)) : opcodeOf c = none := by
  unfold decodeFrame at h
  split at h
  · next hnone => cases h; exact hnone
  all_goals split at h <;> cases h

/-- Settles O19: the cases of R168 in their order, for each class of notice. -/
theorem noticeAdmission : Obligations.NoticeAdmission := by
  intro e n masked
  have hmasked : masked = !e.mask.admits n.body := by
    cases hb : n.body <;> simp [masked, hb, Classes.admits]
  rw [hmasked]
  clear_value masked
  unfold PortEngine.receiveCopy
  refine ⟨fun h => ?_, fun hp hm => ?_⟩
  · rcases h with h | h <;> simp_all
  · have hadmits : e.mask.admits n.body = true := by simpa using hm
    refine ⟨fun hfull => ?_, fun hroom => ?_⟩
    · simp [hp, hadmits, hfull]
    · simp [hp, hadmits, Nat.not_le.mpr hroom]

/-- Settles O20: each is an update of one accepted level, out of reset. -/
theorem levelOnlyEvents : Obligations.LevelOnlyEvents := by
  intro p s hawake
  obtain ⟨hrst, -⟩ := hawake
  refine ⟨fun h => ?_, fun h => ?_, fun h => ?_, fun h => ?_⟩
  · simp [exec, execPresenceRise, State.event, hrst, h, State.presenceRises, Filter.settled]
  · simp [exec, execTrip0Inactive, State.event, hrst, h, State.trip0Falls, Filter.settled]
  · simp [exec, execTrip1Inactive, State.event, hrst, h, State.trip1Falls, Filter.settled]
  · simp [exec, execArmHigh, State.event, hrst, h, State.armRises, Filter.settled]

/-! ### Reset -/

theorem State.reset_leg (n : Leg) : State.reset.leg n = LegUnit.reset := by cases n <;> rfl

/-- Settles O60: each block of the reset state is at its reset value, which its invariant allows. -/
theorem invariantsHoldAtReset : Obligations.InvariantsHoldAtReset := by
  have hlease : ∀ r, State.reset.lease r = Lease.reset := PerResource.get_all Lease.reset
  have hport : ∀ p, ∃ pins, State.reset.port p = PortEngine.reset pins := fun p => by cases p <;> exact ⟨_, rfl⟩
  have hlegs : State.reset.LegsOk ∧ State.reset.StagesFollow :=
    (State.legsFit_iff _).mp fun n => by rw [State.reset_leg]; exact LegUnit.reset_fit _
  have hfenced := (State.allFenced_iff State.reset).mp (.of_reset hlease State.reset_leg)
  refine ⟨rfl, fun p => ?_, fun p _ => ⟨fun r => ?_, fun c => by cases c <;> cases p <;> rfl⟩, fun p hn => ?_,
    hfenced.1, hfenced.2, hlegs.1, hlegs.2, hlegs.2.neverBothOn,
    ⟨Carrier.reset_ok, fun _ n => by rw [State.reset_leg]; rfl⟩, fun m => ?_, fun c => ?_⟩
  · obtain ⟨pins, h⟩ := hport p
    rw [h]
    exact PortEngine.reset_sound pins false
  · rw [hlease]
    simp [Lease.reset, Lease.holder?]
  · obtain ⟨pins, h⟩ := hport p
    rw [h] at hn
    exact absurd rfl hn
  · cases m <;> exact ⟨Nat.zero_le _, fun n hn => by cases n <;> cases hn⟩
  · cases c <;> exact Channel.reset_ok rfl

/-- Settles O22: RESET_ASSERT sets every block to its reset value by its definition. -/
theorem resetAssertAbandonsAll : Obligations.ResetAssertAbandonsAll := by
  intro source s
  refine ⟨s.abandon (s.rst.assert source), rfl, by cases source <;> rfl, fun p => ⟨by cases p <;> rfl, ?_, ?_⟩,
    PerResource.get_all _, rfl, rfl, rfl, rfl, rfl, rfl, rfl, rfl, rfl, rfl, rfl, fun n => ?_,
    fun m => by cases m <;> rfl, rfl, fun c => by cases c <;> rfl, rfl⟩
  · cases source <;> rfl
  · intro slot
    cases source <;> rfl
  · exact ⟨by cases n <;> rfl, by cases source <;> rfl, by cases source <;> rfl⟩

end Sys2Proof.Machine
end

section
/-! PROOFS. The segment argument and the command frame: what the reader and the writer of 10.9 agree on. -/

namespace Sys2Proof

-- One theorem at a time, as in the tests: proofs that wait for the kernel would each hold a thread.
set_option Elab.async false

/-! ### Two-byte fields -/

theorem join16_toNat (h l : Byte) : (join16 h l).toNat = 256 * h.toNat + l.toNat := by
  have hl : l.toNat < 256 := l.isLt
  simp only [join16, BitVec.toNat_append]
  rw [← Nat.shiftLeft_add_eq_or_of_lt hl, Nat.shiftLeft_eq]
  omega

@[simp] theorem join16_hiByte_loByte (h : Half) : join16 (hiByte h) (loByte h) = h := by
  apply BitVec.eq_of_toNat_eq
  rw [join16_toNat]
  simp only [hiByte, loByte, BitVec.extractLsb'_toNat]
  have := h.isLt
  omega

@[simp] theorem be16_length (h : Half) : (be16 h).length = 2 := rfl

/-! ### The segment argument (R2, 10.9) -/

theorem parseLength_isSome (h : Half) :
    (parseLength h).isSome = (h.toNat == 65535 || (decide (1 ≤ h.toNat) && decide (h.toNat ≤ 4095))) := by
  have hopen : h = 0xFFFF ↔ h.toNat = 65535 := ⟨fun e => by rw [e]; rfl, fun e => BitVec.eq_of_toNat_eq e⟩
  unfold parseLength
  split
  · next e => simp [hopen.mp e]
  · next e =>
    have hne : h.toNat ≠ 65535 := fun h' => e (hopen.mpr h')
    split <;> simp_all

theorem sidesOf_isSome (b : Byte) : (sidesOf b).isSome = decide (b.toNat < 3) := by
  revert b; decide +kernel

theorem exists_some_prodMk {β : Type} {x : β} {rest r : List Byte} :
    (∃ d, some (x, rest) = some (d, r)) ↔ r = rest :=
  ⟨fun ⟨_, h⟩ => (congrArg Prod.snd (Option.some.inj h)).symm, fun h => ⟨x, by rw [h]⟩⟩

/-- What is read of a field, with the bytes after it. -/
theorem exists_map_prodMk {α β : Type} {f : α → β} {o : Option α} {rest r : List Byte} :
    (∃ d, o.map (fun x => (f x, rest)) = some (d, r)) ↔ o.isSome = true ∧ r = rest := by
  cases o with
  | none => simp
  | some x => rw [Option.map_some, exists_some_prodMk]; simp

/-- The drive is read where the presence bit is that of MODULATE and its bytes are there (R2). -/
theorem parseDrive_eq_some {kind : BitVec 2} {present : Bool} {rest r : List Byte} :
    (∃ d, parseDrive kind present rest = some (d, r))
      ↔ (kind = 0 ↔ present = true) ∧ (present = true → 3 ≤ rest.length ∧ dutyBytesOk rest = true)
        ∧ r = rest.drop (if present then 3 else 0) := by
  unfold parseDrive
  by_cases hk : kind = 0
  · rw [if_pos hk]
    cases present with
    | false => simp [hk]
    | true =>
      rcases rest with _ | ⟨a, _ | ⟨b, _ | ⟨c, rest⟩⟩⟩
      · simp
      · simp
      · simp
      · dsimp only
        rw [exists_map_prodMk, sidesOf_isSome]
        simp [hk, dutyBytesOk]
  · rw [if_neg hk]
    cases present with
    | false =>
      have hsome : ∃ d, (if kind = 1 then some (Drive.fixedHigh, rest) else if kind = 2 then some (.fixedLow, rest)
          else some (.float, rest)) = some (d, rest) := by split_ifs <;> exact ⟨_, rfl⟩
      obtain ⟨d, hd⟩ := hsome
      simp only [Bool.false_eq_true, if_false, hd, hk]
      rw [exists_some_prodMk]
      simp
    | true =>
      have hk' : kind ≠ 0#2 := hk
      simp [hk']

theorem conditionByte_isSome (b : Byte) :
    (b.extractLsb' 2 5 = 0 ∧ (condDirOf (b.extractLsb' 0 2)).isSome = true) ↔ b.toNat % 128 < 3 := by
  revert b; decide +kernel

theorem parseCondition_eq_some {present : Bool} {rest r : List Byte} :
    (∃ c, parseCondition present rest = some (c, r))
      ↔ (present = true → 3 ≤ rest.length ∧ conditionBytesOk rest = true)
        ∧ r = rest.drop (if present then 3 else 0) := by
  unfold parseCondition
  cases present with
  | false => rw [if_neg (by simp), exists_some_prodMk]; simp
  | true =>
    rcases rest with _ | ⟨b, _ | ⟨h, _ | ⟨l, rest⟩⟩⟩
    · simp
    · simp
    · simp
    · have hok : conditionBytesOk (b :: h :: l :: rest) = true ↔ b.toNat % 128 < 3 := by simp [conditionBytesOk]
      rw [hok, ← conditionByte_isSome]
      dsimp only
      by_cases hz : b.extractLsb' 2 5 = 0
      · rw [if_pos rfl, if_pos hz, exists_map_prodMk]
        simp only [hz, true_and]
        simp
      · rw [if_pos rfl, if_neg hz]
        simp only [hz, false_and]
        simp

theorem markOf_isSome (b : Byte) : (markOf b).isSome = true ↔ 1 ≤ b.toNat ∧ b.toNat ≤ 15 := by
  revert b; decide +kernel

theorem legSet_ok (own : Leg) (b : Byte) :
    (b.extractLsb' 4 4 = 0 ∧ (legsOfMask b).get own = true ∧ 2 ≤ legCount (legsOfMask b))
      ↔ (b.toNat < 16 ∧ b.getLsbD own.number = true
          ∧ 2 ≤ (Leg.all.filter fun n => b.getLsbD n.number).length) := by
  cases own <;> (revert b; decide +kernel)

theorem legOf_toNat {b : Byte} {own : Leg} (h : legOf b = some own) : b.toNat = own.number := by
  unfold legOf at h
  obtain ⟨hlt, hget⟩ := List.getElem?_eq_some_iff.mp h
  have h4 : b.toNat < 4 := hlt
  generalize b.toNat = k at *
  interval_cases k <;> (subst hget; rfl)

theorem parseSync_eq_some {own : Leg} {b : Byte} (hb : legOf b = some own) {present : Bool} {rest r : List Byte} :
    (∃ f, parseSync own present rest = some (f, r))
      ↔ (present = true → 2 ≤ rest.length ∧ syncBytesOk b rest = true)
        ∧ r = rest.drop (if present then 2 else 0) := by
  unfold parseSync
  cases present with
  | false => rw [if_neg (by simp), exists_some_prodMk]; simp
  | true =>
    rcases rest with _ | ⟨m, _ | ⟨s, rest⟩⟩
    · simp
    · simp
    · have hok : syncBytesOk b (m :: s :: rest) = true ↔ (markOf m).isSome = true ∧ s.extractLsb' 4 4 = 0
          ∧ (legsOfMask s).get own = true ∧ 2 ≤ legCount (legsOfMask s) := by
        rw [markOf_isSome, legSet_ok, ← legOf_toNat hb]
        simp [syncBytesOk, and_assoc]
      rw [hok]
      dsimp only
      cases hm : markOf m with
      | none => simp
      | some mark =>
        dsimp only
        by_cases hs : s.extractLsb' 4 4 = 0 ∧ (legsOfMask s).get own = true ∧ 2 ≤ legCount (legsOfMask s)
        · rw [if_pos rfl, if_pos hs, exists_some_prodMk]
          simp only [hs]
          simp
        · rw [if_pos rfl, if_neg hs]
          simp only [hs]
          simp

theorem kindBits_eq_zero (b : Byte) : b.extractLsb' 6 2 = 0 ↔ b.toNat < 64 := by
  revert b; decide +kernel

/-- Settles O6: each field is read exactly where its bytes are there and within their encoding, and nothing is
left over exactly where the bytes are as many as the presence bits call for. -/
theorem segmentReadExactlyWhenWellFormed : Obligations.SegmentReadExactlyWhenWellFormed := by
  intro b0 own g bytes hb0
  rcases bytes with _ | ⟨b, _ | ⟨tag, _ | ⟨lh, _ | ⟨ll, rest⟩⟩⟩⟩
  · rfl
  · rfl
  · rfl
  · rfl
  rw [Bool.eq_iff_iff]
  have hread : (parseSegment own g (b :: tag :: lh :: ll :: rest)).isSome = true
      ↔ (parseLength (join16 lh ll)).isSome = true
        ∧ ∃ r1, (∃ d, parseDrive (b.extractLsb' 6 2) (b.getLsbD 2) rest = some (d, r1))
          ∧ ∃ r2, (∃ c, parseCondition (b.getLsbD 1) r1 = some (c, r2))
            ∧ ∃ f, parseSync own (b.getLsbD 0) r2 = some (f, []) := by
    simp only [parseSegment, Option.isSome_iff_exists, Option.bind_eq_some_iff]
    constructor
    · rintro ⟨seg, len, hlen, ⟨d, r1⟩, hd, ⟨c, r2⟩, hc, ⟨f, r3⟩, hf, hend⟩
      by_cases hr : r3 = []
      · exact ⟨⟨len, hlen⟩, r1, ⟨d, hd⟩, r2, ⟨c, hc⟩, f, by rw [hf, hr]⟩
      · simp [hr] at hend
    · rintro ⟨⟨len, hlen⟩, r1, ⟨d, hd⟩, r2, ⟨c, hc⟩, f, hf⟩
      exact ⟨_, len, hlen, ⟨d, r1⟩, hd, ⟨c, r2⟩, hc, ⟨f, []⟩, hf, rfl⟩
  rw [hread, parseLength_isSome, join16_toNat]
  simp only [parseDrive_eq_some, parseCondition_eq_some, parseSync_eq_some hb0, kindBits_eq_zero, segmentOk,
    segmentTail]
  cases b.getLsbD 2 <;> cases b.getLsbD 1 <;> cases b.getLsbD 0 <;> simp
  all_goals grind

/-! ### Segments written and read again (R1, R2) -/

/-- The fields of a segment's first byte (10.9). -/
theorem segmentHead_fields (kind notify : BitVec 2) (final duty condition sync : Bool) :
    let b : Byte := kind.setWidth 8 <<< 6 ||| notify.setWidth 8 <<< 4 ||| bitByte final <<< 3
      ||| bitByte duty <<< 2 ||| bitByte condition <<< 1 ||| bitByte sync
    b.extractLsb' 6 2 = kind ∧ b.extractLsb' 4 2 = notify ∧ b.getLsbD 3 = final ∧ b.getLsbD 2 = duty
      ∧ b.getLsbD 1 = condition ∧ b.getLsbD 0 = sync := by
  revert kind notify final duty condition sync
  decide +kernel

/-- The kind bits of a drive, as the reader takes them. -/
def Drive.kindBits (d : Drive) : BitVec 2 := d.kindCode.setWidth 2

/-- The notify bits, as the reader takes them. -/
def Notify.bits (n : Notify) : BitVec 2 := n.code.setWidth 2

theorem Drive.kindCode_eq (d : Drive) : d.kindCode = d.kindBits.setWidth 8 := by
  cases d <;> rfl

theorem Notify.code_eq (n : Notify) : n.code = n.bits.setWidth 8 := by
  cases n <;> rfl

theorem notifyOf_bits (n : Notify) : notifyOf n.bits = n := by
  cases n <;> rfl

/-- The length field of a segment. -/
def lengthField : Option Nat → Half
  | some n => BitVec.ofNat 16 n
  | none => 0xFFFF

/-- The condition field of a segment. -/
def conditionField : Option Condition → List Byte
  | some c => c.bytes
  | none => []

/-- The sync field of a segment. -/
def syncBytes : Option SyncField → List Byte
  | some f => [BitVec.ofNat 8 f.mark.number, maskOfLegs f.legs]
  | none => []

/-- The bytes of a segment argument, field by field (10.9). -/
theorem encodeSegment_eq (s : Segment) :
    encodeSegment s
      = (s.drive.kindBits.setWidth 8 <<< 6 ||| s.notify.bits.setWidth 8 <<< 4 ||| bitByte s.final <<< 3
          ||| bitByte s.drive.hasDuty <<< 2 ||| bitByte s.condition.isSome <<< 1 ||| bitByte s.sync.isSome)
        :: s.tag :: hiByte (lengthField s.length) :: loByte (lengthField s.length)
        :: (s.drive.dutyBytes ++ (conditionField s.condition ++ syncBytes s.sync)) := by
  rw [← Drive.kindCode_eq, ← Notify.code_eq, ← List.append_assoc]
  rfl

theorem parseLength_written {length : Option Nat} (h : ∀ n, length = some n → 1 ≤ n ∧ n ≤ 4095) :
    parseLength (lengthField length) = some length := by
  cases length with
  | none => rfl
  | some n =>
    obtain ⟨h1, h2⟩ := h n rfl
    have hn : (BitVec.ofNat 16 n).toNat = n := by simp; omega
    have hne : BitVec.ofNat 16 n ≠ 0xFFFF := fun he => by
      have := congrArg BitVec.toNat he
      rw [hn] at this
      simp at this
      omega
    simp only [parseLength, lengthField, hn]
    rw [if_neg hne, if_pos ⟨h1, h2⟩]

theorem parseDrive_written (d : Drive) (rest : List Byte) :
    parseDrive d.kindBits d.hasDuty (d.dutyBytes ++ rest) = some (d, rest) := by
  cases d with
  | modulate duty sides =>
    have hsides : sidesOf sides.code = some sides := by cases sides <;> rfl
    have hduty : parseDrive 0 true (hiByte duty :: loByte duty :: sides.code :: rest)
        = some (.modulate duty sides, rest) := by
      simp [parseDrive, hsides]
    exact hduty
  | fixedHigh | fixedLow | float => rfl

/-- The first byte of a condition field. -/
def conditionHead (c : Chan) (d : CondDir) : Byte :=
  (match c with
    | .c0 => 0
    | .c1 => 0x80) ||| d.code

theorem conditionHead_fields (c : Chan) (d : CondDir) :
    (conditionHead c d).extractLsb' 2 5 = 0 ∧ condDirOf ((conditionHead c d).extractLsb' 0 2) = some d
      ∧ (if (conditionHead c d).getLsbD 7 then Chan.c1 else .c0) = c := by
  cases c <;> cases d <;> decide

theorem parseCondition_written (c : Option Condition) (rest : List Byte) :
    parseCondition c.isSome (conditionField c ++ rest) = some (c, rest) := by
  cases c with
  | none => rfl
  | some c =>
    obtain ⟨chan, dir, target⟩ := c
    obtain ⟨hunused, hdir, hchan⟩ := conditionHead_fields chan dir
    have hread : parseCondition true (conditionHead chan dir :: hiByte target :: loByte target :: rest)
        = some (some ⟨chan, dir, target⟩, rest) := by
      simp only [parseCondition, hunused, hdir, hchan, if_true, Option.map_some, join16_hiByte_loByte]
    exact hread

theorem markOf_written (m : Mark) : markOf (BitVec.ofNat 8 m.number) = some m := by
  cases m <;> rfl

theorem maskOfLegs_fields (legs : PerLeg Bool) :
    (maskOfLegs legs).extractLsb' 4 4 = 0 ∧ legsOfMask (maskOfLegs legs) = legs := by
  obtain ⟨a, b, c, d⟩ := legs
  revert a b c d
  decide

theorem parseSync_written (own : Leg) (f : Option SyncField)
    (hf : ∀ x, f = some x → x.legs.get own = true ∧ 2 ≤ legCount x.legs) :
    parseSync own f.isSome (syncBytes f) = some (f, []) := by
  cases f with
  | none => rfl
  | some f =>
    obtain ⟨hown, htwo⟩ := hf f rfl
    obtain ⟨hunused, hlegs⟩ := maskOfLegs_fields f.legs
    simp [parseSync, syncBytes, markOf_written, hunused, hlegs, hown, htwo]

/-- Settles O5: each field is read back from the bytes that it was written to, with the bytes after it. -/
theorem segmentRoundTrip : Obligations.SegmentRoundTrip := by
  intro own seg hlength hsync
  obtain ⟨hkind, hnotify, hfinal, hduty, hcond, hsyncBit⟩ :=
    segmentHead_fields seg.drive.kindBits seg.notify.bits seg.final seg.drive.hasDuty seg.condition.isSome
      seg.sync.isSome
  rw [encodeSegment_eq]
  simp only [parseSegment, join16_hiByte_loByte, parseLength_written hlength, Option.bind_some, hkind, hduty,
    parseDrive_written, hcond, parseCondition_written, hsyncBit, parseSync_written own _ hsync, hnotify, hfinal,
    notifyOf_bits, if_true]

/-! ### Command frames (R163, 10.9) -/

/-- A written frame of at most 30 argument bytes passes the frame check (R163). -/
theorem checkFrame_bytes {f : Frame} (h : f.args.length ≤ 30) : checkFrame f.bytes false = .good f := by
  obtain ⟨code, seq, args⟩ := f
  simp only at h
  have hlen : (BitVec.ofNat 8 (2 + args.length)).toNat = args.length + 2 := by simp; omega
  have htake : (code :: seq :: (args ++ be16 (crc16 (BitVec.ofNat 8 (2 + args.length) :: code :: seq :: args)))).take
      (args.length + 2) = code :: seq :: args := by simp
  have hlength : ∀ c : Half, (code :: seq :: (args ++ be16 c)).length = args.length + 2 + 2 := fun c => by simp
  simp only [Frame.bytes, withCrc, List.cons_append, checkFrame, hlen, htake, hlength]
  rw [if_neg (by simp; omega)]
  simp

theorem opcodeOf_code (o : Opcode) : opcodeOf o.code = some o := by cases o <;> rfl

theorem segmentOk_length {b : Byte} {bytes : List Byte} (h : segmentOk b bytes = true) : bytes.length ≤ 12 := by
  rcases bytes with _ | ⟨b, _ | ⟨tag, _ | ⟨lh, _ | ⟨ll, rest⟩⟩⟩⟩
  · simp
  · simp
  · simp
  · simp
  · have hrest : rest.length = segmentTail b := by simp [segmentOk] at h; tauto
    have htail : segmentTail b ≤ 8 := by unfold segmentTail; split_ifs <;> omega
    simp only [List.length_cons]
    omega

theorem encodeFrame_args_length {i : Instr} {p : Port} {f : Frame} (hwf : i.wf = true)
    (hf : encodeFrame i = some (p, f)) : f.args.length ≤ 30 := by
  cases i
  case append q n g leg seg =>
    cases hf
    simp only [Instr.wf, Bool.and_eq_true] at hwf
    have hlength := segmentOk_length hwf.2
    simp
    omega
  case replace q n g o leg seg =>
    cases hf
    simp only [Instr.wf, Bool.and_eq_true] at hwf
    have hlength := segmentOk_length hwf.2
    simp
    omega
  case unknown q n c args =>
    cases hf
    simp only [Instr.wf, Bool.and_eq_true, decide_eq_true_eq] at hwf
    exact hwf.2
  all_goals cases hf
  all_goals simp

theorem decodeFrame_encodeFrame {i : Instr} {p : Port} {f : Frame} (hwf : i.wf = true)
    (hf : encodeFrame i = some (p, f)) : decodeFrame p f = some i := by
  cases i
  case unknown q n c args =>
    cases hf
    simp only [Instr.wf, Bool.and_eq_true, Option.isNone_iff_eq_none] at hwf
    simp [decodeFrame, hwf.1]
  all_goals cases hf
  all_goals simp [decodeFrame, opcodeOf_code, be16]

/-- Settles O4: a frame of at most 30 argument bytes passes the check, and each field is read from its bytes. -/
theorem frameRoundTrip : Obligations.FrameRoundTrip := fun _ _ _ hwf hf =>
  ⟨checkFrame_bytes (encodeFrame_args_length hwf hf), decodeFrame_encodeFrame hwf hf⟩

end Sys2Proof
end

section
/-! PROOFS. The operands of a command: an argument is read exactly where it is well formed (R165, 10.9). -/

namespace Sys2Proof.Machine

open Sys2Proof

-- One theorem at a time, as in the tests: proofs that wait for the kernel would each hold a thread.
set_option Elab.async false

theorem resourceOf_isSome (b : Byte) : (resourceOf b).isSome = resourceByteOk b := by
  revert b; decide +kernel

theorem legOf_isSome (b : Byte) : (legOf b).isSome = legByteOk b := by
  revert b; decide +kernel

theorem chanOf_isSome (b : Byte) : (chanOf b).isSome = chanByteOk b := by
  revert b; decide +kernel

theorem flagOf_isSome (b : Byte) : (flagOf b).isSome = flagByteOk b := by
  revert b; decide +kernel

theorem prescaleOf_isSome (b : Byte) : (prescaleOf b).isSome = prescaleByteOk b := by
  revert b; decide +kernel

theorem patternsOf_isSome (b : Byte) : (patternsOf b).isSome = patternsOk b := by
  revert b; decide +kernel

theorem indexEdgeOf_isSome (b : Byte) : (indexEdgeOf b).isSome = indexEdgeOk b := by
  revert b; decide +kernel

theorem carrierModeOf_isSome (b : Byte) : (carrierModeOf b).isSome = decide (b.toNat < 2) := by
  revert b; decide +kernel

theorem chanModeOf_isSome (b : Byte) : (chanModeOf b).isSome = decide (b.toNat < 5) := by
  revert b; decide +kernel

theorem filterWidthOf_isSome (b : Byte) : (filterWidthOf b).isSome = decide (b.toNat < 4) := by
  revert b; decide +kernel

theorem classesOf_eq (b : Byte) : classesOf b
    = if b.toNat < 16 then some ⟨b.getLsbD 0, b.getLsbD 1, b.getLsbD 2, b.getLsbD 3⟩ else none := by
  revert b; decide +kernel

theorem kindsOf_isSome (b : Byte) : (kindsOf b).isSome = decide (b.toNat < 32) := by
  revert b; decide +kernel

theorem intervalOf_isSome (h : Half) : (intervalOf h).isSome = intervalOk h := by
  unfold intervalOf intervalOk
  split <;> simp_all

theorem periodOf_isSome (h : Half) : (periodOf h).isSome = decide (16 ≤ h.toNat) := by
  unfold periodOf
  split <;> simp_all

theorem syncLimitOf_isSome (h : Half) :
    (syncLimitOf h).isSome = (decide (1 ≤ h.toNat) && decide (h.toNat ≤ 1023)) := by
  unfold syncLimitOf
  split <;> simp_all

theorem modulusOf_isSome (h : Half) : (modulusOf h).isSome = decide (1 ≤ h.toNat) := by
  unfold modulusOf
  split <;> simp_all

theorem legConfigOf_isSome (d pat e : Byte) : (legConfigOf d pat e).isSome = patternsOk pat := by
  rw [← patternsOf_isSome]
  simp [legConfigOf]

theorem chanConfigOf_isSome (m fl ie e : Byte) (md : Half) :
    (chanConfigOf m fl md ie e).isSome
      = (decide (m.toNat < 5) && decide (fl.toNat < 4) && decide (1 ≤ md.toNat) && indexEdgeOk ie
          && prescaleByteOk e) := by
  rw [← chanModeOf_isSome, ← filterWidthOf_isSome, ← modulusOf_isSome, ← indexEdgeOf_isSome,
    ← prescaleOf_isSome]
  unfold chanConfigOf
  cases chanModeOf m <;> cases filterWidthOf fl <;> cases modulusOf md <;> cases indexEdgeOf ie <;> simp

theorem parseSegment_isSome {b : Byte} {own : Leg} (h : legOf b = some own) (g : Half) (bytes : List Byte) :
    (parseSegment own g bytes).isSome = segmentOk b bytes :=
  segmentReadExactlyWhenWellFormed b own g bytes h

end Sys2Proof.Machine
end

section
/-! PROOFS. A host command at its port: it waits, is dropped or ignored, or is taken at once; and the checks that
come before its block acts: the arguments (R165), the holder and the generation (R78, R79). -/

namespace Sys2Proof.Machine

open Sys2Proof

-- One theorem at a time, as in the tests: proofs that wait for the kernel would each hold a thread.
set_option Elab.async false

/-! ### A command that is taken at once -/

/-- A command whose block raises no notice, at a ready port: the block's answer joins the response queue. -/
theorem exec_answered {i : Instr} {p : Port} {f : Frame} {s : State} {a : Answer} (hready : s.Ready p)
    (hf : encodeFrame i = some (p, f)) (hcode : ∀ q n c args, i = .unknown q n c args → opcodeOf c = none)
    (ha : answer i s = a) (hquiet : a.state.Quiet) :
    exec i s = .next (a.state.answered p ⟨f.seq, f.code, a.result, a.data⟩) := by
  subst ha
  rw [exec_command hf hcode, State.submit_quiet hready hf _ hquiet]

/-- A refused command changes nothing but the response queue (R165). -/
theorem exec_refused {i : Instr} {p : Port} {f : Frame} {s : State} {result : Result} {data : List Byte}
    (hready : s.Ready p) (hf : encodeFrame i = some (p, f))
    (hcode : ∀ q n c args, i = .unknown q n c args → opcodeOf c = none)
    (ha : answer i s = s.refuse result data) :
    exec i s = .next (s.answered p ⟨f.seq, f.code, result, data⟩) :=
  exec_answered hready hf hcode ha hready.2.2.2.2

/-- Settles O13: a command that posts no notice is answered at once at a ready port. -/
theorem portCommandsAnswered : Obligations.PortCommandsAnswered := by
  intro p seq code k args s hready
  have hquiet : s.Quiet := hready.2.2.2.2
  refine ⟨exec_answered (i := .nop p seq) hready rfl nofun rfl hquiet, fun hcode => ?_, fun hk => ?_⟩
  · exact exec_refused (i := .unknown p seq code args) hready rfl (fun q n c as h => by cases h; exact hcode) rfl
  · have ha : answer (.setNoticeMask p seq k) s = ⟨s.updPort p fun e =>
        { e with mask := ⟨k.getLsbD 0, k.getLsbD 1, k.getLsbD 2, k.getLsbD 3⟩ }, .ok,
        [(s.port p).mask.mask]⟩ := by
      simp only [answer, doSetNoticeMask, classesOf_eq, if_pos hk]
    exact exec_answered (i := .setNoticeMask p seq k) hready rfl nofun ha hquiet

/-! ### The argument check (R165) -/

/-- A command with an argument outside its encoding or range is refused BAD_ARG, before every other check. -/
theorem answer_of_bad_args {i : Instr} {p : Port} {f : Frame} {s : State} (hf : encodeFrame i = some (p, f))
    (hknown : ∀ q n c as, i ≠ .unknown q n c as) (h : s.argsOk i = false) :
    answer i s = s.refuse .badArg [] := by
  cases i
  case unknown q n c as => exact absurd rfl (hknown q n c as)
  case nop | queryPort | renewAll | queryTrip | queryCarrier | querySync | readSnapshot | start | stop => cases h
  all_goals
    simp only [State.argsOk, Instr.wf, Bool.and_true, ← resourceOf_isSome, ← intervalOf_isSome, ← flagOf_isSome,
      ← legOf_isSome, ← periodOf_isSome, ← carrierModeOf_isSome, ← prescaleOf_isSome,
      ← chanOf_isSome, ← kindsOf_isSome] at h
    simp only [answer]
  case setNoticeMask q n k =>
    have hk : ¬ k.toNat < 16 := by simpa using h
    simp only [doSetNoticeMask, classesOf_eq, if_neg hk]
  case claim q n r i w =>
    simp only [doClaim]
    cases hr : resourceOf r <;> cases hi : intervalOf i <;> cases hw : flagOf w <;> simp_all
  case release | renew | cancelWait | queryLease => simp_all [doRelease, doRenew, doCancelWait, doQueryLease]
  case seize q n r i =>
    simp only [doSeize]
    cases hr : resourceOf r <;> cases hi : intervalOf i <;> simp_all
  case append q n b g bytes =>
    simp only [doAppend]
    cases hn : legOf b with
    | none => rfl
    | some own => rw [hn, ← parseSegment_isSome hn g] at h; simp_all
  case replace q n b g o bytes =>
    simp only [doReplace]
    cases hn : legOf b with
    | none => rfl
    | some own =>
      rw [hn, ← parseSegment_isSome hn g] at h
      cases ho : flagOf o <;> simp_all
  case flush | cut | rearm => simp_all [doFlush, doCut, doRearm, State.onLeg]
  case queryLeg | queryOutput => simp_all [doQueryLeg, doQueryOutput]
  case setLeg q n b g d pat e =>
    simp only [doSetLeg]
    rw [← legConfigOf_isSome d pat e] at h
    cases hcfg : legConfigOf d pat e <;> simp_all [State.onLeg]
  case setPeriod q n g v =>
    cases hv : periodOf v <;> simp_all [doSetPeriod]
  case setSyncLimit q n g v =>
    rw [← syncLimitOf_isSome] at h
    cases hv : syncLimitOf v <;> simp_all [doSetSyncLimit]
  case setCarrier q n g m e =>
    simp only [doSetCarrier]
    cases hm : carrierModeOf m <;> cases he : prescaleOf e <;> simp_all
  case setChannel q n b g m fl md ie e =>
    have hcfg : ((chanOf b).isSome && (chanConfigOf m fl md ie e).isSome) = false := by
      rw [chanConfigOf_isSome, ← prescaleOf_isSome, ← h]
      simp only [Bool.and_assoc]
    simp only [doSetChannel]
    cases hc : chanOf b <;> cases hx : chanConfigOf m fl md ie e <;> simp_all
  case setPosition q n b g v =>
    cases hc : chanOf b <;> simp_all [doSetPosition]
  case queryChannel q n b => simp_all [doQueryChannel]
  case subscribe q n b k =>
    simp only [doSubscribe]
    cases hc : chanOf b <;> cases hk : kindsOf k <;> simp_all
  all_goals cases hf

/-- Settles O8: the argument check comes first in every command, and its refusal changes nothing. -/
theorem badArgumentsAnswered : Obligations.BadArgumentsAnswered := by
  intro i p f s hf _ hknown hready hbad
  exact exec_refused hready hf (fun q n c as h => absurd h (hknown q n c as)) (answer_of_bad_args hf hknown hbad)

/-! ### The fencing checks (R78, R79) -/

theorem onLeg_of_fence {s : State} {b : Byte} {n : Leg} {p : Port} {g : Half} {act : Leg → Answer} {result : Result}
    {data : List Byte} (hn : legOf b = some n) (hfence : s.fence (.leg n) p g = some (result, data)) :
    s.onLeg b p g act = s.refuse result data := by
  simp only [State.onLeg, hn, hfence]

theorem onCarrier_of_fence {s : State} {p : Port} {g : Half} {act : Answer} {result : Result} {data : List Byte}
    (hfence : s.fence .carrier p g = some (result, data)) : s.onCarrier p g act = s.refuse result data := by
  simp only [State.onCarrier, hfence]

theorem onChan_of_fence {s : State} {c : Chan} {p : Port} {g : Half} {act : Answer} {result : Result}
    {data : List Byte} (hfence : s.fence (.chan c) p g = some (result, data)) :
    s.onChan c p g act = s.refuse result data := by
  simp only [State.onChan, hfence]

/-- The fencing checks come before the other checks of a segment (R14). -/
theorem checkSegment_of_fence {s : State} {n : Leg} {p : Port} {g : Half} {x : Result × List Byte}
    (hfence : s.fence (.leg n) p g = some x) (seg : Segment) :
    s.checkSegment n p g seg = some x ∧ s.afterCheck n p g seg = s := by
  simp [State.checkSegment, State.afterCheck, hfence]

/-- A leased command with good arguments that the fencing checks refuse gets their refusal, before every other
check. -/
theorem answer_of_fence {i : Instr} {p : Port} {f : Frame} {r : Resource} {g : Half} {s : State}
    {result : Result} {data : List Byte} (hf : encodeFrame i = some (p, f)) (hl : leasedOn i = some (r, g))
    (hargs : s.argsOk i = true) (hfence : s.fence r p g = some (result, data)) :
    answer i s = s.refuse result data := by
  cases i
  all_goals
    simp only [leasedOn, Option.map_eq_some_iff, Option.some.injEq, Prod.mk.injEq, reduceCtorEq] at hl
  all_goals
    cases hf
    simp only [answer]
  case release | renew =>
    obtain ⟨r, hr, rfl, rfl⟩ := hl
    simp only [doRelease, doRenew, hr, hfence]
  case append n b g bytes =>
    obtain ⟨n, hn, rfl, rfl⟩ := hl
    simp only [State.argsOk, Instr.wf, Bool.and_true, Bool.and_eq_true, ← parseSegment_isSome hn g] at hargs
    obtain ⟨seg, hseg⟩ := Option.isSome_iff_exists.mp hargs.2
    obtain ⟨hcheck, hafter⟩ := checkSegment_of_fence hfence seg
    simp only [doAppend, hn, hseg, hcheck, hafter]
  case replace n b g o bytes =>
    obtain ⟨n, hn, rfl, rfl⟩ := hl
    simp only [State.argsOk, Instr.wf, Bool.and_true, Bool.and_eq_true, ← parseSegment_isSome hn g,
      ← flagOf_isSome] at hargs
    obtain ⟨⟨-, hflag⟩, hsegment⟩ := hargs
    obtain ⟨flag, ho⟩ := Option.isSome_iff_exists.mp hflag
    obtain ⟨seg, hseg⟩ := Option.isSome_iff_exists.mp hsegment
    obtain ⟨hcheck, hafter⟩ := checkSegment_of_fence hfence seg
    simp only [doReplace, hn, ho, hseg, hcheck, hafter]
  case flush | cut | rearm =>
    obtain ⟨n, hn, rfl, rfl⟩ := hl
    exact onLeg_of_fence hn hfence
  case setLeg n b g d pat e =>
    obtain ⟨n, hn, rfl, rfl⟩ := hl
    simp only [State.argsOk, Instr.wf, Bool.and_true, Bool.and_eq_true, ← legConfigOf_isSome d pat e] at hargs
    obtain ⟨cfg, hcfg⟩ := Option.isSome_iff_exists.mp hargs.2
    simp only [doSetLeg, hcfg, onLeg_of_fence hn hfence]
  case setPeriod n g v =>
    obtain ⟨rfl, rfl⟩ := hl
    simp only [State.argsOk, Instr.wf, Bool.and_true, ← periodOf_isSome] at hargs
    obtain ⟨v, hv⟩ := Option.isSome_iff_exists.mp hargs
    simp only [doSetPeriod, hv, onCarrier_of_fence hfence]
  case setCarrier n g m e =>
    obtain ⟨rfl, rfl⟩ := hl
    simp only [State.argsOk, Instr.wf, Bool.and_true, Bool.and_eq_true, ← carrierModeOf_isSome,
      ← prescaleOf_isSome] at hargs
    obtain ⟨m, hm⟩ := Option.isSome_iff_exists.mp hargs.1
    obtain ⟨e, he⟩ := Option.isSome_iff_exists.mp hargs.2
    simp only [doSetCarrier, hm, he, onCarrier_of_fence hfence]
  case start | stop =>
    obtain ⟨rfl, rfl⟩ := hl
    exact onCarrier_of_fence hfence
  case setSyncLimit n g v =>
    obtain ⟨rfl, rfl⟩ := hl
    simp only [State.argsOk, Instr.wf, Bool.and_true, ← syncLimitOf_isSome] at hargs
    obtain ⟨v, hv⟩ := Option.isSome_iff_exists.mp hargs
    simp only [doSetSyncLimit, hv, onCarrier_of_fence hfence]
  case setChannel n b g m fl md ie e =>
    obtain ⟨c, hc, rfl, rfl⟩ := hl
    have hcfg : (chanByteOk b && (chanConfigOf m fl md ie e).isSome) = true := by
      rw [chanConfigOf_isSome, ← hargs]
      simp only [State.argsOk, Instr.wf, Bool.and_assoc, Bool.and_true]
    obtain ⟨cfg, hcfg⟩ := Option.isSome_iff_exists.mp (Bool.and_eq_true_iff.mp hcfg).2
    simp only [doSetChannel, hc, hcfg, onChan_of_fence hfence]
  case setPosition n b g v =>
    obtain ⟨c, hc, rfl, rfl⟩ := hl
    simp only [State.argsOk, Bool.and_eq_true, hc, Option.map_some, Option.getD_some, decide_eq_true_eq] at hargs
    simp only [doSetPosition, hc, if_pos hargs.2, onChan_of_fence hfence]

/-- Settles O9: the refusal of `State.fence`, which comes right after the argument check. -/
theorem leasedCommandsFenced : Obligations.LeasedCommandsFenced := by
  intro i p f r g s hf hl hready hargs
  have hcode : ∀ q n c args, i = .unknown q n c args → opcodeOf c = none := by
    rintro q n c args rfl
    cases hl
  refine ⟨fun hother => ?_, fun hheld hgen => ?_⟩
  · exact exec_refused hready hf hcode (answer_of_fence hf hl hargs (s.fence_notHolder r p g hother))
  · exact exec_refused hready hf hcode (answer_of_fence hf hl hargs (s.fence_stale r p g hheld hgen))

/-! ### A command that is not taken at once (R163, R164, R171, R176) -/

/-- Settles O10: the row is a submission, and each clause is one branch of it. -/
theorem commandWaitsIsDroppedOrIgnored : Obligations.CommandWaitsIsDroppedOrIgnored := by
  intro i p f s hf hd
  have hcode : ∀ q n c args, i = .unknown q n c args → opcodeOf c = none := by
    rintro q n c args rfl
    exact decodeFrame_unknown hd
  rw [exec_command hf hcode]
  refine ⟨fun hdead => ?_, fun hrst hp hbusy => ?_⟩
  · have hlive : s.portLive p = false := by
      rcases hdead with h | h <;> simp [State.portLive, h]
    rw [State.submit_ignored hlive hf]
  · have hlive : s.portLive p = true := by simp [State.portLive, hrst, hp]
    have hwait : (s.port p).takesAtOnce = false := by
      rcases hbusy with h | h <;> simp [PortEngine.takesAtOnce, h]
    rw [State.submit_waits hlive hf hwait]
    refine ⟨fun hroom => ?_, fun hfull => ?_⟩
    · simp only [State.updPort, PortEngine.enqueue, if_neg (Nat.not_le.mpr hroom)]
    · simp only [State.updPort, PortEngine.enqueue, if_pos hfull]

end Sys2Proof.Machine
end

section
/-! PROOFS. Transactions (R158 to R164, R167): what the rise of CSNx does with a command frame, and with a fetch. -/

namespace Sys2Proof.Machine

open Sys2Proof

-- One theorem at a time, as in the tests: proofs that wait for the kernel would each hold a thread.
set_option Elab.async false

/-! ### A frame and its command -/

theorem be16_join16 (h l : Byte) : be16 (join16 h l) = [h, l] := by
  have hhi : hiByte (join16 h l) = h := by
    apply BitVec.eq_of_toNat_eq
    have := join16_toNat h l
    simp only [hiByte, BitVec.extractLsb'_toNat, this]
    omega
  have hlo : loByte (join16 h l) = l := by
    apply BitVec.eq_of_toNat_eq
    have := join16_toNat h l
    simp only [loByte, BitVec.extractLsb'_toNat, this]
    omega
  rw [be16, hhi, hlo]

theorem code_of_opcodeOf {b : Byte} {o : Opcode} (h : opcodeOf b = some o) : o.code = b := by
  simpa using List.find?_some h

/-- A frame that decodes is the frame of its command (10.9). -/
theorem encodeFrame_of_decodeFrame {p : Port} {f : Frame} {i : Instr} (h : decodeFrame p f = some i) :
    encodeFrame i = some (p, f) := by
  obtain ⟨code, seq, args⟩ := f
  unfold decodeFrame at h
  split at h
  · cases h; rfl
  all_goals
    next ho =>
      have hcode := code_of_opcodeOf ho
      split at h
      · next hargs =>
        cases h
        simp only [] at hargs hcode
        simp [encodeFrame, be16_join16, hcode, hargs]
      · cases h

theorem be16_eq_iff {c : Half} {h l : Byte} : be16 c = [h, l] ↔ join16 h l = c := by
  refine ⟨fun hc => ?_, fun hc => hc ▸ be16_join16 h l⟩
  simp only [be16, List.cons.injEq, and_true] at hc
  rw [← hc.1, ← hc.2, join16_hiByte_loByte]

/-! ### Commands that wait behind full answers (R164) -/

theorem State.takeNext_of_busy {s : State} {p : Port} (h : (s.port p).Busy) : s.takeNext p = s := by
  unfold State.takeNext
  split
  · rfl
  · next f rest hc => exact if_neg (Nat.not_lt.mpr (h (by simp [hc])))

theorem State.takeWaiting_of_busy {s : State} {p : Port} (h : (s.port p).Busy) : s.takeWaiting p = s := by
  simp only [State.takeWaiting, State.takeNext_of_busy h]

/-- An engine with room takes the head of its commands; after it the others are taken while there is room. -/
theorem State.takeNext_of_room {s : State} {p : Port} {f : Frame} {rest : List Frame}
    (hc : (s.port p).commands = f :: rest) (hr : (s.port p).responses.length < 4) :
    s.takeNext p = respond p f (answerFrame p f (s.updPort p fun e => { e with commands := rest })) := by
  simp only [State.takeNext, hc, if_pos hr]

/-- One command is taken where it is the only one, or its answer is the fourth (R164). -/
theorem State.takeWaiting_one {s : State} {p : Port} {f : Frame} {rest : List Frame}
    (hc : (s.port p).commands = f :: rest) (hr : (s.port p).responses.length < 4)
    (hlast : rest ≠ [] → (s.port p).responses.length = 3) :
    s.takeWaiting p = respond p f (answerFrame p f (s.updPort p fun e => { e with commands := rest })) := by
  obtain ⟨hcommands, hresponses⟩ :=
    respond_port p f (answerFrame_effect p f (s.updPort p fun e => { e with commands := rest })) p
  simp only [State.updPort_port, if_true] at hcommands hresponses
  have hbusy : ((respond p f (answerFrame p f (s.updPort p fun e => { e with commands := rest }))).port p).Busy := by
    intro hne
    rw [hcommands] at hne
    rw [hresponses, hlast hne]
  simp only [State.takeWaiting, State.takeNext_of_room hc hr, State.takeNext_of_busy hbusy]

/-! ### The rise of a command transaction (R161, R163) -/

theorem PortEngine.current_of_txn {e : PortEngine} {t : Transaction} (h : e.txn = some t) : e.current = some t := by
  simp only [PortEngine.current, h]

/-- The sticky flags with those that a transaction showed cleared (R161). -/
theorem Sticky.clearShown_eq (now shown : Sticky) : now.clearShown shown
    = ⟨now.dropped && !shown.dropped, now.crcFault && !shown.crcFault, now.framing && !shown.framing⟩ := rfl

/-- A command transaction in progress ends: its flags, its frame, and the commands that can be taken. -/
theorem exec_commandTransaction {s : State} {p : Port} {t : Transaction} (bytes : List Byte) (ragged : Bool)
    (hawake : s.Awake) (hign : (s.port p).ignoring = false) (ht : (s.port p).txn = some t)
    (ho : t.opener = none) :
    exec (.commandTransaction p (0x3C :: bytes) ragged) s
      = .next ((s.updPort p fun e =>
          (e.endTransaction t (bytes.length + 1)).receive bytes ragged).takeWaiting p) := by
  have hrise := State.rise_live (kind := .command) (bytes := 0x3C :: bytes) hign hawake.1
    (PortEngine.current_of_txn ht) ((kindOfOpener_eq _).1.mpr rfl) (by simp [Transaction.couldBe, ho])
  exact congrArg Host.Outcome.next (hrise _)

/-- The frame check of R163 finds a fault of framing. -/
theorem checkFrame_framing {bytes : List Byte} {ragged : Bool}
    (h : ragged = true ∨ bytes = [] ∨ (bytes.headD 0).toNat < 2 ∨ 32 < (bytes.headD 0).toNat
      ∨ bytes.length ≠ 1 + (bytes.headD 0).toNat + 2) : checkFrame bytes ragged = .framing := by
  cases bytes with
  | nil => rfl
  | cons len rest =>
    refine if_pos ?_
    simp only [List.headD_cons, List.length_cons, reduceCtorEq, false_or] at h
    rcases h with h | h | h | h
    · exact .inl h
    · exact .inr (.inl h)
    · exact .inr (.inr (.inl h))
    · exact .inr (.inr (.inr (by omega)))

/-- The frame check of R163 on bytes with no fault of framing: the CRC decides. -/
theorem checkFrame_framed {len code seq h l : Byte} {args : List Byte} {ragged : Bool}
    (hragged : ragged = false) (hlen : len.toNat = args.length + 2) (hmax : len.toNat ≤ 32) :
    checkFrame (len :: code :: seq :: (args ++ [h, l])) ragged
      = if join16 h l = crc16 (len :: code :: seq :: args) then .good ⟨code, seq, args⟩ else .crcFault := by
  have htake : (code :: seq :: (args ++ [h, l])).take len.toNat = code :: seq :: args := by simp [hlen]
  have hcrc : withCrc (len :: code :: seq :: args) = len :: code :: seq :: (args ++ [h, l])
      ↔ join16 h l = crc16 (len :: code :: seq :: args) := by
    simp [withCrc, be16_eq_iff]
  subst hragged
  simp only [checkFrame, htake]
  rw [if_neg (by simp; omega)]
  by_cases hgood : join16 h l = crc16 (len :: code :: seq :: args)
  · rw [if_neg (not_not.mpr (hcrc.mpr hgood)), if_pos hgood]
  · rw [if_pos (mt hcrc.mp hgood), if_neg hgood]

/-- Settles O12: the frame check gives framing, CRC and room in that order, and a busy engine takes nothing. -/
theorem commandFrameChecked : Obligations.CommandFrameChecked := by
  intro p t bytes ragged s hawake hign ht ho hbusy flags badFraming
  have hflags : t.clears (bytes.length + 1) (s.port p).sticky = flags := by
    cases bytes <;> simp [Transaction.clears, flags, Sticky.clearShown_eq]
  rw [exec_commandTransaction bytes ragged hawake hign ht ho]
  have hdone : ∀ e : PortEngine, e = ((s.port p).endTransaction t (bytes.length + 1)).receive bytes ragged →
      e.Busy → (s.updPort p fun e => (e.endTransaction t (bytes.length + 1)).receive bytes ragged).takeWaiting p
        = s.setPort p e := by
    rintro e rfl he
    exact State.takeWaiting_of_busy (by rwa [State.updPort_port, if_pos rfl])
  refine ⟨fun hbad => ?_, ?_⟩
  · rw [hdone { s.port p with txn := none, sticky := { flags with framing := true } } ?_ hbusy]
    · rfl
    · simp only [PortEngine.receive, checkFrame_framing hbad, PortEngine.endTransaction, hflags]
  · rintro len code seq h l args rfl hgood
    have hcheck : checkFrame (len :: code :: seq :: (args ++ [h, l])) ragged
        = if join16 h l = crc16 (len :: code :: seq :: args) then .good ⟨code, seq, args⟩ else .crcFault := by
      simp only [badFraming, not_or, List.headD_cons, List.length_cons, List.length_append] at hgood
      exact checkFrame_framed (by simpa using hgood.1) (by simp at hgood; omega) (by omega)
    refine ⟨fun hcrc => ?_, fun hcrc hfull => ?_, fun hcrc hroom hresponses => ?_⟩
    · rw [hdone { s.port p with txn := none, sticky := { flags with crcFault := true } } ?_ hbusy]
      · rfl
      · simp only [PortEngine.receive, hcheck, if_neg hcrc, PortEngine.endTransaction, hflags]
    · rw [hdone { s.port p with txn := none, sticky := { flags with dropped := true } } ?_ hbusy]
      · rfl
      · simp only [PortEngine.receive, hcheck, if_pos hcrc, PortEngine.endTransaction, hflags,
          PortEngine.enqueue, if_pos hfull]
    · rw [hdone { s.port p with
          txn := none, sticky := flags, commands := (s.port p).commands ++ [⟨code, seq, args⟩] } ?_
        fun _ => hresponses]
      · rfl
      · simp only [PortEngine.receive, hcheck, if_pos hcrc, PortEngine.endTransaction, hflags,
          PortEngine.enqueue, if_neg (Nat.not_le.mpr hroom)]

/-- Settles O11: the frame passes the check and joins the queue; it waits there, or is taken at once. -/
theorem commandTransactionRunsItsCommand : Obligations.CommandTransactionRunsItsCommand := by
  intro p t f s hawake hpresent hbusy hign ht ho hargs s'
  have hreceive : s.updPort p (fun e => (e.endTransaction t (f.bytes.length + 1)).receive f.bytes false)
      = s'.updPort p fun e => e.enqueue f := by
    rw [State.updPort_updPort]
    refine congrArg (s.updPort p) (funext fun e => ?_)
    have hslots : 2 ≤ f.bytes.length + 1 := by simp [Frame.bytes, withCrc]
    simp only [PortEngine.receive, checkFrame_bytes hargs, PortEngine.endTransaction, Transaction.clears,
      if_pos hslots, Sticky.clearShown_eq]
  rw [exec_commandTransaction f.bytes false hawake hign ht ho, hreceive]
  have hcommands : (s'.port p).commands = (s.port p).commands := by simp [s']
  have hresponses : (s'.port p).responses = (s.port p).responses := by simp [s']
  have hlive : s'.portLive p = true := by simp [State.portLive, s', hawake.1, hpresent]
  by_cases htakes : (s'.port p).takesAtOnce = true
  · obtain ⟨hnone, hroom⟩ : (s.port p).commands = [] ∧ (s.port p).responses.length < 4 := by
      simpa [PortEngine.takesAtOnce, hcommands, hresponses] using htakes
    have htaken : (s'.updPort p fun e => e.enqueue f).takeWaiting p = respond p f (answerFrame p f s') := by
      have henqueued : (s'.port p).enqueue f = { s'.port p with commands := [f] } := by
        simp [PortEngine.enqueue, hcommands, hnone]
      have hback : (s'.updPort p fun e => e.enqueue f).updPort p (fun e => { e with commands := [] }) = s' := by
        rw [State.updPort_updPort]
        simp only [State.updPort, henqueued]
        rw [← hnone, ← hcommands]
        exact State.setPort_port_self s' p
      rw [State.takeWaiting_one (f := f) (rest := []) (by simp [henqueued]) (by simp [henqueued, hresponses, hroom])
        (by simp), hback]
    rw [htaken]
    refine ⟨fun i hi => ?_, fun hi hready => ?_⟩
    · have hf := encodeFrame_of_decodeFrame hi
      rw [exec_command hf (fun q n c args h => decodeFrame_unknown (h ▸ hi))]
      simp only [State.submit, hf, hlive, htakes, if_true, answerFrame, hi]
    · have ha : answerFrame p f s' = s'.refuse .badArg [] := by simp only [answerFrame, hi]
      rw [ha, respond_quiet _ _ _ hawake.2]
      rfl
  · have hwait : (s'.port p).takesAtOnce = false := by simpa using htakes
    have hfull : 4 ≤ (s.port p).responses.length := by
      by_cases hnone : (s.port p).commands = []
      · simpa [PortEngine.takesAtOnce, hcommands, hresponses, hnone] using htakes
      · exact hbusy hnone
    have hkept : (s'.updPort p fun e => e.enqueue f).takeWaiting p = s'.updPort p fun e => e.enqueue f := by
      refine State.takeWaiting_of_busy fun _ => ?_
      have hsame : ((s'.port p).enqueue f).responses = (s'.port p).responses := by
        unfold PortEngine.enqueue
        split <;> rfl
      rwa [State.updPort_port, if_pos rfl, hsame, hresponses]
    rw [hkept]
    refine ⟨fun i hi => ?_, fun hi hready => ?_⟩
    · have hf := encodeFrame_of_decodeFrame hi
      rw [exec_command hf (fun q n c args h => decodeFrame_unknown (h ▸ hi)), State.submit_waits hlive hf hwait]
    · exact absurd hready.2.2.2.1 (Nat.not_lt.mpr hfull)

/-! ### The rise of a fetch (R161, R167, R169) -/

/-- A fetch of responses ends: the head that was wholly sent is removed, and waiting commands may be taken. -/
theorem exec_fetchResponse {s : State} {p : Port} {t : Transaction} (rest : List Byte) (hawake : s.Awake)
    (hign : (s.port p).ignoring = false) (ht : (s.port p).txn = some t)
    (ho : t.opener = none ∨ t.opener = some 0xC3) :
    exec (.fetchResponse p (0xC3 :: rest)) s = .next
      (if (t.settled (s.port p) .responses (1 + rest.length)).sentWhole (1 + rest.length) then
        (s.updPort p fun e => (e.endTransaction t (1 + rest.length)).removeResponse).takeWaiting p
      else s.updPort p fun e => e.endTransaction t (1 + rest.length)) := by
  have hrise := State.rise_live (kind := .fetch .responses) (bytes := 0xC3 :: rest) hign hawake.1
    (PortEngine.current_of_txn ht) ((kindOfOpener_eq _).2.1.mpr rfl)
    (by rcases ho with ho | ho <;> simp [Transaction.couldBe, ho])
  rw [Nat.add_comm 1]
  exact congrArg Host.Outcome.next (hrise _)

/-- A fetch of notices ends: the head that was wholly sent is removed, and LOST may join. -/
theorem exec_fetchNotice {s : State} {p : Port} {t : Transaction} (rest : List Byte) (hawake : s.Awake)
    (hign : (s.port p).ignoring = false) (ht : (s.port p).txn = some t)
    (ho : t.opener = none ∨ t.opener = some 0x5A) :
    exec (.fetchNotice p (0x5A :: rest)) s = .next
      (if (t.settled (s.port p) .notices (1 + rest.length)).sentWhole (1 + rest.length) then
        s.updPort p fun e => (e.endTransaction t (1 + rest.length)).removeNotice s.periodLow
      else s.updPort p fun e => e.endTransaction t (1 + rest.length)) := by
  have hrise := State.rise_live (kind := .fetch .notices) (bytes := 0x5A :: rest) hign hawake.1
    (PortEngine.current_of_txn ht) ((kindOfOpener_eq _).2.2.mpr rfl)
    (by rcases ho with ho | ho <;> simp [Transaction.couldBe, ho])
  rw [Nat.add_comm 1]
  exact congrArg Host.Outcome.next (hrise _)

/-- A frame fixed at slot 1 is wholly sent exactly when its last byte is. -/
theorem Transaction.settled_sentWhole {t : Transaction} {bytes : List Byte} (h : t.fixed = some (.frame bytes))
    (e : PortEngine) (q : FetchQueue) (slots : Nat) :
    (t.settled e q slots).sentWhole slots = decide (2 + bytes.length ≤ slots) := by
  simp only [Transaction.settled, Transaction.sentWhole, h]

/-- Nothing is wholly sent by a fetch of the marker, or one that ends before its frame does. -/
theorem Transaction.settled_not_sentWhole {t : Transaction} {slots : Nat}
    (hshort : ∀ bytes, t.fixed = some (.frame bytes) → slots < 2 + bytes.length)
    (hfixed : t.fixed = none → slots < 2) (e : PortEngine) (q : FetchQueue) :
    (t.settled e q slots).sentWhole slots = false := by
  cases hf : t.fixed with
  | none =>
    have hslots := hfixed hf
    simp only [Transaction.settled, Transaction.sentWhole, hf, if_neg (Nat.not_le.mpr hslots)]
  | some x =>
    cases x with
    | marker => simp only [Transaction.settled, Transaction.sentWhole, hf]
    | frame bytes =>
      rw [Transaction.settled_sentWhole hf]
      simpa using hshort bytes hf

/-- The frame of a fetch that is fixed at the rise is the one that FETCH_FRAME_FIXED fixes (log entry 19). -/
theorem Transaction.settled_fix {t : Transaction} {slots : Nat} (hf : t.fixed = none) (hslots : 2 ≤ slots)
    (e e' : PortEngine) (q : FetchQueue) : (t.fix e q).settled e' q slots = t.settled e q slots := by
  simp only [Transaction.settled, hf, if_pos hslots, Transaction.fix]

/-- The removal of a notice (R169): its tail, LOST where copies were lost, and the count back at 0. -/
theorem PortEngine.removeNotice_eq (e : PortEngine) (period : Half) : e.removeNotice period
    = { e with
        notices := e.notices.tail ++ (if 0 < e.lost then [⟨.lost e.lost, .none, none, period⟩] else [])
        lost := 0 } := by
  unfold PortEngine.removeNotice
  split
  · next h => simp [lostNotice]
  · next h =>
    have hlost : e.lost = 0 := by omega
    simp [← hlost]

theorem exec_fetchFrameFixed {s : State} {p : Port} {t : Transaction} (q : FetchQueue) (hawake : s.Awake)
    (ht : (s.port p).txn = some t) (ho : t.opener = none) :
    exec (.fetchFrameFixed p q) s = .next (s.updPort p fun e => { e with txn := some (t.fix e q) }) := by
  simp [exec, execFetchFrameFixed, State.event_awake hawake.1, PortEngine.current_of_txn ht, ho]

theorem State.attention_iff (s : State) (p : Port) : s.attention p = true ↔
    s.rst.inReset = false ∧ (s.port p).presence.level = true
      ∧ ((s.port p).responses ≠ [] ∨ (s.port p).notices ≠ []) := by
  simp [State.attention, and_assoc]

/-- What SDOx sends in a transaction that is not ignored, at a port that takes transactions. -/
theorem State.sdoByte_live {s : State} {p : Port} {t : Transaction} (hawake : s.rst.inReset = false)
    (hp : (s.port p).presence.level = true) (hign : (s.port p).ignoring = false) (ht : (s.port p).txn = some t) :
    s.sdoByte p 0 = some t.status1 ∧ s.sdoByte p 1 = some t.status2
      ∧ ∀ k, s.sdoByte p (k + 2) = some
        (match t.fixed with
        | some (.frame bytes) => bytes.getD k 0
        | some .marker | none => 0) := by
  refine ⟨?_, ?_, fun k => ?_⟩ <;> simp only [State.sdoByte, hawake, hp, hign, ht] <;> rfl

/-- Settles O17: the branches of the rise of a fetch. -/
theorem fetchRemovesWhatWasSent : Obligations.FetchRemovesWhatWasSent := by
  intro p t rest s hawake hign ht slots fetchResponses fetchNotices flags kept
  have hkept : s.updPort p (fun e => e.endTransaction t slots) = kept := rfl
  refine ⟨fun s' x => s'.attention_iff x, fun hp k => ?_, fun ho => ⟨fun bytes hf hsent hc => ?_, fun hs hf => ?_⟩,
    fun ho => ⟨fun bytes hf hsent => ?_, fun hs hf => ?_⟩, fun t1 ho hf hslots => ⟨fun h1 => ?_, fun h1 => ?_⟩⟩
  · rw [Nat.add_comm]
    exact (State.sdoByte_live hawake.1 hp hign ht).2.2 k
  · rw [exec_fetchResponse rest hawake hign ht ho, Transaction.settled_sentWhole hf, if_pos (by simpa using hsent),
      State.takeWaiting_of_busy (PortEngine.busy_of_nil (by simpa [PortEngine.removeResponse, PortEngine.endTransaction] using hc))]
    rw [← hkept, State.updPort_updPort]
    rfl
  · rw [exec_fetchResponse rest hawake hign ht ho, Transaction.settled_not_sentWhole hs hf]
    rfl
  · rw [exec_fetchNotice rest hawake hign ht ho, Transaction.settled_sentWhole hf, if_pos (by simpa using hsent)]
    simp only [PortEngine.removeNotice_eq, kept, State.updPort_updPort]
    rfl
  · rw [exec_fetchNotice rest hawake hign ht ho, Transaction.settled_not_sentWhole hs hf]
    rfl
  · rw [exec_fetchFrameFixed .responses hawake ht ho] at h1
    cases h1
    have hfixed := exec_fetchResponse (p := p) (t := t.fix (s.port p) .responses)
      (s := s.updPort p fun e => { e with txn := some (t.fix e .responses) }) rest hawake (by simpa using hign)
      (by simp) (.inr rfl)
    rw [Transaction.settled_fix hf hslots, State.updPort_updPort, State.updPort_updPort] at hfixed
    exact (exec_fetchResponse rest hawake hign ht (.inl ho)).trans hfixed.symm
  · rw [exec_fetchFrameFixed .notices hawake ht ho] at h1
    cases h1
    have hfixed := exec_fetchNotice (p := p) (t := t.fix (s.port p) .notices)
      (s := s.updPort p fun e => { e with txn := some (t.fix e .notices) }) rest hawake (by simpa using hign)
      (by simp) (.inr rfl)
    rw [Transaction.settled_fix hf hslots, State.updPort_updPort, State.updPort_updPort] at hfixed
    exact (exec_fetchNotice rest hawake hign ht (.inl ho)).trans hfixed.symm

end Sys2Proof.Machine
end

section
/-! PROOFS. The events of a transaction (R158 to R161, R167, R171, R177). -/

namespace Sys2Proof.Machine

open Sys2Proof

-- One theorem at a time, as in the tests: proofs that wait for the kernel would each hold a thread.
set_option Elab.async false

/-! ### Status bytes (R160) -/

theorem PortEngine.status1_toNat {e : PortEngine} (hc : e.commands.length ≤ 4) (hr : e.responses.length ≤ 4) :
    e.status1.toNat = 16 * (4 - e.commands.length) + e.responses.length := by
  rw [PortEngine.status1, BitVec.toNat_ofNat]
  omega

/-- Five flags written into bits 7 to 3 of a byte. -/
theorem statusFlags_bits (a b c d e : Bool) :
    let x := bitByte a <<< 7 ||| bitByte b <<< 6 ||| bitByte c <<< 5 ||| bitByte d <<< 4 ||| bitByte e <<< 3
    x.getLsbD 7 = a ∧ x.getLsbD 6 = b ∧ x.getLsbD 5 = c ∧ x.getLsbD 4 = d ∧ x.getLsbD 3 = e ∧ x.toNat % 8 = 0 := by
  revert a b c d e
  decide

/-! ### A transaction that begins with a later event (log entry 19) -/

/-- A port with CSNx high whose transaction begins: the transaction that STATUS_CAPTURE records. -/
def PortEngine.opened (e : PortEngine) : Transaction := ⟨e.status1, e.status2, e.sticky, none, 0, none⟩

/-- The part with the transaction of a port begun. -/
def State.opened (s : State) (p : Port) : State :=
  s.updPort p fun e => { e with txn := some e.opened, ignoring := false }

theorem State.opened_port (s : State) (p : Port) :
    (s.opened p).port p = { s.port p with txn := some (s.port p).opened, ignoring := false } := by
  simp [State.opened]

/-- A change of the engine that does not look at its transaction finds the same before and after its start. -/
theorem State.opened_updPort {s : State} {p : Port} (hign : (s.port p).ignoring = false)
    {f : PortEngine → PortEngine} (hf : ∀ e x, f { e with txn := x } = f e) :
    (s.opened p).updPort p f = s.updPort p f := by
  have hport : { s.port p with txn := some (s.port p).opened, ignoring := false }
      = { s.port p with txn := some (s.port p).opened } := by rw [← hign]
  rw [State.opened, State.updPort_updPort]
  simp only [State.updPort, hport, hf]

theorem exec_statusCapture {s : State} {p : Port} (hlive : s.portLive p = true) :
    exec (.statusCapture p) s
      = .next (s.opened p) := by
  simp only [exec, execStatusCapture, hlive, if_true]
  rfl

theorem exec_statusCapture_ignored {s : State} {p : Port} (hlive : s.portLive p = false) :
    exec (.statusCapture p) s = .next (s.updPort p fun e => { e with txn := none, ignoring := true }) := by
  simp only [exec, execStatusCapture, hlive]
  rfl

theorem PortEngine.current_of_opened {e : PortEngine} (hp : e.presence.level = true) (hign : e.ignoring = false)
    (ht : e.txn = none) : e.current = some e.opened := by
  simp [PortEngine.current, ht, hp, hign, PortEngine.beginTransaction, PortEngine.opened]

/-- The rise of CSNx does the same with the transaction that it brings as with the one that was captured. -/
theorem State.rise_opened {s : State} {p : Port} {kind : TransactionKind} {bytes : List Byte}
    {act : State → Transaction → State} (hawake : s.Awake) (hp : (s.port p).presence.level = true)
    (hign : (s.port p).ignoring = false) (ht : (s.port p).txn = none) (hk : transactionKind bytes = kind)
    (hact : ∀ t, act (s.opened p) t = act s t) :
    s.rise p kind bytes act = (s.opened p).rise p kind bytes act := by
  rw [State.rise_live (s := s.opened p) (t := (s.port p).opened) (by simp [State.opened_port]) hawake.1
      (by simp [State.opened_port, PortEngine.current]) hk (by simp [Transaction.couldBe, PortEngine.opened]),
    State.rise_live hign hawake.1 (PortEngine.current_of_opened hp hign ht) hk
      (by simp [Transaction.couldBe, PortEngine.opened]), hact]

/-- A rise of another kind than its bytes select changes nothing (log entry 6). -/
theorem State.rise_other {s : State} {p : Port} {kind : TransactionKind} {bytes : List Byte}
    (hign : (s.port p).ignoring = false) (hk : transactionKind bytes ≠ kind) (act : State → Transaction → State) :
    s.rise p kind bytes act = s := by
  simp only [State.rise, hign, State.event, hk, false_and, if_false]
  cases (s.port p).current <;> simp

theorem transactionKind_iff (bytes : List Byte) :
    (transactionKind bytes = .command ↔ bytes.head? = some 0x3C)
      ∧ (transactionKind bytes = .fetch .responses ↔ bytes.head? = some 0xC3)
      ∧ (transactionKind bytes = .fetch .notices ↔ bytes.head? = some 0x5A)
      ∧ (transactionKind bytes = .fault
          ↔ bytes = [] ∨ ∃ b tl, bytes = b :: tl ∧ b ≠ 0x3C ∧ b ≠ 0xC3 ∧ b ≠ 0x5A) := by
  cases bytes with
  | nil => simp [transactionKind]
  | cons b tl =>
    have hfault : kindOfOpener b = .fault ↔ b ≠ 0x3C ∧ b ≠ 0xC3 ∧ b ≠ 0x5A := by
      unfold kindOfOpener
      split_ifs <;> simp_all [commandOpener, fetchOpener]
    obtain ⟨hcommand, hresponses, hnotices⟩ := kindOfOpener_eq b
    refine ⟨by simpa [transactionKind] using hcommand, by simpa [transactionKind] using hresponses,
      by simpa [transactionKind] using hnotices, ?_⟩
    simpa [transactionKind] using hfault

/-- The transaction whose frame FETCH_FRAME_FIXED fixes: the head of the named queue, or the marker (R167). -/
theorem Transaction.fix_eq (t : Transaction) (e : PortEngine) (q : FetchQueue) : t.fix e q
    = { t with
        opener := some (match q with | .responses => 0xC3 | .notices => 0x5A)
        bytes := 2
        fixed := some
          (match q, e.responses, e.notices with
          | .responses, r :: _, _ => .frame r.bytes
          | .notices, _, n :: _ => .frame n.bytes
          | .responses, [], _ | .notices, _, [] => .marker) } := by
  cases q with
  | responses => cases hr : e.responses <;> simp [Transaction.fix, PortEngine.ready, hr, fetchOpener]
  | notices => cases hn : e.notices <;> simp [Transaction.fix, PortEngine.ready, hn, fetchOpener]

/-- Settles O16: the branches of the events of a transaction. -/
theorem transactionEvents : Obligations.TransactionEvents := by
  intro p q t bytes rest ragged s faulty
  have hfaulty := (transactionKind_iff bytes).2.2.2
  refine ⟨fun hdead => ?_, fun h slot => ?_, fun hign i hi => ?_, fun hawake hp hc hr => ?_,
    fun hawake ht ho => ⟨?_, fun hp hign s' hs' => ?_, fun hign hf => ?_⟩,
    fun hawake hign => ⟨fun h => ?_, fun h => ?_, fun h => ?_, fun h => ?_⟩, fun i t0 hawake hp ht hign hi h0 => ?_⟩
  · refine exec_statusCapture_ignored ?_
    rcases hdead with h | h <;> simp [State.portLive, h]
  · rcases h with h | h | h | h <;> simp [State.sdoByte, h]
  · rcases hi with rfl | rfl | rfl | rfl <;> exact congrArg Host.Outcome.next (State.rise_ignoring hign ..)
  · have hlive : s.portLive p = true := by simp [State.portLive, hawake.1, hp]
    refine ⟨(s.port p).status1, (s.port p).status2, ?_, fun s' hs' => ?_, PortEngine.status1_toNat hc hr,
      statusFlags_bits ..⟩
    · rw [exec_statusCapture hlive]
      rfl
    · rw [exec_statusCapture hlive] at hs'
      cases hs'
      exact State.sdoByte_live (t := (s.port p).opened) hawake.1 (by rw [State.opened_port]; exact hp)
        (by rw [State.opened_port]) (by rw [State.opened_port])
  · rw [exec_fetchFrameFixed q hawake ht ho]
    simp only [Transaction.fix_eq] <;> rfl
  · rw [exec_fetchFrameFixed q hawake ht ho] at hs'
    cases hs'
    obtain ⟨h0, h1, hk⟩ := State.sdoByte_live
      (s := s.updPort p fun e => { e with txn := some (t.fix e q) }) (p := p) (t := t.fix (s.port p) q)
      (by simpa using hawake.1) (by simpa using hp) (by simpa using hign) (by simp)
    refine ⟨h0, h1, fun k => ?_⟩
    rw [hk, Transaction.fix_eq]
    cases q with
    | responses => cases (s.port p).responses <;> rfl
    | notices => cases (s.port p).notices <;> rfl
  · have hrise := State.rise_live (kind := .fault) hign hawake.1 (PortEngine.current_of_txn ht)
      (hfaulty.mpr hf) (by simp [Transaction.couldBe, ho])
    refine (congrArg Host.Outcome.next (hrise _)).trans (congrArg (fun e => Host.Outcome.next (s.setPort p e)) ?_)
    simp only [PortEngine.endTransaction, Transaction.clears]
    split <;> rfl
  · exact congrArg Host.Outcome.next (State.rise_other hign (mt (transactionKind_iff bytes).1.mp h) _)
  · exact congrArg Host.Outcome.next (State.rise_other hign (mt (transactionKind_iff bytes).2.1.mp h) _)
  · exact congrArg Host.Outcome.next (State.rise_other hign (mt (transactionKind_iff bytes).2.2.1.mp h) _)
  · exact congrArg Host.Outcome.next (State.rise_other hign (mt hfaulty.mp h) _)
  · have hlive : s.portLive p = true := by simp [State.portLive, hawake.1, hp]
    rw [exec_statusCapture hlive] at h0
    cases h0
    have hsettled : ∀ (t : Transaction) (q : FetchQueue) (k : Nat),
        t.settled ((s.opened p).port p) q k = t.settled (s.port p) q k := fun t q k => by
      rw [State.opened_port]
      rfl
    rcases hi with rfl | ⟨rfl, hf⟩ | rfl | rfl | rfl
    · have hfixed := exec_fetchFrameFixed (s := s.opened p) (t := (s.port p).opened) q hawake
        (by rw [State.opened_port]) rfl
      rw [State.opened_updPort hign fun e x => rfl] at hfixed
      rw [hfixed]
      simp [exec, execFetchFrameFixed, State.event_awake hawake.1, PortEngine.current_of_opened hp hign ht,
        PortEngine.opened]
    · refine congrArg Host.Outcome.next (State.rise_opened hawake hp hign ht (hfaulty.mpr hf) fun t => ?_)
      exact State.opened_updPort hign fun e x => rfl
    · refine congrArg Host.Outcome.next (State.rise_opened hawake hp hign ht ((kindOfOpener_eq _).2.1.mpr rfl)
        fun t => ?_)
      simp only [hsettled]
      rw [State.opened_updPort hign fun e x => rfl, State.opened_updPort hign fun e x => rfl]
    · refine congrArg Host.Outcome.next (State.rise_opened hawake hp hign ht ((kindOfOpener_eq _).2.2.mpr rfl)
        fun t => ?_)
      simp only [hsettled]
      rw [State.opened_updPort hign fun e x => ?_, State.opened_updPort hign fun e x => rfl]
      · rfl
      · rfl
    · refine congrArg Host.Outcome.next (State.rise_opened hawake hp hign ht ((kindOfOpener_eq _).1.mpr rfl)
        fun t => ?_)
      exact congrArg (State.takeWaiting · p) (State.opened_updPort hign fun e x => rfl)

end Sys2Proof.Machine
end

section
/-! PROOFS. The commands that wait at a port do not matter to a command that is taken, but for QUERY_PORT, which
answers how many there are (R164, R175). -/

namespace Sys2Proof.Machine

open Sys2Proof

-- One theorem at a time, as in the tests: proofs that wait for the kernel would each hold a thread.
set_option Elab.async false

/-! ### A latched trip -/

/-- The part with a leg just TRIPPED, before its report: a HOLDING one has left the holding-leg set of its mark
(R53, R112). -/
def State.legTripped (s : State) (n : Leg) (c : Cause) : State :=
  (if (s.leg n).phase.isHolding then s.unhold n else s).setLeg n
    ((s.leg n).trippedBy c s.carrier.period s.carrier.counter)

/-- The notice TRIPPED of a leg that trips (R115). -/
def LegUnit.tripNotice (u : LegUnit) (n : Leg) (c : Cause) (period : Half) : Notice :=
  ⟨.tripped c (count255 u.tripCount) u.queue.length, .leg n, u.phase.activeTag, period⟩

/-- A latched trip: the leg is TRIPPED and reports, and TRIPPED goes to the ports that hear it then. -/
theorem State.latchTrip_eq (s : State) (n : Leg) (c : Cause) : s.latchTrip n c
    = ((s.legTripped n c).legReport n).post (.resource (.leg n)) (((s.legTripped n c).legReport n).tripPorts n)
        ((s.leg n).tripNotice n c s.periodLow) := by
  unfold State.latchTrip State.legTripped
  cases h : (s.leg n).phase <;>
    simp [LegPhase.isHolding, State.changeLeg, State.updLeg, LegUnit.trippedBy, LegUnit.tripNotice, h]

/-! ### Other commands waiting -/

/-- The part with other commands waiting at a port. -/
def State.waiting (s : State) (p : Port) (fs : List Frame) : State := s.updPort p fun e => { e with commands := fs }

section
variable (s : State) (p : Port) (fs : List Frame)

theorem State.waiting_port (q : Port) : (s.waiting p fs).port q
    = if q = p then { s.port q with commands := fs } else s.port q := by
  simp only [State.waiting, State.updPort_port]

theorem State.waiting_presence (q : Port) : ((s.waiting p fs).port q).presence = (s.port q).presence := by
  rw [State.waiting_port]; split <;> rfl

theorem State.waiting_role (q : Port) : ((s.waiting p fs).port q).role = (s.port q).role := by
  rw [State.waiting_port]; split <;> rfl

theorem State.waiting_waiting (gs : List Frame) : (s.waiting p fs).waiting p gs = s.waiting p gs := by
  simp only [State.waiting, State.updPort_updPort]

/-! ### What the blocks' operations leave waiting -/

theorem State.waiting_post (src : Source) (ps : List Port) (n : Notice) :
    (s.waiting p fs).post src ps n = (s.post src ps n).waiting p fs := by
  simp only [State.post, State.waiting_presence]
  rfl

theorem State.waiting_tripPorts (n : Leg) : (s.waiting p fs).tripPorts n = s.tripPorts n := by
  simp only [State.tripPorts, State.waiting_role]
  rfl

theorem State.waiting_updLeg (n : Leg) (f : LegUnit → LegUnit) :
    (s.waiting p fs).updLeg n f = (s.updLeg n f).waiting p fs := rfl

theorem State.waiting_passOn (r : Resource) : (s.waiting p fs).passOn r = (s.passOn r).waiting p fs := by
  have hlease : (s.waiting p fs).lease r = s.lease r := rfl
  cases h : (s.lease r).waiters with
  | nil =>
    rw [State.passOn_nil _ _ (hlease ▸ h), State.passOn_nil _ _ h]
    rfl
  | cons w ws =>
    rw [State.passOn_cons _ _ w ws (hlease ▸ h), State.passOn_cons _ _ w ws h]
    exact State.waiting_post (s.updLease r fun l => Lease.grant { l with waiters := ws } w.port w.interval) ..

theorem State.waiting_legReport (n : Leg) : (s.waiting p fs).legReport n = (s.legReport n).waiting p fs := by
  have hlease : (s.waiting p fs).lease (.leg n) = s.lease (.leg n) := rfl
  by_cases h : (s.lease (.leg n)).phase = .releasing
  · rw [State.legReport_releasing _ _ (hlease ▸ h), State.legReport_releasing _ _ h, State.waiting_passOn]
  · rw [State.legReport_eq_self _ _ (hlease ▸ h), State.legReport_eq_self _ _ h]

theorem State.waiting_flushQueue (n : Leg) : (s.waiting p fs).flushQueue n = (s.flushQueue n).waiting p fs := by
  have hleg : (s.waiting p fs).leg n = s.leg n := rfl
  unfold State.flushQueue
  simp only [hleg]
  split <;> rfl

theorem State.waiting_planTaken (n : Leg) : (s.waiting p fs).planTaken n = (s.planTaken n).waiting p fs := by
  rw [← State.flushQueue_cutForLease, ← State.flushQueue_cutForLease, State.waiting_flushQueue, State.waiting_updLeg]

theorem State.waiting_flushAndCut (n : Leg) : (s.waiting p fs).flushAndCut n = (s.flushAndCut n).waiting p fs := by
  have hleg : (s.waiting p fs).leg n = s.leg n := rfl
  rw [State.flushAndCut_eq, State.flushAndCut_eq, hleg, State.waiting_planTaken]
  split
  · exact State.waiting_legReport ..
  · rfl

theorem State.waiting_endLease (r : Resource) : (s.waiting p fs).endLease r = (s.endLease r).waiting p fs := by
  cases r with
  | leg n => exact State.waiting_flushAndCut (s.updLease (.leg n) fun l => { l with phase := .releasing }) p fs n
  | carrier | chan c => exact State.waiting_passOn ..

theorem State.waiting_clearSeized (r : Resource) : (s.waiting p fs).clearSeized r = (s.clearSeized r).waiting p fs := by
  cases r with
  | leg n => exact State.waiting_flushAndCut ..
  | carrier | chan c => rfl

/-- The report of a leg that trips, and TRIPPED to the ports that it leaves to be told. -/
theorem State.waiting_tripTold (n : Leg) (x : Notice) :
    ((s.waiting p fs).legReport n).post (.resource (.leg n)) (((s.waiting p fs).legReport n).tripPorts n) x
      = ((s.legReport n).post (.resource (.leg n)) ((s.legReport n).tripPorts n) x).waiting p fs := by
  rw [State.waiting_legReport, State.waiting_tripPorts, State.waiting_post]

theorem State.waiting_latchTrip (n : Leg) (c : Cause) :
    (s.waiting p fs).latchTrip n c = (s.latchTrip n c).waiting p fs := by
  have htripped : (s.waiting p fs).legTripped n c = (s.legTripped n c).waiting p fs := by
    have hleg : (s.waiting p fs).leg n = s.leg n := rfl
    unfold State.legTripped
    rw [hleg]
    split <;> rfl
  rw [State.latchTrip_eq, State.latchTrip_eq, htripped, State.waiting_tripTold]
  rfl

theorem State.waiting_causeArises (n : Leg) (c : Cause) :
    (s.waiting p fs).causeArises n c = (s.causeArises n c).waiting p fs := by
  have hleg : (s.waiting p fs).leg n = s.leg n := rfl
  unfold State.causeArises
  rw [hleg]
  split
  · rfl
  all_goals exact State.waiting_latchTrip ..

theorem State.waiting_completeRearm (n : Leg) :
    (s.waiting p fs).completeRearm n = (s.completeRearm n).waiting p fs := by
  have hleg : (s.waiting p fs).leg n = s.leg n := rfl
  unfold State.completeRearm
  rw [hleg, State.waiting_tripPorts]
  split
  · exact State.waiting_post (s.changeLeg n LegUnit.toIdle) ..
  all_goals rfl

theorem State.waiting_completeIfPending (n : Leg) :
    (s.waiting p fs).completeIfPending n = (s.completeIfPending n).waiting p fs := by
  unfold State.completeIfPending
  rw [State.waiting_completeRearm]
  exact (apply_ite (State.waiting · p fs) ..).symm

end

theorem foldl_waiting {α : Type} {f : State → α → State} {p : Port} {fs : List Frame}
    (hf : ∀ s a, f (s.waiting p fs) a = (f s a).waiting p fs) (as : List α) (s : State) :
    as.foldl f (s.waiting p fs) = (as.foldl f s).waiting p fs := by
  induction as generalizing s with
  | nil => rfl
  | cons a as ih => rw [List.foldl_cons, hf, ih, List.foldl_cons]

theorem State.updPort_comm {s : State} {p q : Port} (h : p ≠ q) (f g : PortEngine → PortEngine) :
    (s.updPort p f).updPort q g = (s.updPort q g).updPort p f := by
  cases p <;> cases q <;> simp [State.updPort, State.setPort, State.port, PerPort.set, PerPort.get] at h ⊢

theorem PortEngine.receiveCopy_waiting (e : PortEngine) (n : Notice) (fs : List Frame) :
    PortEngine.receiveCopy { e with commands := fs } n = { e.receiveCopy n with commands := fs } := by
  unfold PortEngine.receiveCopy
  split_ifs <;> rfl

theorem State.waiting_admitCopy (s : State) (p : Port) (fs : List Frame) (o : Outgoing) :
    (s.waiting p fs).admitCopy o = (s.admitCopy o).waiting p fs := by
  unfold State.admitCopy State.waiting
  by_cases h : o.port = p
  · simp only [h, State.updPort_updPort, PortEngine.receiveCopy_waiting]
  · exact State.updPort_comm (Ne.symm h) ..

theorem State.waiting_deliver (s : State) (p : Port) (fs : List Frame) :
    (s.waiting p fs).deliver = s.deliver.waiting p fs :=
  foldl_waiting (fun s o => s.waiting_admitCopy p fs o) (interleave s.choices s.outbox.length s.outbox)
    ((s.setOutbox []).setChoices (s.choices + s.outbox.length))

/-! ### What the commands leave waiting -/

/-- An answer with other commands waiting behind it. -/
def Answer.waiting (a : Answer) (p : Port) (fs : List Frame) : Answer := ⟨a.state.waiting p fs, a.result, a.data⟩

theorem respond_waiting (q : Port) (f : Frame) (a : Answer) (p : Port) (fs : List Frame) :
    respond q f (a.waiting p fs) = (respond q f a).waiting p fs := by
  simp only [respond, Answer.waiting, State.waiting_deliver]
  by_cases h : q = p
  · simp only [h, State.waiting, State.updPort_updPort]
  · exact State.updPort_comm (Ne.symm h) ..

section
variable (s : State) (p : Port) (fs : List Frame)

theorem onLeg_waiting (b : Byte) (q : Port) (g : Half) {act act' : Leg → Answer}
    (h : ∀ n, act' n = (act n).waiting p fs) :
    (s.waiting p fs).onLeg b q g act' = (s.onLeg b q g act).waiting p fs := by
  have hfence : ∀ r, (s.waiting p fs).fence r q g = s.fence r q g := fun r => rfl
  unfold State.onLeg
  simp only [hfence, h]
  split
  · rfl
  · split <;> rfl

theorem onCarrier_waiting (q : Port) (g : Half) {act act' : Answer} (h : act' = act.waiting p fs) :
    (s.waiting p fs).onCarrier q g act' = (s.onCarrier q g act).waiting p fs := by
  have hfence : ∀ r, (s.waiting p fs).fence r q g = s.fence r q g := fun r => rfl
  unfold State.onCarrier
  simp only [hfence, h]
  split <;> rfl

theorem onChan_waiting (c : Chan) (q : Port) (g : Half) {act act' : Answer} (h : act' = act.waiting p fs) :
    (s.waiting p fs).onChan c q g act' = (s.onChan c q g act).waiting p fs := by
  have hfence : ∀ r, (s.waiting p fs).fence r q g = s.fence r q g := fun r => rfl
  unfold State.onChan
  simp only [hfence, h]
  split <;> rfl

theorem joinWaiters_waiting (r : Resource) (q : Port) (n : Nat) :
    (s.waiting p fs).joinWaiters r q n = (s.joinWaiters r q n).waiting p fs := by
  have hlease : (s.waiting p fs).lease r = s.lease r := rfl
  unfold State.joinWaiters
  rw [hlease]
  dsimp only
  split
  · rfl
  · split <;> rfl

theorem afterCheck_waiting (n : Leg) (q : Port) (g : Half) (seg : Segment) :
    (s.waiting p fs).afterCheck n q g seg = (s.afterCheck n q g seg).waiting p fs := by
  have hfence : ∀ r, (s.waiting p fs).fence r q g = s.fence r q g := fun r => rfl
  have hlegs : ∀ f, (s.waiting p fs).unheldLegs q f = s.unheldLegs q f := fun f => rfl
  unfold State.afterCheck
  simp only [hfence, hlegs]
  split
  · split <;> rfl
  · rfl
  · rfl

theorem doClaim_waiting (q : Port) (b : Byte) (i : Half) (w : Byte) :
    doClaim q b i w (s.waiting p fs) = (doClaim q b i w s).waiting p fs := by
  have hlease : ∀ r, (s.waiting p fs).lease r = s.lease r := fun r => rfl
  unfold doClaim
  simp only [hlease, joinWaiters_waiting]
  split
  · split
    · rfl
    · split
      · rfl
      · split <;> rfl
    · split <;> rfl
  · rfl

theorem doRelease_waiting (q : Port) (b : Byte) (g : Half) :
    doRelease q b g (s.waiting p fs) = (doRelease q b g s).waiting p fs := by
  have hfence : ∀ r, (s.waiting p fs).fence r q g = s.fence r q g := fun r => rfl
  unfold doRelease
  simp only [hfence, State.waiting_endLease]
  split
  · rfl
  · split <;> rfl

theorem doRenew_waiting (q : Port) (b : Byte) (g : Half) :
    doRenew q b g (s.waiting p fs) = (doRenew q b g s).waiting p fs := by
  have hfence : ∀ r, (s.waiting p fs).fence r q g = s.fence r q g := fun r => rfl
  unfold doRenew
  simp only [hfence]
  split
  · rfl
  · split <;> rfl

theorem doRenewAll_waiting (q : Port) : doRenewAll q (s.waiting p fs) = (doRenewAll q s).waiting p fs := by
  have hheld : (s.waiting p fs).heldBy q = s.heldBy q := rfl
  unfold doRenewAll
  dsimp only
  rw [hheld, foldl_waiting (f := fun s r => s.updLease r Lease.renew) fun s r => rfl]
  rfl

theorem doSeize_waiting (q : Port) (b : Byte) (i : Half) :
    doSeize q b i (s.waiting p fs) = (doSeize q b i s).waiting p fs := by
  have hlease : ∀ r, (s.waiting p fs).lease r = s.lease r := fun r => rfl
  have hgrant : ∀ r n, ((s.waiting p fs).grantTo r q n).clearSeized r
      = ((s.grantTo r q n).clearSeized r).waiting p fs := fun r n => (s.grantTo r q n).waiting_clearSeized p fs r
  unfold doSeize
  simp only [hlease, State.waiting_role, hgrant, State.waiting_post]
  split
  · split
    · rfl
    · split
      · rfl
      · rfl
      · split
        · rfl
        · split <;> rfl
  · rfl

theorem doCancelWait_waiting (q : Port) (b : Byte) :
    doCancelWait q b (s.waiting p fs) = (doCancelWait q b s).waiting p fs := by
  have hlease : ∀ r, (s.waiting p fs).lease r = s.lease r := fun r => rfl
  unfold doCancelWait
  simp only [hlease]
  split
  · rfl
  · split <;> rfl

theorem doAppend_waiting (q : Port) (b : Byte) (g : Half) (bytes : List Byte) :
    doAppend q b g bytes (s.waiting p fs) = (doAppend q b g bytes s).waiting p fs := by
  have hleg : ∀ n, (s.waiting p fs).leg n = s.leg n := fun n => rfl
  have hcheck : ∀ n seg, (s.waiting p fs).checkSegment n q g seg = s.checkSegment n q g seg := fun n seg => rfl
  unfold doAppend
  simp only [hleg, hcheck, afterCheck_waiting]
  split
  · rfl
  · split
    · rfl
    · split
      · rfl
      · split <;> rfl

theorem doReplace_waiting (q : Port) (b : Byte) (g : Half) (o : Byte) (bytes : List Byte) :
    doReplace q b g o bytes (s.waiting p fs) = (doReplace q b g o bytes s).waiting p fs := by
  have hleg : ∀ n, (s.waiting p fs).leg n = s.leg n := fun n => rfl
  have hcheck : ∀ n seg, (s.waiting p fs).checkSegment n q g seg = s.checkSegment n q g seg := fun n seg => rfl
  unfold doReplace
  simp only [hleg, hcheck, afterCheck_waiting, State.waiting_flushQueue, State.waiting_updLeg]
  split
  · split
    · rfl
    · split
      · rfl
      · split <;> rfl
  · rfl

theorem doFlush_waiting (q : Port) (b : Byte) (g : Half) :
    doFlush q b g (s.waiting p fs) = (doFlush q b g s).waiting p fs :=
  onLeg_waiting s p fs b q g fun n => by rw [State.waiting_flushQueue]; rfl

theorem doCut_waiting (q : Port) (b : Byte) (g : Half) :
    doCut q b g (s.waiting p fs) = (doCut q b g s).waiting p fs := by
  have hleg : ∀ n, (s.waiting p fs).leg n = s.leg n := fun n => rfl
  refine onLeg_waiting s p fs b q g fun n => ?_
  rw [hleg]
  cases (s.leg n).phase <;> rfl

theorem doSetLeg_waiting (q : Port) (b : Byte) (g : Half) (d pat e : Byte) :
    doSetLeg q b g d pat e (s.waiting p fs) = (doSetLeg q b g d pat e s).waiting p fs := by
  have hleg : ∀ n, (s.waiting p fs).leg n = s.leg n := fun n => rfl
  have htrip : (s.waiting p fs).trip = s.trip := rfl
  unfold doSetLeg
  split
  · rfl
  · next cfg _ =>
    refine onLeg_waiting s p fs b q g fun n => ?_
    have hchange : ((s.waiting p fs).changeLeg n fun u => { u with config := cfg })
        = (s.changeLeg n fun u => { u with config := cfg }).waiting p fs := rfl
    simp only [hleg, htrip, hchange, State.waiting_causeArises]
    split
    · rfl
    · split <;> rfl

theorem doRearm_waiting (q : Port) (b : Byte) (g : Half) :
    doRearm q b g (s.waiting p fs) = (doRearm q b g s).waiting p fs := by
  have hleg : ∀ n, (s.waiting p fs).leg n = s.leg n := fun n => rfl
  have hblocking : ∀ n, (s.waiting p fs).blocking n = s.blocking n := fun n => rfl
  have hcarrier : (s.waiting p fs).carrier = s.carrier := rfl
  refine onLeg_waiting s p fs b q g fun n => ?_
  simp only [hleg, hblocking, hcarrier, State.waiting_completeRearm]
  split
  · rfl
  · split
    · rfl
    · split <;> rfl

theorem doSetPeriod_waiting (q : Port) (g v : Half) :
    doSetPeriod q g v (s.waiting p fs) = (doSetPeriod q g v s).waiting p fs := by
  unfold doSetPeriod
  split
  · rfl
  · exact onCarrier_waiting s p fs q g rfl

theorem doSetCarrier_waiting (q : Port) (g : Half) (m e : Byte) :
    doSetCarrier q g m e (s.waiting p fs) = (doSetCarrier q g m e s).waiting p fs := by
  have hdriving : (s.waiting p fs).anyDriving = s.anyDriving := rfl
  unfold doSetCarrier
  split
  · refine onCarrier_waiting s p fs q g ?_
    rw [hdriving]
    split <;> rfl
  · rfl

theorem doStart_waiting (q : Port) (g : Half) : doStart q g (s.waiting p fs) = (doStart q g s).waiting p fs := by
  have hcarrier : (s.waiting p fs).carrier = s.carrier := rfl
  refine onCarrier_waiting s p fs q g ?_
  rw [hcarrier]
  cases s.carrier.run <;> rfl

theorem doStop_waiting (q : Port) (g : Half) : doStop q g (s.waiting p fs) = (doStop q g s).waiting p fs := by
  have hcarrier : (s.waiting p fs).carrier = s.carrier := rfl
  have hdriving : (s.waiting p fs).anyDriving = s.anyDriving := rfl
  have hset : ∀ t, (s.waiting p fs).setCarrier t = (s.setCarrier t).waiting p fs := fun t => rfl
  refine onCarrier_waiting s p fs q g ?_
  simp only [hcarrier, hdriving, hset, foldl_waiting fun (s : State) n => s.waiting_completeIfPending p fs n]
  cases s.carrier.run with
  | stopped => rfl
  | running => dsimp only; split <;> rfl

theorem doSetSyncLimit_waiting (q : Port) (g v : Half) :
    doSetSyncLimit q g v (s.waiting p fs) = (doSetSyncLimit q g v s).waiting p fs := by
  unfold doSetSyncLimit
  split
  · rfl
  · exact onCarrier_waiting s p fs q g rfl

theorem doSetChannel_waiting (q : Port) (b : Byte) (g : Half) (m fl : Byte) (v : Half) (ie e : Byte) :
    doSetChannel q b g m fl v ie e (s.waiting p fs) = (doSetChannel q b g m fl v ie e s).waiting p fs := by
  unfold doSetChannel
  split
  · exact onChan_waiting s p fs _ q g rfl
  · rfl

theorem doSetPosition_waiting (q : Port) (b : Byte) (g v : Half) :
    doSetPosition q b g v (s.waiting p fs) = (doSetPosition q b g v s).waiting p fs := by
  have hchan : ∀ c, (s.waiting p fs).chan c = s.chan c := fun c => rfl
  unfold doSetPosition
  simp only [hchan]
  split
  · rfl
  · split
    · exact onChan_waiting s p fs _ q g rfl
    · rfl

theorem doSubscribe_waiting (q : Port) (b k : Byte) :
    doSubscribe q b k (s.waiting p fs) = (doSubscribe q b k s).waiting p fs := by
  unfold doSubscribe
  split <;> rfl

theorem doSetNoticeMask_waiting (q : Port) (k : Byte) :
    doSetNoticeMask q k (s.waiting p fs) = (doSetNoticeMask q k s).waiting p fs := by
  have hmask : ((s.waiting p fs).port q).mask = (s.port q).mask := by
    rw [State.waiting_port]; split <;> rfl
  unfold doSetNoticeMask
  rw [hmask]
  split
  · rfl
  · next m _ =>
    by_cases h : q = p
    · simp only [h, Answer.waiting, State.waiting, State.updPort_updPort]
    · simp only [Answer.waiting, State.waiting, State.updPort_comm (Ne.symm h)]

/-- Every command but QUERY_PORT does the same whatever commands wait behind it. -/
theorem answer_waiting {i : Instr} (hi : ∀ q n, i ≠ .queryPort q n) :
    answer i (s.waiting p fs) = (answer i s).waiting p fs := by
  cases i
  case queryPort q n => exact absurd rfl (hi q n)
  case setNoticeMask => exact doSetNoticeMask_waiting ..
  case claim => exact doClaim_waiting ..
  case release => exact doRelease_waiting ..
  case renew => exact doRenew_waiting ..
  case renewAll => exact doRenewAll_waiting ..
  case seize => exact doSeize_waiting ..
  case cancelWait => exact doCancelWait_waiting ..
  case append => exact doAppend_waiting ..
  case replace => exact doReplace_waiting ..
  case flush => exact doFlush_waiting ..
  case cut => exact doCut_waiting ..
  case setLeg => exact doSetLeg_waiting ..
  case rearm => exact doRearm_waiting ..
  case setPeriod => exact doSetPeriod_waiting ..
  case setCarrier => exact doSetCarrier_waiting ..
  case start => exact doStart_waiting ..
  case stop => exact doStop_waiting ..
  case setSyncLimit => exact doSetSyncLimit_waiting ..
  case setChannel => exact doSetChannel_waiting ..
  case setPosition => exact doSetPosition_waiting ..
  case subscribe => exact doSubscribe_waiting ..
  case queryLease q n b => simp only [answer, doQueryLease]; split <;> rfl
  case queryLeg q n b => simp only [answer, doQueryLeg]; split <;> rfl
  case queryOutput q n b => simp only [answer, doQueryOutput]; split <;> rfl
  case queryChannel q n b => simp only [answer, doQueryChannel]; split <;> rfl
  all_goals rfl

end

/-- QUERY_PORT answers ten bytes, the number of commands that wait behind it, and six more (R175). -/
theorem doQueryPort_waiting (s : State) (p : Port) : ∃ front back : List Byte, front.length = 10 ∧ back.length = 6
    ∧ ∀ fs, doQueryPort p (s.waiting p fs)
        = ⟨s.waiting p fs, .ok, front ++ [BitVec.ofNat 8 fs.length] ++ back⟩ := by
  refine ⟨item1 p.number ++ (s.port .a).roleBytes ++ (s.port .b).roleBytes ++ (s.port .c).roleBytes
      ++ [(s.port p).mask.mask] ++ item1 (s.port p).notices.length ++ item1 (s.port p).lost,
    be32 s.leaseClock.number ++ item2 s.leaseClock.divider.toTick, rfl, rfl, fun fs => ?_⟩
  have hroles : ∀ q, ((s.waiting p fs).port q).roleBytes = (s.port q).roleBytes := fun q => by
    rw [State.waiting_port]; split <;> rfl
  have hport : (s.waiting p fs).port p = { s.port p with commands := fs } := by
    rw [State.waiting_port, if_pos rfl]
  simp only [doQueryPort, hroles, hport, List.append_assoc]
  rfl

/-- Settles O18: the first waiting command is answered, as at a port where nothing else waits. -/
theorem fetchLetsWaitingCommandBeTaken : Obligations.FetchLetsWaitingCommandBeTaken := by
  intro p t sent bytes f rest s hawake hp hign ht ho hf hsent hfull hcommands waiting fetched
  have hslots : 2 ≤ 1 + sent.length := by omega
  have hfetched : s.updPort p (fun e => (e.endTransaction t (1 + sent.length)).removeResponse) = fetched := by
    simp only [PortEngine.endTransaction, Transaction.clears, if_pos hslots]
    rfl
  have hcommands' : (fetched.port p).commands = f :: rest := by simp [fetched, hcommands]
  have hroom : (fetched.port p).responses.length = 3 := by simp [fetched, hfull]
  have htaken : exec (.fetchResponse p (0xC3 :: sent)) s
      = .next (respond p f (answerFrame p f (fetched.waiting p rest))) := by
    rw [exec_fetchResponse sent hawake hign ht (.inr ho), Transaction.settled_sentWhole hf,
      if_pos (by simpa using hsent), hfetched, State.takeWaiting_one hcommands' (by omega) (fun _ => hroom)]
    rfl
  have hready : (fetched.waiting p []).Ready p := by
    refine ⟨hawake.1, ?_, ?_, ?_, hawake.2⟩ <;> rw [State.waiting_port, if_pos rfl]
    · simpa [fetched] using hp
    · show (fetched.port p).responses.length < 4
      omega
  have hemptied : fetched.waiting p rest = (fetched.waiting p []).waiting p rest := by
    rw [State.waiting_waiting]
  refine ⟨fun i hi hother => ?_, fun seq hi => ?_, fun hi => ?_⟩
  · have hframe := encodeFrame_of_decodeFrame hi
    have hnotQuery : ∀ q n, i ≠ .queryPort q n := by
      rintro q n rfl
      cases hframe
      exact hother _ rfl
    have ha : answerFrame p f ((fetched.waiting p []).waiting p rest)
        = (answer i (fetched.waiting p [])).waiting p rest := by
      simp only [answerFrame, hi, answer_waiting _ p rest hnotQuery]
    refine ⟨_, (exec_command hframe (fun q n c args h => decodeFrame_unknown (h ▸ hi)) _).trans
      (congrArg Host.Outcome.next (State.submit_ready hready hframe _)), ?_⟩
    rw [htaken, hemptied, ha, respond_waiting]
    rfl
  · obtain ⟨front, back, hfront, hback, hquery⟩ := doQueryPort_waiting fetched p
    have hframe := encodeFrame_of_decodeFrame hi
    obtain ⟨hcode, hseq⟩ : f.code = 0x02 ∧ f.seq = seq := by
      cases hframe; exact ⟨rfl, rfl⟩
    refine ⟨front, back, ?_, hfront, hback, ?_⟩
    · exact exec_answered (i := .queryPort p seq) hready rfl nofun (hquery []) hawake.2
    · have ha : answerFrame p f (fetched.waiting p rest)
          = ⟨fetched.waiting p rest, .ok, front ++ [BitVec.ofNat 8 rest.length] ++ back⟩ := by
        simp only [answerFrame, hi]
        exact hquery rest
      rw [htaken, ha, respond_quiet _ _ _ hawake.2, hcode, hseq]
      rfl
  · have ha : answerFrame p f (fetched.waiting p rest) = (fetched.waiting p rest).refuse .badArg [] := by
      simp only [answerFrame, hi]
    rw [htaken, ha, respond_quiet _ _ _ hawake.2]
    rfl

end Sys2Proof.Machine
end

section
/-! PROOFS. The commands of the Lease Table (chapters 5 and 6). -/

namespace Sys2Proof.Machine

open Sys2Proof

-- One theorem at a time, as in the tests: proofs that wait for the kernel would each hold a thread.
set_option Elab.async false

/-! ### Operands in their ranges -/

theorem flagOf_zero : flagOf 0 = some false := by decide

theorem flagOf_one : flagOf 1 = some true := by decide

theorem flagOf_of_le {b : Byte} (h : b.toNat ≤ 1) : ∃ x, flagOf b = some x ∧ (x = true ↔ b = 1) := by
  have hcases : b = 0 ∨ b = 1 := by
    rcases Nat.le_one_iff_eq_zero_or_eq_one.mp h with h | h
    · exact .inl (BitVec.eq_of_toNat_eq h)
    · exact .inr (BitVec.eq_of_toNat_eq h)
  rcases hcases with rfl | rfl
  · exact ⟨false, flagOf_zero, by decide⟩
  · exact ⟨true, flagOf_one, by decide⟩

/-! ### CLAIM (R81 to R83) -/

theorem State.updLease_eq {s : State} {r : Resource} (f : Lease → Lease) : s.updLease r f = s.setLease r (f (s.lease r)) :=
  rfl

theorem waiterPosition_none {p : Port} {ws : List Waiter} (h : ∀ x ∈ ws, x.port ≠ p) : waiterPosition p ws = none := by
  induction ws with
  | nil => rfl
  | cons w ws ih =>
    have hw := h w (by simp)
    simp [waiterPosition, hw, ih fun x hx => h x (by simp [hx])]

theorem waiterPosition_append {p : Port} {front back : List Waiter} {x : Waiter} (hx : x.port = p)
    (hfront : ∀ y ∈ front, y.port ≠ p) : waiterPosition p (front ++ x :: back) = some (front.length + 1) := by
  induction front with
  | nil => simp [waiterPosition, hx]
  | cons w front ih =>
    have hw := hfront w (by simp)
    simp [waiterPosition, hw, ih fun y hy => hfront y (by simp [hy])]

/-- A CLAIM with the wait flag replaces the interval of the port's own entry (R82). -/
theorem map_own_interval {p : Port} {front back : List Waiter} {x : Waiter} (hx : x.port = p)
    (hfront : ∀ y ∈ front, y.port ≠ p) (hback : ∀ y ∈ back, y.port ≠ p) (n : Nat) :
    (front ++ x :: back).map (fun w => if w.port = p then ⟨p, n⟩ else w) = front ++ ⟨p, n⟩ :: back := by
  have hkeep : ∀ ws : List Waiter, (∀ y ∈ ws, y.port ≠ p) →
      ws.map (fun w => if w.port = p then (⟨p, n⟩ : Waiter) else w) = ws := fun ws hws => by
    conv_rhs => rw [← List.map_id ws]
    exact List.map_congr_left fun y hy => if_neg (hws y hy)
  rw [List.map_append, List.map_cons, hkeep _ hfront, hkeep _ hback, if_pos hx]

/-- A CLAIM with the wait flag of a port that does not hold the resource joins its waiters, or is refused. -/
theorem doClaim_waits {s : State} {p : Port} {b w : Byte} {i : Half} {r : Resource} (hr : resourceOf b = some r)
    (hi : intervalOf i = some i.toNat) (hw : w = 1) (hfree : (s.lease r).phase ≠ .free)
    (hother : (s.lease r).holder? ≠ some p) : doClaim p b i w s = s.joinWaiters r p i.toNat := by
  subst hw
  simp only [doClaim, hr, hi, flagOf_one]
  cases hp : (s.lease r).phase with
  | free => exact absurd hp hfree
  | held q n k low =>
    have hq : q ≠ p := by simpa [Lease.holder?, hp] using hother
    simp [hq]
  | releasing => simp

/-- Settles O25: each clause is one branch of CLAIM. -/
theorem claimAnswered : Obligations.ClaimAnswered := by
  intro p seq b w i r s hready hr hlow hhigh hw l done
  have hi := intervalOf_inRange hlow hhigh
  obtain ⟨wait, hwait, -⟩ := flagOf_of_le hw
  have hdone : ∀ {a : Answer}, doClaim p b i w s = a → a.state.Quiet → done a.state a.result a.data :=
    fun ha hq => exec_answered (i := .claim p seq b i w) hready rfl nofun ha hq
  have hquiet : s.Quiet := hready.2.2.2.2
  refine ⟨fun hfree => ?_, fun n k low hheld => ?_, fun q n k low hheld hq hw0 => ?_, fun hrel hw0 => ?_,
    fun hfree hother hw1 => ⟨fun hnone hroom => ?_, fun hnone hfull => ?_, fun front x back hws hx hf hb => ?_⟩⟩
  · have ha : doClaim p b i w s = ⟨s.grantTo r p i.toNat, .ok, be16 (nextGen l.gen) ++ item2 i.toNat⟩ := by
      simp only [doClaim, hr, hi, hwait, hfree, l]
    rw [item2_toNat] at ha
    exact hdone ha hquiet
  · have ha : doClaim p b i w s = s.refuse .alreadyHeld (be16 l.gen ++ item2 k) := by
      simp only [doClaim, hr, hi, hwait, hheld, l, if_true]
    exact hdone ha hquiet
  · subst hw0
    have ha : doClaim p b i 0 s = s.refuse .held (item1 q.number ++ item1 l.waiters.length) := by
      simp only [doClaim, hr, hi, flagOf_zero, hheld, l, if_neg hq, Bool.false_eq_true, if_false]
    exact hdone ha hquiet
  · subst hw0
    have ha : doClaim p b i 0 s = s.refuse .held (item1 (portCode none) ++ item1 l.waiters.length) := by
      simp only [doClaim, hr, hi, flagOf_zero, hrel, l, Bool.false_eq_true, if_false]
    exact hdone ha hquiet
  · have ha := doClaim_waits hr hi hw1 hfree hother
    have hposition : waiterPosition p (s.lease r).waiters = none := waiterPosition_none hnone
    have hlength : (s.lease r).waiters.length < 2 := hroom
    simp only [State.joinWaiters, hposition, if_pos hlength] at ha
    exact hdone ha hquiet
  · have ha := doClaim_waits hr hi hw1 hfree hother
    have hposition : waiterPosition p (s.lease r).waiters = none := waiterPosition_none hnone
    have hlength : ¬ (s.lease r).waiters.length < 2 := Nat.not_lt.mpr hfull
    simp only [State.joinWaiters, hposition, if_neg hlength] at ha
    exact hdone ha hquiet
  · have ha := doClaim_waits hr hi hw1 hfree hother
    have hws' : (s.lease r).waiters = front ++ x :: back := hws
    simp only [State.joinWaiters, State.updLease_eq, hws', waiterPosition_append hx hf,
      map_own_interval hx hf hb] at ha
    exact hdone ha hquiet

/-! ### RENEW, RENEW_ALL and CANCEL_WAIT (R85, R90, R91) -/

theorem Lease.renew_held {l : Lease} {p : Port} {n k : Nat} {low : Bool} (h : l.phase = .held p n k low) :
    l.renew = { l with phase := .held p n n false } ∧ l.interval = n := by
  simp [Lease.renew, Lease.interval, h]

theorem Lease.renew_renew (l : Lease) : l.renew.renew = l.renew := by
  unfold Lease.renew
  cases h : l.phase <;> simp [h]

/-- A renewal of several leases changes the lease records alone, each of them once. -/
theorem foldl_renew (rs : List Resource) (s : State) :
    ∃ leases, rs.foldl (fun s r => s.updLease r Lease.renew) s = { s with leases := leases }
      ∧ ∀ q, leases.get q = if q ∈ rs then (s.lease q).renew else s.lease q := by
  induction rs generalizing s with
  | nil => exact ⟨s.leases, rfl, fun q => by simp [State.lease]⟩
  | cons r rs ih =>
    obtain ⟨leases, heq, hget⟩ := ih (s.updLease r Lease.renew)
    refine ⟨leases, heq, fun q => ?_⟩
    rw [hget]
    by_cases hq : q = r
    · subst hq
      by_cases hmem : q ∈ rs <;> simp [hmem, Lease.renew_renew]
    · simp [hq]

theorem Resource.number_lt (r : Resource) : r.number < 7 := by
  rcases r with n | _ | c
  · cases n <;> decide
  · decide
  · cases c <;> decide

theorem Resource.number_inj {q r : Resource} (h : q.number = r.number) : q = r := by
  have hget : ∀ r : Resource, Resource.all[r.number]? = some r := by
    rintro (n | _ | c)
    · cases n <;> rfl
    · rfl
    · cases c <;> rfl
  exact Option.some.inj ((hget q).symm.trans (h ▸ hget r))

theorem foldl_mask (rs : List Resource) (b : Byte) {k : Nat} (hk : k < 8) :
    (rs.foldl (fun b r => b ||| (1 : Byte) <<< r.number) b).getLsbD k
      = (b.getLsbD k || rs.any fun r => r.number == k) := by
  induction rs generalizing b with
  | nil => simp
  | cons r rs ih =>
    have hbit : ((1 : Byte) <<< r.number).getLsbD k = (r.number == k) := by
      have hr := Resource.number_lt r
      generalize r.number = m at hr
      interval_cases m <;> interval_cases k <;> rfl
    rw [List.foldl_cons, ih, BitVec.getLsbD_or, hbit, List.any_cons, Bool.or_assoc]

/-- The byte of a set of resources: bit n for resource code n, and no other (R166). -/
theorem resourceMask_filter (f : Resource → Bool) :
    (∀ q : Resource, (resourceMask (Resource.all.filter f)).getLsbD q.number = f q)
      ∧ (resourceMask (Resource.all.filter f)).toNat < 128 := by
  have hbit : ∀ k < 8, (resourceMask (Resource.all.filter f)).getLsbD k
      = (Resource.all.filter f).any fun r => r.number == k := fun k hk => by
    rw [resourceMask, foldl_mask _ _ hk]
    simp
  refine ⟨fun q => ?_, ?_⟩
  · rw [hbit _ (by have := Resource.number_lt q; omega), Bool.eq_iff_iff]
    simp only [List.any_eq_true, List.mem_filter, beq_iff_eq]
    exact ⟨fun ⟨r, hr, hn⟩ => Resource.number_inj hn ▸ hr.2, fun hq => ⟨q, ⟨resource_mem_all q, hq⟩, rfl⟩⟩
  · have htop : (resourceMask (Resource.all.filter f)).getLsbD 7 = false := by
      rw [hbit 7 (by decide)]
      simp only [List.any_eq_false, beq_iff_eq]
      intro r _ hr
      have := Resource.number_lt r
      omega
    have hmsb : (resourceMask (Resource.all.filter f)).msb = false := by rw [BitVec.msb_eq_getLsbD_last]; exact htop
    have := BitVec.msb_eq_false_iff_two_mul_lt.mp hmsb
    omega

theorem waiterPosition_some {p : Port} {ws : List Waiter} (h : ∃ w ∈ ws, w.port = p) :
    ∃ k, waiterPosition p ws = some k := by
  induction ws with
  | nil => simp at h
  | cons w ws ih =>
    by_cases hw : w.port = p
    · exact ⟨1, by simp [waiterPosition, hw]⟩
    · obtain ⟨k, hk⟩ := ih (by simpa [hw] using h)
      exact ⟨k + 1, by simp [waiterPosition, hw, hk]⟩

/-- Settles O26: a renewal of one lease, of all that the port holds, and the waiter entry of the port. -/
theorem renewAndCancelWait : Obligations.RenewAndCancelWait := by
  intro p seq b g r s hready hr
  have hquiet : s.Quiet := hready.2.2.2.2
  refine ⟨fun n k low hholds hheld => ?_, ?_, fun hnone => ?_, fun hsome => ?_⟩
  · obtain ⟨hrenew, hinterval⟩ := Lease.renew_held hheld
    have ha : doRenew p b g s = ⟨s.setLease r { s.lease r with phase := .held p n n false }, .ok, item2 n⟩ := by
      simp only [doRenew, hr, (s.fence_eq_none r p g).mpr hholds, State.updLease_eq, hrenew, hinterval]
    exact exec_answered (i := .renew p seq b g) hready rfl nofun ha hquiet
  · obtain ⟨leases, heq, hget⟩ := foldl_renew (s.heldBy p) s
    obtain ⟨hbits, hlt⟩ := resourceMask_filter fun q => (s.lease q).holder? == some p
    have ha : doRenewAll p s = ⟨{ s with leases := leases }, .ok,
        item1 (s.heldBy p).length ++ [resourceMask (s.heldBy p)]⟩ := by
      simp only [doRenewAll, heq]
    refine ⟨leases, resourceMask (s.heldBy p), exec_answered (i := .renewAll p seq) hready rfl nofun ha hquiet,
      hbits, hlt, fun q => ?_⟩
    have hmem : q ∈ s.heldBy p ↔ (s.lease q).holder? = some p := by simp [State.heldBy, resource_mem_all]
    simp only [hget, hmem]
    cases hphase : (s.lease q).phase with
    | held h n k low =>
      by_cases hhp : h = p
      · subst hhp
        simp [Lease.holder?, hphase, Lease.renew]
      · have hsame : s.lease q = { s.lease q with phase := .held h n k low } := by rw [← hphase]
        rw [if_neg (by simp [Lease.holder?, hphase, hhp])]
        exact hsame.trans (if_neg hhp).symm
    | free => simp [Lease.holder?, hphase]
    | releasing => simp [Lease.holder?, hphase]
  · have ha : doCancelWait p b s = s.refuse .notWaiting [] := by
      simp only [doCancelWait, hr, waiterPosition_none hnone]
    exact exec_refused (i := .cancelWait p seq b) hready rfl nofun ha
  · obtain ⟨k, hk⟩ := waiterPosition_some hsome
    have ha : doCancelWait p b s = ⟨s.updLease r fun l => l.dropWaiter p, .ok, []⟩ := by
      simp only [doCancelWait, hr, hk]
    exact exec_answered (i := .cancelWait p seq b) hready rfl nofun ha hquiet

/-! ### RELEASE and SEIZE (R95, R96, R104 to R107) -/

/-- A command that tells one port, at a ready port: that port decides on its copy before the answer joins. -/
theorem exec_told {i : Instr} {p q : Port} {f : Frame} {s t : State} {src : Source} {n : Notice} {result : Result}
    {data : List Byte} (hready : s.Ready p) (hf : encodeFrame i = some (p, f))
    (hcode : ∀ q n c args, i = .unknown q n c args → opcodeOf c = none)
    (ha : answer i s = ⟨t.post src [q] n, result, data⟩) (hquiet : t.Quiet) :
    ∃ k, exec i s
      = .next (((t.told (fun x => x == q) n).answered p ⟨f.seq, f.code, result, data⟩).setChoices k) := by
  obtain ⟨k, hk⟩ := t.deliver_told src q n hquiet
  refine ⟨k, ?_⟩
  rw [exec_command hf hcode, State.submit_ready hready hf, ha]
  simp only [respond, hk]
  rfl

theorem State.resourceCleared_quiet {s : State} (h : s.Quiet) (r : Resource) : (s.resourceCleared r).Quiet := by
  cases r with
  | leg n => exact (s.planTaken_outbox n).trans h
  | carrier | chan c => exact h

theorem State.resourceCleared_lease (s : State) (r q : Resource) : (s.resourceCleared r).lease q = s.lease q := by
  cases r <;> simp [State.resourceCleared]

theorem State.clearSeized_held {s : State} {r : Resource} {p : Port} (h : (s.lease r).holder? = some p) :
    s.clearSeized r = s.resourceCleared r := by
  cases r with
  | leg n =>
    have hphase : ((s.planTaken n).lease (.leg n)).phase ≠ .releasing := by
      rw [State.planTaken_lease]
      intro hrel
      simp [Lease.holder?, hrel] at h
    simp only [State.clearSeized, State.flushAndCut_eq, State.legReport_eq_self _ _ hphase, ite_self]
    rfl
  | carrier | chan c => rfl

/-- Settles O27: the three ways in which a lease ends. -/
theorem releaseEndsLease : Obligations.ReleaseEndsLease := by
  intro p seq b g r s hready hr hholds l
  have hquiet : s.Quiet := hready.2.2.2.2
  have ha : doRelease p b g s = ⟨s.endLease r, .ok, ((s.endLease r).lease r).outcome⟩ := by
    simp only [doRelease, hr, (s.fence_eq_none r p g).mpr hholds]
  refine ⟨fun hrest hnone => ?_, fun w rest hrest hws => ?_, fun hbusy => ?_⟩
  · rw [State.endLease_free s r hrest hnone] at ha
    refine (exec_answered (i := .release p seq b g) hready rfl nofun ha (State.resourceCleared_quiet (s := s.setLease r _) hquiet r)).trans ?_
    simp [State.resourceCleared_lease, Lease.outcome]
    rfl
  · rw [State.endLease_grant s r w rest hrest hws] at ha
    obtain ⟨k, hk⟩ := exec_told (i := .release p seq b g) hready rfl nofun ha
      (State.resourceCleared_quiet (s := s.setLease r _) hquiet r)
    refine ⟨k, hk.trans ?_⟩
    simp [State.resourceCleared_lease, Lease.outcome, Lease.grantedTo]
    rfl
  · rw [State.endLease_releasing s r hbusy] at ha
    refine (exec_answered (i := .release p seq b g) hready rfl nofun ha (State.resourceCleared_quiet (s := s.setLease r _) hquiet r)).trans ?_
    simp [State.resourceCleared_lease, Lease.outcome]
    rfl

/-- Settles O29: each clause is one branch of SEIZE. -/
theorem seizeOfHeldLease : Obligations.SeizeOfHeldLease := by
  intro p seq b i r s hready hr hlow hhigh l taken refused
  have hquiet : s.Quiet := hready.2.2.2.2
  have hi := intervalOf_inRange hlow hhigh
  have hrefused : ∀ {result data}, doSeize p b i s = s.refuse result data → refused result data :=
    fun ha => exec_refused (i := .seize p seq b i) hready rfl nofun ha
  have htaken : (s.grantTo r p i.toNat).clearSeized r = taken := by
    rw [State.clearSeized_held (p := p) (by simp [State.grantTo, Lease.grant, Lease.holder?])]
    rfl
  have hquietTaken : taken.Quiet := State.resourceCleared_quiet (s := s.setLease r _) hquiet r
  refine ⟨fun hrole => hrefused ?_, fun hrole => ⟨fun n k low hheld => hrefused ?_,
    fun q n k low hheld hq hsup => hrefused ?_, fun q n k low hheld hcontrol => ?_, fun hrel => ?_⟩⟩
  · simp only [doSeize, hr, hi, hrole, if_true]
  · have hheld : (s.lease r).phase = .held p n k low := hheld
    simp [doSeize, hr, hi, hrole, hheld]
    rfl
  · have hheld : (s.lease r).phase = .held q n k low := hheld
    simp [doSeize, hr, hi, hrole, hheld, hq, hsup]
  · have hheld : (s.lease r).phase = .held q n k low := hheld
    have hq : q ≠ p := by
      rintro rfl
      rw [hrole] at hcontrol
      cases hcontrol
    have ha : doSeize p b i s = ⟨taken.post (.resource r) [q]
        ⟨.leaseLost .seized l.gen (some p), .resource r, none, s.periodLow⟩, .ok, seizeData l i.toNat⟩ := by
      simp [doSeize, hr, hi, hrole, hheld, hq, hcontrol, htaken, l]
    have hdata : seizeData l i.toNat = be16 l.genAfter ++ be16 i ++ [1, BitVec.ofNat 8 q.number] := by
      simp [seizeData, item2_toNat, l, hheld, Lease.holder?, Lease.genAfter_eq_nextGen]
      rfl
    rw [hdata] at ha
    exact exec_told (i := .seize p seq b i) hready rfl nofun ha hquietTaken
  · have hrel : (s.lease r).phase = .releasing := hrel
    have ha : doSeize p b i s = ⟨taken, .ok, seizeData l i.toNat⟩ := by
      simp [doSeize, hr, hi, hrole, hrel, htaken, l]
    have hdata : seizeData l i.toNat = be16 l.genAfter ++ be16 i ++ [2, 0] := by
      simp [seizeData, item2_toNat, l, hrel, Lease.holder?, Lease.genAfter_eq_nextGen]
      rfl
    rw [hdata] at ha
    exact exec_answered (i := .seize p seq b i) hready rfl nofun ha hquietTaken

end Sys2Proof.Machine
end

section
/-! PROOFS. One notice to several ports, and the commands of a Leg Unit and of the Trip Unit (chapters 1 and 7). -/

namespace Sys2Proof.Machine

open Sys2Proof

-- One theorem at a time, as in the tests: proofs that wait for the kernel would each hold a thread.
set_option Elab.async false

/-! ### One notice to several ports (R115, R122, R168) -/

/-- Delivery changes the ports, and the model's own outbox and choices, alone. -/
theorem State.deliver_eq (s : State) :
    s.deliver = { s with ports := s.deliver.ports, outbox := [], choices := s.deliver.choices } := by
  have hrst := s.deliver_rst
  have hleases := s.deliver_leases
  have hclock := s.deliver_leaseClock
  have hcarrier := s.deliver_carrier
  have hlegs := s.deliver_legs
  have hsync := s.deliver_sync
  have htrip := s.deliver_trip
  have hchans := s.deliver_chans
  have hpending := s.deliver_pending
  have houtbox := s.deliver_outbox
  generalize s.deliver = t at *
  cases t
  simp_all

/-- An absent port does nothing with a copy (R168). -/
theorem PortEngine.receiveCopy_absent {e : PortEngine} (h : e.presence.level = false) (n : Notice) :
    e.receiveCopy n = e := by
  simp [PortEngine.receiveCopy, h]

/-- The copies on their way to a port, in the order in which they were raised. -/
def State.copiesTo (s : State) (q : Port) : List Notice := (s.outbox.filter fun o => o.port = q).map Outgoing.notice

theorem State.copiesTo_congr {s t : State} (h : t.outbox = s.outbox) (q : Port) : t.copiesTo q = s.copiesTo q := by
  rw [State.copiesTo, h, State.copiesTo]

theorem State.copiesTo_quiet {s : State} (h : s.Quiet) (q : Port) : s.copiesTo q = [] := by
  rw [State.copiesTo, show s.outbox = [] from h]
  rfl

/-- A port gets a copy of a notice that is raised to it while its presence is high (R168, R171). -/
theorem State.copiesTo_post (s : State) (src : Source) {ps : List Port} (hps : ps.Nodup) (n : Notice) (q : Port) :
    (s.post src ps n).copiesTo q
      = s.copiesTo q ++ if q ∈ ps ∧ (s.port q).presence.level = true then [n] else [] := by
  have hmine : ((ps.filter fun p => (s.port p).presence.level).filter fun p => p = q)
      = if q ∈ ps ∧ (s.port q).presence.level = true then [q] else [] := by
    induction ps with
    | nil => simp
    | cons p ps ih =>
      obtain ⟨hp, hnodup⟩ := List.nodup_cons.mp hps
      have ih := ih hnodup
      by_cases hq : p = q
      · subst hq
        cases hpres : (s.port p).presence.level <;> simp_all
      · have hne : q ≠ p := fun h => hq h.symm
        cases hpres : (s.port p).presence.level <;> simp_all
  simp only [State.copiesTo, State.post_outbox, List.filter_append, List.map_append, List.filter_map, List.map_map]
  refine congrArg (_ ++ ·) ?_
  have hport : ((fun o : Outgoing => decide (o.port = q)) ∘ fun p => (⟨src, p, n⟩ : Outgoing)) = fun p => decide (p = q) :=
    rfl
  rw [hport, hmine]
  split <;> rfl

/-- A port takes the copies on their way to it in some order (R168). -/
theorem State.deliver_copies (s : State) (q : Port) :
    ∃ ns : List Notice, ns.Perm (s.copiesTo q) ∧ s.deliver.port q = ns.foldl PortEngine.receiveCopy (s.port q) :=
  s.deliver_port q

theorem port_all_nodup : Port.all.Nodup := by decide

theorem port_mem_all (q : Port) : q ∈ Port.all := by cases q <;> decide

theorem State.told_port (s : State) (who : Port → Bool) (n : Notice) (q : Port) :
    (s.told who n).port q = if who q then (s.port q).receiveCopy n else s.port q := by
  simp [State.told, State.port]

@[simp] theorem State.told_leg (s : State) (who : Port → Bool) (n : Notice) (k : Leg) : (s.told who n).leg k = s.leg k :=
  rfl

@[simp] theorem State.told_lease (s : State) (who : Port → Bool) (n : Notice) (r : Resource) :
    (s.told who n).lease r = s.lease r :=
  rfl

@[simp] theorem State.told_responses (s : State) (who : Port → Bool) (n : Notice) (q : Port) :
    ((s.told who n).port q).responses = (s.port q).responses := by
  rw [State.told_port]
  split <;> simp

/-- A notice to a set of ports, where nothing else is on its way: each of them decides on its copy (R168). -/
theorem State.deliver_told_all {s : State} (h : s.Quiet) (src : Source) (who : Port → Bool) (n : Notice) :
    ∃ k, (s.post src (Port.all.filter who) n).deliver = (s.told who n).setChoices k := by
  have hports : ∀ q, (s.post src (Port.all.filter who) n).deliver.port q = (s.told who n).port q := fun q => by
    obtain ⟨ns, hperm, hq⟩ := (s.post src (Port.all.filter who) n).deliver_copies q
    rw [State.copiesTo_post _ _ (port_all_nodup.filter _), State.copiesTo_quiet h, List.nil_append] at hperm
    rw [hq, State.told_port]
    by_cases hwho : who q = true
    · by_cases hpres : (s.port q).presence.level = true
      · rw [if_pos ⟨List.mem_filter.mpr ⟨port_mem_all q, hwho⟩, hpres⟩] at hperm
        rw [List.perm_singleton.mp hperm, if_pos hwho]
        rfl
      · rw [if_neg fun hc => hpres hc.2] at hperm
        rw [List.perm_nil.mp hperm, if_pos hwho, PortEngine.receiveCopy_absent (by simpa using hpres)]
        rfl
    · rw [if_neg fun hc => hwho (List.mem_filter.mp hc.1).2] at hperm
      rw [List.perm_nil.mp hperm, if_neg hwho]
      rfl
  have houtbox : s.outbox = [] := h
  refine ⟨(s.post src (Port.all.filter who) n).deliver.choices, ?_⟩
  rw [State.deliver_eq, PerPort.ext_get hports]
  simp only [State.told, State.setChoices, State.post, State.setOutbox, houtbox]

/-- A command that tells a set of ports, at a ready port: they decide on their copies before the answer joins. -/
theorem exec_told_all {i : Instr} {p : Port} {f : Frame} {s t : State} {src : Source} {who : Port → Bool} {n : Notice}
    {result : Result} {data : List Byte} (hready : s.Ready p) (hf : encodeFrame i = some (p, f))
    (hcode : ∀ q n c args, i = .unknown q n c args → opcodeOf c = none)
    (ha : answer i s = ⟨t.post src (Port.all.filter who) n, result, data⟩) (hquiet : t.Quiet) :
    ∃ k, exec i s = .next (((t.told who n).answered p ⟨f.seq, f.code, result, data⟩).setChoices k) := by
  obtain ⟨k, hk⟩ := State.deliver_told_all hquiet src who n
  refine ⟨k, ?_⟩
  rw [exec_command hf hcode, State.submit_ready hready hf, ha]
  simp only [respond, hk]
  rfl

theorem State.setLeg_setLeg (s : State) (n : Leg) (u u' : LegUnit) : (s.setLeg n u).setLeg n u' = s.setLeg n u' := by
  cases n <;> rfl

/-! ### FLUSH and CUT (R18, R19) -/

/-- A flush empties the queue; a HOLDING leg that loses its head leaves the holding-leg set of its mark. -/
theorem State.flushQueue_eq (s : State) (n : Leg) :
    s.flushQueue n = (s.headLost n).setLeg n { s.leg n with queue := [] } := by
  unfold State.flushQueue State.headLost
  cases (s.leg n).phase <;> cases (s.leg n).queue <;> rfl

theorem onLeg_of_holds {s : State} {b : Byte} {n : Leg} {p : Port} {g : Half} {act : Leg → Answer}
    (hn : legOf b = some n) (hholds : s.Holds p (.leg n) g) : s.onLeg b p g act = act n := by
  simp only [State.onLeg, hn, (s.fence_eq_none (.leg n) p g).mpr hholds]

theorem State.headLost_quiet {s : State} (h : s.Quiet) (n : Leg) : (s.headLost n).Quiet := by
  unfold State.headLost
  split <;> exact h

/-- Settles O34: the flush of `State.flushQueue_eq`, and the cut of a RUNNING leg. -/
theorem flushAndCut : Obligations.FlushAndCut := by
  intro p seq b g n s hready hn hholds
  have hquiet : s.Quiet := hready.2.2.2.2
  refine ⟨?_, fun a hrun => ?_, fun hother => ?_⟩
  · have ha : doFlush p b g s = ⟨s.flushQueue n, .ok, item1 (s.leg n).queue.length⟩ := onLeg_of_holds hn hholds
    rw [State.flushQueue_eq] at ha
    exact exec_answered (i := .flush p seq b g) hready rfl nofun ha (State.headLost_quiet hquiet n)
  · have ha : doCut p b g s = ⟨s.updLeg n LegUnit.cutByHost, .ok, []⟩ := by
      refine (onLeg_of_holds hn hholds).trans ?_
      simp only [hrun]
    have hcut : (s.leg n).cutByHost
        = { s.leg n with phase := .running { a with cut := if a.cut = .none then .host else a.cut } } := by
      simp only [LegUnit.cutByHost, hrun]
      split
      · rfl
      · rw [← hrun]
    have hstate : s.updLeg n LegUnit.cutByHost
        = s.setLeg n { s.leg n with phase := .running { a with cut := if a.cut = .none then .host else a.cut } } :=
      congrArg (s.setLeg n) hcut
    rw [hstate] at ha
    exact exec_answered (i := .cut p seq b g) hready rfl nofun ha hquiet
  · have ha : doCut p b g s = s.refuse .noActive [] := by
      refine (onLeg_of_holds hn hholds).trans ?_
      cases hp : (s.leg n).phase with
      | running a => exact absurd hp (hother a)
      | idle | holding _ | tripped _ => rfl
    exact exec_refused (i := .cut p seq b g) hready rfl nofun ha

/-! ### APPEND and REPLACE (R14, R16, R17, R151) -/

section
variable {s : State} {p : Port} {n : Leg} {g : Half} {seg : Segment}

theorem mem_unheldLegs {f : SyncField} {k : Leg} : k ∈ s.unheldLegs p f
    ↔ f.legs.get k = true ∧ (s.lease (.leg k)).holder? ≠ some p := by
  simp [State.unheldLegs, leg_mem_all]

/-- The sync-set check passes exactly where the port holds every leg of the set (R14). -/
theorem checkSyncSet_none : s.checkSyncSet p seg = none
    ↔ ∀ f, seg.sync = some f → ∀ k, f.legs.get k = true → (s.lease (.leg k)).holder? = some p := by
  unfold State.checkSyncSet
  cases hf : seg.sync with
  | none => simp
  | some f =>
    have hmem : ∀ k, k ∈ s.unheldLegs p f ↔ _ := fun k => mem_unheldLegs
    cases hk : s.unheldLegs p f with
    | nil => 
      simp only [hk, List.not_mem_nil, false_iff, not_and, not_not] at hmem
      simpa [hk] using hmem
    | cons k ks =>
      have hfail := (hmem k).mp (by simp [hk])
      simp only [hk, reduceCtorEq, false_iff]
      exact fun hall => hfail.2 (hall f rfl k hfail.1)

theorem ChanMode.counting_iff (m : ChanMode) : m.counting = true ↔ m = .quad ∨ m = .stepDir ∨ m = .upDown := by
  cases m <;> simp [ChanMode.counting]

/-- The condition check passes exactly where the channel counts and the target lies below its modulus (R151). -/
theorem checkCondition_none : s.checkCondition seg = none
    ↔ ∀ c, seg.condition = some c → (s.chan c.chan).config.mode.counting = true
      ∧ c.target.toNat < (s.chan c.chan).config.modulus := by
  unfold State.checkCondition
  cases hc : seg.condition with
  | none => simp
  | some c =>
    simp only [Option.some.injEq, forall_eq']
    split
    · next h => exact ⟨fun _ => h, fun _ => rfl⟩
    · next h => exact ⟨nofun, fun h' => absurd h' h⟩

/-- A condition that fails its check is refused with the mode and the modulus found (R151). -/
theorem checkCondition_some {c : Condition} (hc : seg.condition = some c) (h : s.checkCondition seg ≠ none) :
    s.checkCondition seg = some (.badCondition, item1 (s.chan c.chan).config.mode.code
      ++ item2 ((s.chan c.chan).config.modulus - 1)) := by
  unfold State.checkCondition at h ⊢
  rw [hc] at h ⊢
  dsimp only at h ⊢
  split
  · next hok => rw [if_pos hok] at h; exact absurd rfl h
  · rfl

theorem checkSegment_of_holds (hholds : s.Holds p (.leg n) g) : s.checkSegment n p g seg
    = (s.checkSyncSet p seg).orElse fun _ => (s.checkCondition seg).orElse fun _ =>
        if (s.leg n).phase.isTripped then some (.tripped, []) else none := by
  simp only [State.checkSegment, (s.fence_eq_none (.leg n) p g).mpr hholds]
  rfl

/-- A refusal after the sync-set check changes nothing. -/
theorem afterCheck_of_held (hsync : s.checkSyncSet p seg = none) : s.afterCheck n p g seg = s := by
  unfold State.afterCheck
  split
  · next f _ hf =>
    have hnone : s.unheldLegs p f = [] := by
      rw [List.eq_nil_iff_forall_not_mem]
      exact fun k hk => (mem_unheldLegs.mp hk).2 (checkSyncSet_none.mp hsync f hf k (mem_unheldLegs.mp hk).1)
    rw [hnone]
    rfl
  · rfl
  · rfl

/-- A sync set with a leg that the port does not hold is refused NOT_HOLDER with the lease of such a leg; the
choice among several counts as made (R78; log entry 15). -/
theorem checkSyncSet_some (hholds : s.Holds p (.leg n) g) (h : s.checkSyncSet p seg ≠ none) :
    ∃ f k c, seg.sync = some f ∧ f.legs.get k = true ∧ (s.lease (.leg k)).holder? ≠ some p
      ∧ s.checkSyncSet p seg = some (.notHolder, item1 (s.lease (.leg k)).phase.code
          ++ item1 (portCode (s.lease (.leg k)).holder?))
      ∧ s.afterCheck n p g seg = s.setChoices c := by
  have hfence := (s.fence_eq_none (.leg n) p g).mpr hholds
  unfold State.checkSyncSet at h
  cases hf : seg.sync with
  | none => simp [hf] at h
  | some f =>
    cases hk : s.unheldLegs p f with
    | nil => simp [hf, hk] at h
    | cons k ks =>
      have hlt : s.choose (k :: ks).length < (k :: ks).length := Config.pick_lt _ (Nat.succ_pos _)
      have hmem : (k :: ks).getD (s.choose (k :: ks).length) k ∈ s.unheldLegs p f := by
        rw [hk, List.getD_eq_getElem _ _ hlt]
        exact List.getElem_mem _
      obtain ⟨hset, hother⟩ := mem_unheldLegs.mp hmem
      refine ⟨f, _, if 2 ≤ (k :: ks).length then s.choices + 1 else s.choices, rfl, hset, hother, ?_, ?_⟩
      · simp only [State.checkSyncSet, hf, hk]
      · simp only [State.afterCheck, hfence, hf, hk]
        split <;> rfl

end

/-- Settles O32: the checks in their order, each with the refusal that it gives both commands. -/
theorem appendChecks : Obligations.AppendChecks := by
  intro p seq b o g bytes n seg s hready hn hholds hseg ho u append replace answered setHeld condOk
  have hquiet : s.Quiet := hready.2.2.2.2
  obtain ⟨flag, hflag, -⟩ := flagOf_of_le ho
  have hset : setHeld ↔ s.checkSyncSet p seg = none := checkSyncSet_none.symm
  have hcond : condOk ↔ s.checkCondition seg = none := by
    rw [checkCondition_none]
    simp only [ChanMode.counting_iff]
    exact Iff.rfl
  have hcheck := checkSegment_of_holds (seg := seg) hholds
  have hrefused : ∀ {x : Result × List Byte} {t : State}, s.checkSegment n p g seg = some x →
      s.afterCheck n p g seg = t → t.Quiet → append = answered t 0x20 x.1 x.2 ∧ replace = answered t 0x21 x.1 x.2 := by
    intro x t hx ht hq
    have happend : doAppend p b g bytes s = t.refuse x.1 x.2 := by simp only [doAppend, hn, hseg, hx, ht]
    have hreplace : doReplace p b g o bytes s = t.refuse x.1 x.2 := by
      simp only [doReplace, hn, hflag, hseg, hx, ht]
    exact ⟨exec_answered (i := .append p seq b g bytes) hready rfl nofun happend hq,
      exec_answered (i := .replace p seq b g o bytes) hready rfl nofun hreplace hq⟩
  refine ⟨parseSegment_gen hseg, fun hs hc ht hroom => ?_, fun hs hc ht hfull => ?_, fun hs hc ht => ?_,
    fun c hs hc hbad => ?_, fun hs => ?_⟩
  · have hx : s.checkSegment n p g seg = none := by
      rw [hcheck, hset.mp hs, hcond.mp hc, ht]
      rfl
    have ha : doAppend p b g bytes s = ⟨s.updLeg n fun u => { u with queue := u.queue ++ [seg] }, .ok,
        item1 (u.queue.length + 1)⟩ := by
      simp only [doAppend, hn, hseg, hx]
      exact if_neg (Nat.not_le.mpr hroom)
    exact exec_answered (i := .append p seq b g bytes) hready rfl nofun ha hquiet
  · have hx : s.checkSegment n p g seg = none := by
      rw [hcheck, hset.mp hs, hcond.mp hc, ht]
      rfl
    have ha : doAppend p b g bytes s = s.refuse .full [] := by
      simp only [doAppend, hn, hseg, hx]
      exact if_pos hfull
    exact exec_refused (i := .append p seq b g bytes) hready rfl nofun ha
  · have hx : s.checkSegment n p g seg = some (.tripped, []) := by
      rw [hcheck, hset.mp hs, hcond.mp hc, ht]
      rfl
    exact hrefused hx (afterCheck_of_held (hset.mp hs)) hquiet
  · have hx : s.checkSegment n p g seg = some (.badCondition, item1 (s.chan c.chan).config.mode.code
        ++ item2 ((s.chan c.chan).config.modulus - 1)) := by
      rw [hcheck, hset.mp hs, checkCondition_some hc (mt hcond.mpr hbad)]
      rfl
    exact hrefused hx (afterCheck_of_held (hset.mp hs)) hquiet
  · obtain ⟨f, k, c, hf, hk, hother, hsync, hafter⟩ := checkSyncSet_some (n := n) hholds (mt hset.mpr hs)
    have hx : s.checkSegment n p g seg = some (.notHolder, item1 (s.lease (.leg k)).phase.code
        ++ item1 (portCode (s.lease (.leg k)).holder?)) := by
      rw [hcheck, hsync]
      rfl
    exact ⟨f, k, c, hf, hk, hother, hrefused hx hafter hquiet⟩

/-- Settles O33: the flush of `State.flushQueue_eq`, then the one segment, and at once the cut of the active one. -/
theorem replacePlacesOne : Obligations.ReplacePlacesOne := by
  intro p seq b o g bytes n seg s hready hn hholds hseg ho hset hcond ht phase
  have hquiet : s.Quiet := hready.2.2.2.2
  obtain ⟨flag, hflag, hone⟩ := flagOf_of_le ho
  have hx : s.checkSegment n p g seg = none := by
    rw [checkSegment_of_holds hholds, checkSyncSet_none.mpr hset, checkCondition_none.mpr hcond, ht]
    rfl
  have hplaced : ((s.flushQueue n).updLeg n fun u => { u with queue := [seg] })
      = (s.headLost n).setLeg n { s.leg n with queue := [seg] } := by
    simp only [State.flushQueue_eq, State.updLeg, State.setLeg_leg, if_true, State.setLeg_setLeg]
  have hleg : (if flag then LegUnit.cutByHost { s.leg n with queue := [seg] } else { s.leg n with queue := [seg] })
      = { s.leg n with phase := phase, queue := [seg] } := by
    cases hp : (s.leg n).phase with
    | running a =>
      have hphase : phase = if flag = true ∧ a.cut = .none then .running { a with cut := .host } else .running a := by
        simp only [phase, hp, hone]
      cases flag <;> by_cases hcut : a.cut = .none <;> simp [LegUnit.cutByHost, hp, hphase, hcut]
    | idle | holding _ | tripped _ =>
      have hphase : phase = (s.leg n).phase := by simp only [phase, hp]
      cases flag <;> simp [LegUnit.cutByHost, hp, hphase]
  have ha : doReplace p b g o bytes s
      = ⟨(s.headLost n).setLeg n { s.leg n with phase := phase, queue := [seg] }, .ok,
          item1 (s.leg n).queue.length⟩ := by
    simp only [doReplace, hn, hflag, hseg, hx, hplaced, ← hleg]
    cases flag with
    | true => simp only [if_true, State.updLeg, State.setLeg_leg, State.setLeg_setLeg]
    | false => rfl
  exact exec_answered (i := .replace p seq b g o bytes) hready rfl nofun ha (State.headLost_quiet hquiet n)

/-! ### SET_LEG (R24, R111) -/

theorem legConfigOf_eq {d pat e : Byte} (h : pat.toNat < 8) : legConfigOf d pat e
    = some ⟨d.toNat, if pat.getLsbD 0 then .low else .float, if pat.getLsbD 1 then .low else .float,
        if pat.getLsbD 2 then .cycle else .latch, e.toNat⟩ := by
  have hpat : patternsOf pat = some (if pat.getLsbD 0 then .low else .float, if pat.getLsbD 1 then .low else .float,
      if pat.getLsbD 2 then .cycle else .latch) := by
    revert pat
    decide +kernel
  rw [legConfigOf, hpat]
  rfl

theorem SideState.on_of_no_demand {x : SideState} (h : x.demand = false) : x.on = false := by
  simp [SideState.on, h]

/-- A trip leaves its leg as R112 and R113 say. -/
theorem LegUnit.trippedBy_spec (u : LegUnit) (c : Cause) (period : Dword) (counter : Nat) :
    u.TrippedFrom (u.trippedBy c period counter) c period u.phase.activeTag := by
  refine ⟨rfl, rfl, rfl, rfl, rfl, rfl, rfl, SideState.on_of_no_demand ?_⟩
  cases h : u.config.tripPattern <;>
    simp [LegUnit.trippedBy, LegUnit.settle, LegUnit.demandsAt, LegUnit.output, Pattern.demands, h]

theorem PortEngine.sameButNotices_receiveCopy {e e' : PortEngine} (h : e.SameButNotices e') (n : Notice) :
    e.SameButNotices (e'.receiveCopy n) := by
  unfold PortEngine.SameButNotices at *
  unfold PortEngine.receiveCopy
  split_ifs
  · exact h
  · exact h
  · rw [h]
  · rw [h]

theorem State.deliver_sameButNotices (s : State) (q : Port) : (s.port q).SameButNotices (s.deliver.port q) := by
  obtain ⟨ns, -, h⟩ := s.deliver_copies q
  rw [h]
  exact List.foldlRecOn ns PortEngine.receiveCopy (motive := fun e => (s.port q).SameButNotices e) rfl
    fun _ he n _ => PortEngine.sameButNotices_receiveCopy he n

/-- A command whose block leaves the engines alone is answered, and no engine changes otherwise but for notices. -/
theorem respond_answeredIn {s : State} {p : Port} {f : Frame} {a : Answer} (hports : ∀ q, a.state.port q = s.port q) :
    s.AnsweredIn (respond p f a) p ⟨f.seq, f.code, a.result, a.data⟩ := by
  have hsame : ∀ q, (s.port q).SameButNotices (a.state.deliver.port q) := fun q =>
    hports q ▸ a.state.deliver_sameButNotices q
  have hresponses : ∀ q, (a.state.deliver.port q).responses = (s.port q).responses := fun q => by simp [hports]
  have hport : ∀ q, (respond p f a).port q
      = if q = p then { a.state.deliver.port q with responses := (s.port q).responses ++ [⟨f.seq, f.code, a.result, a.data⟩] }
        else a.state.deliver.port q := fun q => by
    rw [respond, State.updPort_port]
    by_cases h : q = p
    · subst h; simp [hresponses]
    · simp [h]
  refine ⟨by rw [hport, if_pos rfl], fun q => ⟨?_, fun hq => by rw [hport, if_neg hq, hresponses]⟩⟩
  have hsame := hsame q
  unfold PortEngine.SameButNotices at hsame ⊢
  rw [hport]
  split
  · rw [hsame]
  · rw [hsame]

theorem LegPhase.activeTag_idle : LegPhase.idle.activeTag = none := rfl

/-- Settles O35: BUSY, the settings alone, and the two ways in which the change is a trip cause. -/
theorem setLegTakesSettings : Obligations.SetLegTakesSettings := by
  intro p seq b d pat e g n s hready hn hholds hpat u cfg ok cause
  have hquiet : s.Quiet := hready.2.2.2.2
  have hcfg : legConfigOf d pat e = some cfg := legConfigOf_eq hpat
  set s' := s.changeLeg n fun u => { u with config := cfg } with hs'
  have hleg : s'.leg n = { u with config := cfg }.settle s.carrier.counter := by simp [hs', u]
  have hact : doSetLeg p b g d pat e s = if u.phase.driving then s.refuse .busy []
      else if cause then ⟨s'.causeArises n .trip0, .ok, []⟩ else ⟨s', .ok, []⟩ := by
    simp only [doSetLeg, hcfg]
    exact onLeg_of_holds hn hholds
  refine ⟨fun hbusy => ?_, fun hrest hno => ?_, fun rec hrec hcause => ?_, fun hidle hcause => ?_⟩
  · rw [if_pos hbusy] at hact
    exact exec_refused (i := .setLeg p seq b g d pat e) hready rfl nofun hact
  · rw [if_neg (by simp [hrest]), if_neg hno] at hact
    exact exec_answered (i := .setLeg p seq b g d pat e) hready rfl nofun hact hquiet
  · have hrest : u.phase.driving = false := by rw [hrec]; rfl
    have hrec' : (s'.leg n).phase = .tripped rec := by rw [hleg]; exact hrec
    rw [if_neg (by simp [hrest]), if_pos hcause, State.causeArises_tripped _ _ _ rec hrec', hleg] at hact
    have hstate : ∀ w, s'.setLeg n w = s.setLeg n w := fun w => State.setLeg_setLeg ..
    rw [hstate] at hact
    exact exec_answered (i := .setLeg p seq b g d pat e) hready rfl nofun hact hquiet
  · have hrest : u.phase.driving = false := by rw [hidle]; rfl
    have hphase : (s'.leg n).phase = .idle := by rw [hleg]; exact hidle
    rw [if_neg (by simp [hrest]), if_pos hcause,
      State.causeArises_latches _ _ _ (by rw [hphase]; rfl)] at hact
    have hexec : exec (.setLeg p seq b g d pat e) s
        = .next (respond p ⟨0x24, seq, [b] ++ be16 g ++ [d, pat, e]⟩ ⟨s'.latchTrip n .trip0, .ok, []⟩) := by
      refine (exec_command (i := .setLeg p seq b g d pat e) rfl nofun s).trans ?_
      rw [State.submit_ready hready rfl]
      exact congrArg (fun a => Host.Outcome.next (respond p _ a)) hact
    have htripped : s'.legTripped n .trip0 = s.setLeg n ((s'.leg n).trippedBy .trip0 s.carrier.period s.carrier.counter) := by
      simp only [State.legTripped, hphase, LegPhase.isHolding]
      exact State.setLeg_setLeg ..
    have hreport : (s'.legTripped n .trip0).legReport n = s'.legTripped n .trip0 := by
      refine State.legReport_eq_self _ _ fun hrel => ?_
      have hrel : (s.lease (.leg n)).phase = .releasing := by simpa [htripped] using hrel
      simpa [Lease.holder?, hrel] using hholds.1
    have htrip : s'.latchTrip n .trip0 = (s'.legTripped n .trip0).post (.resource (.leg n))
        (Port.all.filter fun q => s.hearsTrips n q)
        ⟨.tripped .trip0 (min 255 (u.tripCount + 1)) u.queue.length, .leg n, none, s.periodLow⟩ := by
      rw [State.latchTrip_eq, hreport, hleg, htripped]
      simp only [LegUnit.tripNotice, State.tripPorts, State.setLeg_lease, State.setLeg_port, count255]
      simp only [LegUnit.settle, hidle, LegPhase.activeTag]
      rfl
    rw [htrip] at hact
    obtain ⟨k, hk⟩ := exec_told_all (i := .setLeg p seq b g d pat e) hready rfl nofun hact (htripped ▸ hquiet)
    have hin : s.AnsweredIn _ p ok := respond_answeredIn (s := s) (f := ⟨0x24, seq, [b] ++ be16 g ++ [d, pat, e]⟩)
      (a := ⟨s'.latchTrip n .trip0, .ok, []⟩) fun q => by simp [s']
    rw [Host.Outcome.next.inj (hexec.symm.trans hk)] at hin
    rw [htripped] at hk hin
    refine ⟨_, hk, ?_, fun k hk => ?_, ?_, hin, fun q => ?_⟩
    · have hspec := LegUnit.trippedBy_spec (s'.leg n) .trip0 s.carrier.period s.carrier.counter
      rw [hphase, LegPhase.activeTag_idle] at hspec
      rw [State.setChoices_leg, State.answered, State.updPort_leg, State.told_leg, State.setLeg_leg, if_pos rfl]
      refine Eq.mp ?_ hspec
      rw [hleg]
      rfl
    · rw [State.setChoices_leg, State.answered, State.updPort_leg, State.told_leg, State.setLeg_leg, if_neg hk]
    · rfl
    · rw [State.setChoices_port, State.answered, State.updPort_port, State.told_responses, State.told_port]
      split
      · next hq => subst hq; rfl
      · rfl

end Sys2Proof.Machine
end

section
/-! PROOFS. The commands of the Carrier Timer and of a Position Channel (chapters 2 and 8). -/

namespace Sys2Proof.Machine

open Sys2Proof

-- One theorem at a time, as in the tests: proofs that wait for the kernel would each hold a thread.
set_option Elab.async false

theorem onCarrier_of_holds {s : State} {p : Port} {g : Half} {act : Answer} (hholds : s.Holds p .carrier g) :
    s.onCarrier p g act = act := by
  simp only [State.onCarrier, (s.fence_eq_none .carrier p g).mpr hholds]

theorem onChan_of_holds {s : State} {c : Chan} {p : Port} {g : Half} {act : Answer} (hholds : s.Holds p (.chan c) g) :
    s.onChan c p g act = act := by
  simp only [State.onChan, (s.fence_eq_none (.chan c) p g).mpr hholds]

theorem State.anyDriving_iff {s : State} : s.anyDriving = true ↔ ∃ n, (s.leg n).phase.driving = true := by
  simp [State.anyDriving, leg_mem_all]

/-! ### The Carrier Timer (R27, R34 to R38) -/

theorem prescaleOf_eq {b : Byte} {x : Fin 8} (h : b.toNat = x.val) : prescaleOf b = some x := by
  simp [prescaleOf, h]

theorem carrierModeOf_eq {b : Byte} (h : b.toNat ≤ 1) : carrierModeOf b = some (if b = 1 then .edge else .center) := by
  revert b
  decide +kernel

theorem Carrier.setPeriod_eq (t : Carrier) (v : Nat) :
    t.setPeriod v = { t with preload := v, active := if t.run = .stopped then v else t.active } := by
  cases h : t.run <;> simp [Carrier.setPeriod, h]

/-- Settles O48: each command past its fence, in its own words. -/
theorem carrierSettings : Obligations.CarrierSettings := by
  intro p seq m e g v s hready hholds t driving restarted
  have hquiet : s.Quiet := hready.2.2.2.2
  refine ⟨fun hv => ?_, fun h1 h2 => ?_, fun hm he hdriving => ?_, fun x hm hx hrest => ?_, fun hrun => ?_,
    fun hrun => ?_⟩
  · have ha : doSetPeriod p g v s = ⟨s.setCarrier (s.carrier.setPeriod v.toNat), .ok, []⟩ := by
      simp only [doSetPeriod, periodOf, if_pos hv]
      exact onCarrier_of_holds hholds
    rw [Carrier.setPeriod_eq] at ha
    exact exec_answered (i := .setPeriod p seq g v) hready rfl nofun ha hquiet
  · have ha : doSetSyncLimit p g v s = ⟨s.setCarrier { s.carrier with syncLimit := v.toNat }, .ok, []⟩ := by
      simp only [doSetSyncLimit, syncLimitOf, if_pos (And.intro h1 h2)]
      exact onCarrier_of_holds hholds
    exact exec_answered (i := .setSyncLimit p seq g v) hready rfl nofun ha hquiet
  · have ha : doSetCarrier p g m e s = s.refuse .busy [] := by
      simp only [doSetCarrier, carrierModeOf_eq hm, prescaleOf_eq (x := ⟨e.toNat, Nat.lt_succ_of_le he⟩) rfl]
      rw [onCarrier_of_holds hholds, if_pos (State.anyDriving_iff.mpr hdriving)]
    exact exec_refused (i := .setCarrier p seq g m e) hready rfl nofun ha
  · have ha : doSetCarrier p g m e s = ⟨restarted { t with
        mode := if m = 1 then .edge else .center
        prescale := x, divider := ⟨2 ^ x.val, true⟩, counter := 0
        slope := if m = 1 then .rising else .falling
        leadIn := decide (t.run = .running), dwell := 0 }, .ok, []⟩ := by
      simp only [doSetCarrier, carrierModeOf_eq hm, prescaleOf_eq hx]
      rw [onCarrier_of_holds hholds, if_neg (mt State.anyDriving_iff.mp hrest)]
      by_cases h : m = 1 <;> simp only [h, if_true, if_false] <;> rfl
    exact exec_answered (i := .setCarrier p seq g m e) hready rfl nofun ha hquiet
  · have ha : doStart p g s = s.refuse .busy [] := by
      rw [doStart, onCarrier_of_holds hholds, hrun]
    exact exec_refused (i := .start p seq g) hready rfl nofun ha
  · have ha : doStart p g s = ⟨restarted { t with
        run := .running, period := 0, divider := ⟨2 ^ t.prescale.val, true⟩, counter := 0
        slope := if t.mode = .edge then .rising else .falling
        leadIn := true, dwell := 0 }, .ok, []⟩ := by
      rw [doStart, onCarrier_of_holds hholds, hrun]
      cases hmode : t.mode <;> simp only [Carrier.restart, reduceCtorEq, if_true, if_false, decide_true,
        show s.carrier.mode = _ from hmode] <;> rfl
    exact exec_answered (i := .start p seq g) hready rfl nofun ha hquiet

end Sys2Proof.Machine
end

section
/-! PROOFS. The queries and READ_SNAPSHOT (chapters 1 to 10): what they answer, and how long an answer is. -/

namespace Sys2Proof.Machine

open Sys2Proof

-- One theorem at a time, as in the tests: proofs that wait for the kernel would each hold a thread.
set_option Elab.async false

/-! ### The length of an answer (R166) -/

@[simp] theorem item1_length (n : Nat) : (item1 n).length = 1 := by simp [item1]

@[simp] theorem item2_length (n : Nat) : (item2 n).length = 2 := by simp [item2]

@[simp] theorem itemBool_length (b : Bool) : (itemBool b).length = 1 := by simp [itemBool]

@[simp] theorem be32_length (d : Dword) : (be32 d).length = 4 := rfl

theorem itemOption_length {width : Nat} {x : Option (List Byte)} (h : ∀ bytes, x = some bytes → bytes.length = width) :
    (itemOption width x).length = width + 1 := by
  cases x with
  | none => simp [itemOption]
  | some bytes => simp [itemOption, h bytes rfl]

theorem Lease.bytes_length {l : Lease} (h : l.waiters.length ≤ 2) : l.bytes.length ≤ 17 := by
  have hwaiters : (l.waiters.flatMap fun w => item1 w.port.number ++ item2 w.interval).length = 3 * l.waiters.length := by
    simp [List.length_flatMap, Nat.mul_comm]
  have hinterval : ∀ x : Option Nat, (itemOption 2 (x.map item2)).length = 3 := fun x =>
    itemOption_length fun _ hx => by
      obtain ⟨n, -, rfl⟩ := Option.map_eq_some_iff.mp hx
      rfl
  cases hp : l.phase <;>
    simp only [Lease.bytes, hp, List.length_append, item1_length, item2_length, itemBool_length, be16_length,
      hwaiters, hinterval] <;> omega

theorem TripRecord.bytes_length (r : TripRecord) : r.bytes.length = 9 := by
  have htag : (itemOption 1 (r.tag.map fun t => [t])).length = 2 := itemOption_length fun _ hx => by
    obtain ⟨n, -, rfl⟩ := Option.map_eq_some_iff.mp hx
    rfl
  simp [TripRecord.bytes, htag]

theorem recordBytes_length (p : LegPhase) : ∀ bytes, p.record?.map TripRecord.bytes = some bytes → bytes.length = 9 := by
  intro bytes h
  obtain ⟨r, -, rfl⟩ := Option.map_eq_some_iff.mp h
  exact r.bytes_length

theorem LegUnit.bytes_length {u : LegUnit} (h : u.queue.length ≤ 8) : u.bytes.length ≤ 77 := by
  have htag : (itemOption 1 (u.phase.active?.map fun a => [a.seg.tag])).length = 2 := itemOption_length fun _ hx => by
    obtain ⟨n, -, rfl⟩ := Option.map_eq_some_iff.mp hx
    rfl
  have hgen : (itemOption 2 (u.phase.active?.map fun a => be16 a.seg.gen)).length = 3 := itemOption_length fun _ hx => by
    obtain ⟨n, -, rfl⟩ := Option.map_eq_some_iff.mp hx
    rfl
  have hheld : (itemOption 1 (u.phase.heldSource.map item1)).length = 2 := itemOption_length fun _ hx => by
    obtain ⟨n, -, rfl⟩ := Option.map_eq_some_iff.mp hx
    rfl
  have hrecord := itemOption_length (recordBytes_length u.phase)
  simp only [LegUnit.bytes, LegConfig.bytes, List.length_append, List.length_map, item1_length, item2_length,
    itemBool_length, htag, hgen, hheld, hrecord]
  omega

theorem LegUnit.outputBytes_length (u : LegUnit) : u.outputBytes.length ≤ 77 := by
  have hkind : u.output.kindBytes.length = 1 := by cases u.output <;> rfl
  have hduty : u.output.dutyBytes.length = 5 := by
    rcases u.output with (_ | _ | _ | _) | _ <;> rfl
  simp only [LegUnit.outputBytes, List.length_append, item1_length, itemBool_length, hkind, hduty]
  omega

theorem tripAnswer_length (s : State) : (doQueryTrip s).data.length ≤ 77 := by
  have hrecord : ∀ n, ((((s.leg n).phase.record?.map TripRecord.bytes).getD []).length ≤ 9) := fun n => by
    cases h : (s.leg n).phase.record?.map TripRecord.bytes with
    | none => simp
    | some bytes => simp [recordBytes_length _ _ h]
  have hlegs : (Leg.all.filter fun n => (s.leg n).phase.isTripped).length ≤ 4 := List.length_filter_le ..
  have hrecords : ∀ ns : List Leg,
      (ns.flatMap fun n => ((s.leg n).phase.record?.map TripRecord.bytes).getD []).length ≤ 9 * ns.length := by
    intro ns
    induction ns with
    | nil => simp
    | cons n ns ih =>
      have := hrecord n
      simp only [List.flatMap_cons, List.length_append, List.length_cons]
      omega
  have hall : (Leg.all.flatMap fun n => (s.leg n).tripBytes).length = 28 := rfl
  have hsome := hrecords (Leg.all.filter fun n => (s.leg n).phase.isTripped)
  simp only [doQueryTrip, List.length_append, itemBool_length, List.length_map, hall]
  omega

theorem Channel.bytes_length (ch : Channel) : ch.bytes.length ≤ 77 := by
  unfold Channel.bytes
  simp only [List.length_append, item1_length, item2_length, itemBool_length, be16_length,
    List.length_cons, List.length_nil]
  omega

theorem snapshot_length (s : State) : (doReadSnapshot s).data.length ≤ 77 := by
  simp [doReadSnapshot, Carrier.snapshot, Channel.snapshot, LegUnit.snapshot, Leg.all]

/-- Settles O14: each query answers with the state as it found it. -/
theorem queriesChangeNothing : Obligations.QueriesChangeNothing := by
  intro p seq b s hready hlegs hleases answers
  have hquiet : s.Quiet := hready.2.2.2.2
  have hleg : b.toNat ≤ 3 → ∃ n, legOf b = some n := fun h => Option.isSome_iff_exists.mp
    (by rw [legOf_isSome]; exact decide_eq_true (Nat.lt_succ_of_le h))
  refine ⟨?_, fun h => ?_, fun h => ?_, fun h => ?_, ?_, ?_, ?_, fun h => ?_, ?_⟩
  · exact ⟨(doQueryPort p s).data, by simp [doQueryPort, PortEngine.roleBytes], exec_answered (i := .queryPort p seq) hready rfl nofun rfl hquiet⟩
  · obtain ⟨r, hr⟩ : ∃ r, resourceOf b = some r := Option.isSome_iff_exists.mp
      (by rw [resourceOf_isSome]; exact decide_eq_true (Nat.lt_succ_of_le h))
    have ha : doQueryLease b s = ⟨s, .ok, item1 r.number ++ (s.lease r).bytes⟩ := by simp only [doQueryLease, hr]
    have hbytes := Lease.bytes_length (hleases.1 r).2.1
    exact ⟨_, by rw [List.length_append, item1_length]; omega,
      exec_answered (i := .queryLease p seq b) hready rfl nofun ha hquiet⟩
  · obtain ⟨n, hn⟩ := hleg h
    have ha : doQueryLeg b s = ⟨s, .ok, (s.leg n).bytes⟩ := by simp only [doQueryLeg, hn]
    exact ⟨_, LegUnit.bytes_length (hlegs n).1, exec_answered (i := .queryLeg p seq b) hready rfl nofun ha hquiet⟩
  · obtain ⟨n, hn⟩ := hleg h
    have ha : doQueryOutput b s = ⟨s, .ok, (s.leg n).outputBytes⟩ := by simp only [doQueryOutput, hn]
    exact ⟨_, LegUnit.outputBytes_length _, exec_answered (i := .queryOutput p seq b) hready rfl nofun ha hquiet⟩
  · exact ⟨_, tripAnswer_length s, exec_answered (i := .queryTrip p seq) hready rfl nofun rfl hquiet⟩
  · exact ⟨s.carrier.bytes, by simp [Carrier.bytes], exec_answered (i := .queryCarrier p seq) hready rfl nofun rfl hquiet⟩
  · exact ⟨(doQuerySync s).data, by simp [doQuerySync, Mark.all],
      exec_answered (i := .querySync p seq) (a := doQuerySync s) hready rfl nofun rfl hquiet⟩
  · obtain ⟨c, hc⟩ : ∃ c, chanOf b = some c := Option.isSome_iff_exists.mp
      (by rw [chanOf_isSome]; exact decide_eq_true (Nat.lt_succ_of_le h))
    have ha : doQueryChannel b s = ⟨s, .ok, (s.chan c).bytes⟩ := by simp only [doQueryChannel, hc]
    exact ⟨_, (s.chan c).bytes_length, exec_answered (i := .queryChannel p seq b) hready rfl nofun ha hquiet⟩
  · exact ⟨(doReadSnapshot s).data, snapshot_length s,
      exec_answered (i := .readSnapshot p seq) (a := doReadSnapshot s) hready rfl nofun rfl hquiet⟩

/-! ### The bytes of an answer (R166) -/

/-- A byte of flags, the first at bit 0. -/
def flagsByte (xs : List Bool) : Byte := BitVec.ofNat 8 (xs.foldr (fun x n => (if x then 1 else 0) + 2 * n) 0)

theorem Causes.mask_eq (c : Causes) : c.mask = flagsByte [c.trip0, c.trip1, c.disarm, c.escalated] := by
  obtain ⟨x, y, z, w⟩ := c
  revert x y z w
  decide

theorem Kinds.mask_eq (k : Kinds) : k.mask = flagsByte [k.direction, k.stall, k.index, k.phaseError, k.capture] := by
  obtain ⟨x, y, z, w, v⟩ := k
  revert x y z w v
  decide

theorem maskOfLegs_eq (s : PerLeg Bool) : maskOfLegs s = flagsByte [s.l0, s.l1, s.l2, s.l3] := by
  obtain ⟨x, y, z, w⟩ := s
  revert x y z w
  decide

theorem item1_resource {b : Byte} {r : Resource} (h : resourceOf b = some r) : item1 r.number = [b] := by
  revert b r
  decide +kernel

theorem flatMap_filter {α β : Type} (xs : List α) (p : α → Bool) (f : α → List β) :
    (xs.filter p).flatMap f = xs.flatMap fun x => if p x then f x else [] := by
  induction xs with
  | nil => rfl
  | cons x xs ih => cases h : p x <;> simp [h, ih]

theorem map_filter_eq_flatMap {α β : Type} (xs : List α) (p : α → Bool) (f : α → β) :
    (xs.filter p).map f = xs.flatMap fun x => if p x then [f x] else [] := by
  rw [← flatMap_filter, List.map_eq_flatMap]

theorem Leg.flatMap_all {β : Type} (f : Leg → List β) : Leg.all.flatMap f = f .l0 ++ f .l1 ++ f .l2 ++ f .l3 := by
  simp [Leg.all]

/-- A command that only reads, answered with its data. -/
theorem exec_read {i : Instr} {p : Port} {f : Frame} {s : State} {found data : List Byte} (hready : s.Ready p)
    (hf : encodeFrame i = some (p, f)) (hcode : ∀ q n c args, i = .unknown q n c args → opcodeOf c = none)
    (ha : answer i s = ⟨s, .ok, found⟩) (h : found = data) :
    exec i s = .next (s.answered p ⟨f.seq, f.code, .ok, data⟩) :=
  h ▸ exec_answered hready hf hcode ha hready.2.2.2.2

/-- Settles O15: each answer, item by item. -/
theorem queryAnswersHold : Obligations.QueryAnswersHold := by
  intro p seq b s hready e t byte two role chan leg flag bits maybe kinds cause record low drive pattern legState answers
  have hrecord : ∀ r : TripRecord, r.bytes = record r := fun r => by
    simp only [TripRecord.bytes, Causes.mask_eq, record]
    cases r.first <;> cases r.tag <;> rfl
  have hlow : ∀ x : Pattern, item1 x.code = [low x] := fun x => by cases x <;> rfl
  have hresponse : ∀ x : Trip0Response, item1 x.code = [flag (decide (x = .cycle))] := fun x => by cases x <;> rfl
  have hdrive : ∀ d : Drive, (Output.drive d).kindBytes ++ (Output.drive d).dutyBytes = drive d := fun d => by
    rcases d with ⟨duty, sides⟩ | _ | _ | _
    · cases sides <;> rfl
    all_goals rfl
  have hpattern : ∀ x : Pattern, (Output.pattern x).kindBytes ++ (Output.pattern x).dutyBytes = pattern x := fun x => by
    cases x <;> rfl
  have hcounted : ∀ x : SideState, BitVec.ofNat 8 x.counted = if x.demand then byte x.count else 0 := fun x => by
    unfold SideState.counted
    split <;> rfl
  refine ⟨fun r hr => ?_, fun n hn => ⟨?_, ?_⟩, ?_, ?_, fun c hc => ?_, rfl, rfl, rfl, rfl, rfl, ?_, ?_, ?_⟩
  · intro l
    refine exec_read (i := .queryLease p seq b) (found := [b] ++ l.bytes) hready rfl nofun ?_ ?_
    · show doQueryLease b s = _
      simp only [doQueryLease, hr, item1_resource hr]
      rfl
    · unfold Lease.bytes
      cases hp : l.phase <;> simp only [Lease.holder?, hp] <;> rfl
  · refine exec_read (i := .queryLeg p seq b) (found := (s.leg n).bytes) hready rfl nofun ?_ ?_
    · show doQueryLeg b s = _
      simp only [doQueryLeg, hn]
    · generalize s.leg n = u
      unfold LegUnit.bytes LegConfig.bytes
      rcases hp : u.phase with _ | a | (_ | _) | r <;>
        simp only [LegPhase.active?, LegPhase.heldSource, LegPhase.record?, legState, hp, hlow, hresponse, ← hrecord]
      · rfl
      · cases hc : a.cut <;> simp only [Option.map, hc] <;> rfl
      all_goals rfl
  · refine exec_read (i := .queryOutput p seq b) (found := (s.leg n).outputBytes) hready rfl nofun ?_ ?_
    · show doQueryOutput b s = _
      simp only [doQueryOutput, hn]
    · generalize s.leg n = u
      unfold LegUnit.outputBytes LegUnit.output
      rcases hp : u.phase with _ | a | (_ | _) | r <;> simp only [← hdrive, ← hpattern]
      all_goals
        simp only [item1, itemBool, bitByte, hcounted, List.append_assoc, List.cons_append, List.nil_append]
        rfl
  · intro each
    refine exec_read (i := .queryTrip p seq) (found := (doQueryTrip s).data) hready rfl nofun rfl ?_
    have hbytes : ∀ n, (s.leg n).tripBytes = [legState (s.leg n), flag (decide ((s.leg n).config.response = .cycle)),
        byte (s.leg n).config.escalation, flag (s.leg n).stage.cycleCut, flag (s.leg n).limited,
        byte (s.leg n).runCount, byte (s.leg n).tripCount] := fun n => by
      simp only [LegUnit.tripBytes, hresponse, legState]
      cases (s.leg n).phase <;> rfl
    have hrecords : ∀ n, (if (s.leg n).phase.isTripped then
          ((s.leg n).phase.record?.map TripRecord.bytes).getD [] else []) = (match (s.leg n).phase with
        | .tripped r => record r
        | _ => []) := fun n => by
      cases h : (s.leg n).phase <;> simp [LegPhase.isTripped, LegPhase.record?, hrecord]
    have hblocking : ∀ n, (if (s.leg n).phase.isTripped then [(s.blocking n).mask] else []) = (match (s.leg n).phase with
        | .tripped r => [bits [s.trip.trip0.level && (decide ((s.leg n).config.response = .latch)
            || decide (r.first = .escalated)), s.trip.trip1.level, !s.trip.arm.level, false]]
        | _ => []) := fun n => by
      cases h : (s.leg n).phase <;> simp [LegPhase.isTripped, State.blocking, Causes.mask_eq, flagsByte, bits, byte, h]
    simp only [doQueryTrip, flatMap_filter, map_filter_eq_flatMap, Leg.flatMap_all, hbytes, hrecords, hblocking]
    rfl
  · refine exec_read (i := .querySync p seq) (found := (doQuerySync s).data) hready rfl nofun rfl ?_
    simp only [doQuerySync, maskOfLegs_eq]
    rfl
  · refine exec_read (i := .queryChannel p seq b) (found := (s.chan c).bytes) hready rfl nofun ?_ ?_
    · show doQueryChannel b s = _
      simp only [doQueryChannel, hc]
    · unfold Channel.bytes
      have hcapture : BitVec.ofNat 8 (s.chan c).capture.code = flag (decide ((s.chan c).capture = .measuring)) := by
        cases (s.chan c).capture <;> rfl
      simp only [Kinds.mask_eq, hcapture, item1, itemBool, bitByte, List.append_assoc, List.cons_append, List.nil_append]
      rfl
  · refine exec_read (i := .queryPort p seq) (found := (doQueryPort p s).data) hready rfl nofun rfl ?_
    have hrole : ∀ q, (s.port q).roleBytes = role q := fun q => by
      simp only [PortEngine.roleBytes, role]
      cases (s.port q).role <;> rfl
    simp only [doQueryPort, hrole, show (s.port p).commands = [] from hready.2.2.1]
    rfl
  · refine exec_read (i := .queryCarrier p seq) (found := t.bytes) hready rfl nofun rfl ?_
    unfold Carrier.bytes
    cases t.run <;> cases t.mode <;> cases t.slope <;> rfl
  · refine exec_read (i := .readSnapshot p seq) (found := (doReadSnapshot s).data) hready rfl nofun rfl ?_
    have hchan : ∀ c, (s.chan c).snapshot = chan c := fun c => by
      simp only [Channel.snapshot, chan]
      cases (s.chan c).stall <;> rfl
    have hleg : ∀ n, (s.leg n).snapshot = leg n := fun n => by
      simp only [LegUnit.snapshot, leg]
      cases (s.leg n).phase <;> rfl
    simp only [doReadSnapshot, Carrier.snapshot, hchan, hleg, Leg.flatMap_all, ← List.append_assoc]
    have hcode : item1 (s.carrier.run.code + 2 * s.carrier.slope.code)
        = [byte ((if t.run = .running then 1 else 0) + if t.slope = .rising then 2 else 0)] := by
      show _ = [byte ((if s.carrier.run = .running then 1 else 0) + if s.carrier.slope = .rising then 2 else 0)]
      cases s.carrier.run <;> cases s.carrier.slope <;> rfl
    rw [hcode]
    rfl

end Sys2Proof.Machine
end

section
/-! PROOFS. A Position Channel as a function of itself, and what one sample of the core clock does to each part
that falls due at it (chapters 2, 4, 5, 7, 8 and 10). -/

namespace Sys2Proof.Machine

open Sys2Proof

-- One theorem at a time, as in the tests: proofs that wait for the kernel would each hold a thread.
set_option Elab.async false

/-! ### A channel and what it takes, the notices left aside (R130 to R142) -/

/-- The channel after an index edge (R138). -/
def Channel.indexed (ch : Channel) : Channel :=
  { ch with
    indexLatch := ch.position
    position := if ch.config.indexUse = .latchAndZero then 0 else ch.position }

/-- The channel after an edge of X in CAPTURE (R141). -/
def Channel.captured (ch : Channel) (x : Bool) : Channel :=
  match ch.capture, activeEdge ch.config.edge (!x) x with
  | .waitFirst, true => { ch with timer := 0, stall := false, widthTaken := false, capture := .measuring }
  | .waitFirst, false => ch
  | .measuring, false => { ch with widthLatch := ch.timer, widthTaken := true }
  | .measuring, true => { ch with periodLatch := ch.timer, timer := 0, widthTaken := false }

/-- The channel after the step, if its newly accepted levels are one. -/
def Channel.stepped (ch : Channel) : CountEvent → Channel
  | .step up => ch.counted up
  | .none | .phaseError => ch

/-- The channel after the levels accepted at one sample. -/
def Channel.accepted (ch : Channel) (x y z : Bool) : Channel :=
  let counted := (ch.withLevels x y z).stepped (ch.countEvent x y)
  let measured := if ch.captureEvent x then counted.captured x else counted
  if ch.indexEvent z then measured.indexed else measured

/-- The channel after the saturation that a tick has just brought about, if any (R140, R142). -/
def Channel.saturated (ch : Channel) (before : Nat) : Channel :=
  if ch.timerRuns = true ∧ before < timerMax ∧ ch.timer = timerMax then
    if ch.config.mode.counting then { ch with timer := timerMax, stall := true, intervalLatch := timerMax }
    else
      { ch with
        periodLatch := timerMax
        widthLatch := if ch.widthTaken then ch.widthLatch else timerMax
        widthTaken := false
        stall := true
        timer := 0
        capture := .waitFirst }
  else ch

/-- The channel after an interval tick with no input change (R139). -/
def Channel.tickTaken (ch : Channel) : Channel := ch.raised.saturated ch.timer

/-- The channel after the levels accepted at one sample, and the interval tick if one comes at it. -/
def Channel.takes (ch : Channel) (tick x y z : Bool) : Channel :=
  if tick then (if ch.counts x y then ch.raised else ch.tickTaken).accepted x y z else ch.accepted x y z

theorem State.setChan_setChan (s : State) (c : Chan) (ch ch' : Channel) :
    (s.setChan c ch).setChan c ch' = s.setChan c ch' := by
  cases c <;> rfl

theorem State.chan_setChan_self (s : State) (c : Chan) : s.setChan c (s.chan c) = s := by
  cases c <;> rfl

theorem State.countStep_chan (s : State) (c d : Chan) (up : Bool) :
    (s.countStep c up).chan d = if d = c then (s.chan c).counted up else s.chan d := by
  unfold State.countStep
  dsimp only
  split <;> simp

theorem State.indexEdge_chan (s : State) (c d : Chan) :
    (s.indexEdge c).chan d = if d = c then (s.chan c).indexed else s.chan d := by
  simp [State.indexEdge, Channel.indexed]

theorem State.captureEdge_chan (s : State) (c d : Chan) (x : Bool) :
    (s.captureEdge c x).chan d = if d = c then (s.chan c).captured x else s.chan d := by
  unfold State.captureEdge Channel.captured
  dsimp only
  by_cases h : d = c
  · subst h
    cases (s.chan d).capture <;> cases activeEdge (s.chan d).config.edge (!x) x <;> simp
  · cases (s.chan c).capture <;> cases activeEdge (s.chan c).config.edge (!x) x <;> simp [h]

theorem State.acceptLevels_chan (s : State) (c d : Chan) (x y z : Bool) :
    (s.acceptLevels c x y z).chan d = if d = c then (s.chan c).accepted x y z else s.chan d := by
  unfold State.acceptLevels Channel.accepted
  dsimp only
  generalize (s.chan c).captureEvent x = capture, (s.chan c).indexEvent z = index
  by_cases h : d = c <;> cases (s.chan c).countEvent x y <;> cases capture <;> cases index <;>
    simp [Channel.stepped, State.indexEdge_chan, State.captureEdge_chan, State.countStep_chan, h]

theorem State.saturate_chan (s : State) (c d : Chan) (before : Nat) :
    (s.saturate c before).chan d = if d = c then (s.chan c).saturated before else s.chan d := by
  unfold State.saturate Channel.saturated
  dsimp only
  by_cases hd : d = c
  · subst hd
    split
    · split <;> simp [State.stallChan, State.saturateCapture]
    · simp
  · split
    · split <;> simp [State.stallChan, State.saturateCapture, hd]
    · simp

theorem State.intervalTicks_chan (s : State) (c d : Chan) :
    (s.intervalTicks c).chan d = if d = c then (s.chan c).tickTaken else s.chan d := by
  rw [State.intervalTicks, State.saturate_chan]
  split <;> simp_all [Channel.tickTaken]

theorem State.tickAndAccept_eq (s : State) (c : Chan) (x y z : Bool) : s.tickAndAccept c x y z
    = (if (s.chan c).counts x y then s.setChan c (s.chan c).raised else s.intervalTicks c).acceptLevels c x y z := by
  unfold State.tickAndAccept Channel.counts State.intervalTicks
  dsimp only
  cases (s.chan c).countEvent x y <;> rfl

/-- The channel after what it takes at a sample; the other is not touched. -/
theorem State.chanTakes_chan (s : State) (c d : Chan) (tick x y z : Bool) :
    (s.chanTakes c tick x y z).chan d = if d = c then (s.chan c).takes tick x y z else s.chan d := by
  unfold State.chanTakes Channel.takes
  cases tick with
  | false => exact State.acceptLevels_chan ..
  | true =>
    simp only [if_true]
    rw [State.tickAndAccept_eq, State.acceptLevels_chan]
    by_cases h : d = c <;> cases (s.chan c).counts x y <;> simp [State.intervalTicks_chan, h]

/-- A channel but for who subscribes to its notices, which nothing that a channel takes depends on. -/
def Channel.core (ch : Channel) : Channel := { ch with subscribers := .ofFn fun _ => .empty }

theorem Channel.accepted_core (ch : Channel) (x y z : Bool) : (ch.accepted x y z).core = ch.core.accepted x y z := by
  have hstep : ∀ ch : Channel, ∀ e, (ch.stepped e).core = ch.core.stepped e := fun ch e => by cases e <;> rfl
  have hcapture : ∀ ch : Channel, (ch.captured x).core = ch.core.captured x := fun ch => by
    obtain ⟨cfg, d, fx, fy, fz, ph, pos, rev, dir, timer, il, ixl, capture, taken, wl, pl, stall, subs⟩ := ch
    unfold Channel.captured Channel.core
    dsimp only
    cases capture <;> cases activeEdge cfg.edge (!x) x <;> rfl
  unfold Channel.accepted
  have hlevels : (ch.withLevels x y z).core = ch.core.withLevels x y z := rfl
  have hc : ch.core.captureEvent x = ch.captureEvent x := rfl
  have hi : ch.core.indexEvent z = ch.indexEvent z := rfl
  have he : ch.core.countEvent x y = ch.countEvent x y := rfl
  rw [hc, hi, he, ← hlevels, ← hstep]
  cases ch.captureEvent x <;> cases ch.indexEvent z <;> simp only [if_true, Bool.false_eq_true, if_false, ← hcapture] <;>
    rfl

theorem Channel.raised_core (ch : Channel) : ch.raised.core = ch.core.raised := by
  unfold Channel.raised
  simp only [show ch.core.timerRuns = ch.timerRuns from rfl, show ch.core.timer = ch.timer from rfl]
  split <;> rfl

theorem Channel.tickTaken_core (ch : Channel) : ch.tickTaken.core = ch.core.tickTaken := by
  have hsaturated : ∀ (ch : Channel) n, (ch.saturated n).core = ch.core.saturated n := fun ch n => by
    unfold Channel.saturated
    simp only [show ch.core.timerRuns = ch.timerRuns from rfl, show ch.core.timer = ch.timer from rfl,
      show ch.core.config = ch.config from rfl]
    split
    · split <;> rfl
    · rfl
  unfold Channel.tickTaken
  rw [hsaturated, Channel.raised_core]
  rfl

theorem Channel.takes_core (ch : Channel) (tick x y z : Bool) : (ch.takes tick x y z).core = ch.core.takes tick x y z := by
  unfold Channel.takes
  rw [show ch.core.counts x y = ch.counts x y from rfl]
  cases tick
  · exact Channel.accepted_core ..
  · cases ch.counts x y
    · simp only [if_true, Bool.false_eq_true, if_false]
      rw [Channel.accepted_core, Channel.tickTaken_core]
    · simp only [if_true]
      rw [Channel.accepted_core, Channel.raised_core]

/-! ### The free order of what falls due at one sample -/

theorem shuffle_perm {α : Type} (xs : List α) (k : Nat) : (shuffle k xs.length xs).Perm xs := by
  induction hn : xs.length generalizing xs k with
  | zero => simp [List.length_eq_zero_iff.mp hn, shuffle]
  | succ n ih =>
    cases xs with
    | nil => simp at hn
    | cons x xs =>
      have hlt : Config.pick k (x :: xs).length < (x :: xs).length := Config.pick_lt _ (Nat.succ_pos _)
      simp only [shuffle]
      rw [List.getD_eq_getElem _ _ hlt]
      refine ((ih _ (k + 1) ?_).cons _).trans (List.getElem_cons_eraseIdx_perm hlt)
      rw [List.length_eraseIdx_of_lt hlt, hn]
      rfl

/-- All that can fall due at one sample. -/
def Due.all : List Due :=
  [.trip0] ++ [.trip1] ++ [.arm] ++ Port.all.map .presence ++ Chan.all.map .chan ++ [.carrier] ++ [.lease]

theorem Due.all_nodup : Due.all.Nodup := by decide

theorem Due.mem_all (d : Due) : d ∈ Due.all := by
  cases d with
  | presence p => cases p <;> decide
  | chan c => cases c <;> decide
  | _ => decide

/-- Whether it falls due at the sample in progress. -/
def State.fallsDue (s : State) : Due → Bool
  | .trip0 => s.trip.trip0.accepts trip0Width
  | .trip1 => s.trip.trip1.accepts slowWidth
  | .arm => s.trip.arm.accepts slowWidth
  | .presence p => (s.port p).presence.accepts slowWidth
  | .chan c => (s.chan c).accepting || ((s.chan c).divider.due && (s.chan c).timerRuns)
  | .carrier => decide (s.carrier.run = .running ∧ s.carrier.divider.due = true)
  | .lease => s.leaseClock.divider.due

theorem State.due_eq (s : State) : s.due = Due.all.filter s.fallsDue := by
  simp only [State.due, Due.all, List.filter_append, List.filter_map, List.filter_singleton, State.fallsDue,
    Bool.cond_eq_ite, decide_eq_true_eq]
  rfl

/-- What one sample shows in a view of the state that one thing alone can touch: that thing is taken where it falls
due, from a state with the same view as the counted sample, and nothing happens where it does not. -/
theorem State.liveSample_view {β : Type} {view : State → β} {d : Due} (s : State)
    (hend : ∀ t : State, view t.sampleStages.deliver = view t) (hchoices : ∀ (t : State) k, view (t.setChoices k) = view t)
    (hother : ∀ t k, k ≠ d → view (State.take s t k) = view t) :
    (s.fallsDue d = true → ∃ t, view t = view s.pass ∧ view s.liveSample = view (State.take s t d))
      ∧ (s.fallsDue d = false → view s.liveSample = view s.pass) := by
  have hperm := shuffle_perm s.due s.choices
  have hmem : d ∈ shuffle s.choices s.due.length s.due ↔ s.fallsDue d = true := by
    rw [hperm.mem_iff, State.due_eq, List.mem_filter]
    exact and_iff_right (Due.mem_all d)
  have hnodup : (shuffle s.choices s.due.length s.due).Nodup :=
    hperm.nodup_iff.mpr (State.due_eq s ▸ Due.all_nodup.filter _)
  unfold State.liveSample
  dsimp only
  rw [hend]
  refine ⟨fun h => ?_, fun h => ?_⟩
  · obtain ⟨t, ht, hfold⟩ := foldl_view_at hother (hmem.mpr h) hnodup (s.pass.setChoices (s.choices + s.due.length))
    exact ⟨t, ht.trans (hchoices _ _), hfold⟩
  · refine List.foldlRecOn _ _ (motive := fun t => view t = view s.pass) (hchoices _ _) fun t ht k hk => ?_
    rw [hother t k (by rintro rfl; exact absurd (hmem.mp hk) (by simp [h])), ht]

/-! ### The clocks after one sample (R27, R87) -/

/-- The Carrier Timer after one tick of its divider (R28 to R32). -/
def Carrier.ticked (t : Carrier) : Carrier :=
  match t.run with
  | .stopped => t
  | .running => if t.boundaryDue then t.boundary else t.count

theorem State.carrierTicks_carrier (s : State) : s.carrierTicks.carrier = s.carrier.ticked := by
  unfold State.carrierTicks Carrier.ticked
  cases s.carrier.run with
  | stopped => rfl
  | running => cases h : s.carrier.boundaryDue <;> simp

theorem State.take_leaseClock (b s : State) (d : Due) (h : d ≠ .lease) : (State.take b s d).leaseClock = s.leaseClock := by
  cases d with
  | lease => exact absurd rfl h
  | chan c => simp [State.take, State.chanFallsDue]
  | carrier => simp [State.take]
  | _ => simp only [State.take]; split <;> simp [State.trip0Falls, State.trip1Falls, State.armRises, State.presenceRises]

theorem State.leaseTickAll_leaseClock (s : State) :
    s.leaseTickAll.leaseClock = { s.leaseClock with number := s.leaseClock.number + 1 } := by
  rw [State.leaseTickAll, foldl_frame State.leaseClock State.leaseCount State.leaseCount_leaseClock]
  rfl

/-- The lease clock after one sample: its divider runs, and the tick number rises at its tick (R87, R175). -/
theorem State.liveSample_leaseClock (s : State) : s.liveSample.leaseClock = ⟨s.leaseClock.divider.pass leaseTickSamples,
    if s.leaseClock.divider.due then s.leaseClock.number + 1 else s.leaseClock.number⟩ := by
  obtain ⟨hdue, hrest⟩ := s.liveSample_view (view := State.leaseClock) (d := .lease) (by simp) (fun _ _ => rfl)
    (State.take_leaseClock s)
  cases h : s.leaseClock.divider.due with
  | true =>
    obtain ⟨t, ht, hs⟩ := hdue h
    rw [hs, State.take, State.leaseTickAll_leaseClock, ht]
    rfl
  | false => exact hrest h

theorem State.take_carrier (b s : State) (d : Due) (h : d ≠ .carrier) : (State.take b s d).carrier = s.carrier := by
  cases d with
  | carrier => exact absurd rfl h
  | chan c => simp [State.take, State.chanFallsDue]
  | lease => simp [State.take]
  | _ => simp only [State.take]; split <;> simp [State.trip0Falls, State.trip1Falls, State.armRises, State.presenceRises]

/-- The Carrier Timer after one sample: its divider runs, and at its tick it counts, while RUNNING (R27). -/
theorem State.liveSample_carrier (s : State) : s.liveSample.carrier
    = if s.carrier.run = .running ∧ s.carrier.divider.due = true then s.carrier.pass.ticked else s.carrier.pass := by
  obtain ⟨hdue, hrest⟩ := s.liveSample_view (view := State.carrier) (d := .carrier) (by simp) (fun _ _ => rfl)
    (State.take_carrier s)
  split
  · next h =>
    obtain ⟨t, ht, hs⟩ := hdue (decide_eq_true h)
    rw [hs, State.take, State.carrierTicks_carrier, ht]
    rfl
  · next h => exact hrest (decide_eq_false h)

/-! ### The input filters after one sample (R110, R130, R171) -/

/-- A filter after one sample. -/
def Filter.sampled (width : Nat) (f : Filter) : Filter :=
  if f.accepts width then .settled f.pin else f.wait width

theorem State.take_trip0 (b s : State) :
    (State.take b s .trip0).trip = { s.trip with trip0 := .settled b.trip.trip0.pin } := by
  simp only [State.take]
  cases b.trip.trip0.pin with
  | true => exact (foldl_frame State.trip State.trip0Reaches State.trip0Reaches_trip _ _).trans (by simp)
  | false => rfl

theorem State.take_trip1 (b s : State) :
    (State.take b s .trip1).trip = { s.trip with trip1 := .settled b.trip.trip1.pin } := by
  simp only [State.take]
  cases b.trip.trip1.pin with
  | true => exact (foldl_frame State.trip _ (fun s n => State.causeArises_trip s n .trip1) _ _).trans (by simp)
  | false => rfl

theorem State.take_arm (b s : State) : (State.take b s .arm).trip = { s.trip with arm := .settled b.trip.arm.pin } := by
  simp only [State.take]
  cases b.trip.arm.pin with
  | true => rfl
  | false => exact (foldl_frame State.trip _ (fun s n => State.causeArises_trip s n .disarm) _ _).trans (by simp)

theorem State.take_trip (b s : State) (d : Due) (h0 : d ≠ .trip0) (h1 : d ≠ .trip1) (ha : d ≠ .arm) :
    (State.take b s d).trip = s.trip := by
  cases d with
  | trip0 | trip1 | arm => contradiction
  | chan c => simp [State.take, State.chanFallsDue]
  | lease | carrier => simp [State.take]
  | presence p => simp only [State.take]; split <;> simp [State.presenceRises]

/-- A filter that one thing alone can set, after one sample. -/
theorem State.liveSample_filter {f : State → Filter} {w : Nat} {d : Due} (s : State) (hdue : s.fallsDue d = (f s).accepts w)
    (hend : ∀ t : State, f t.sampleStages.deliver = f t) (hchoices : ∀ (t : State) k, f (t.setChoices k) = f t)
    (hother : ∀ t k, k ≠ d → f (State.take s t k) = f t) (hpass : f s.pass = (f s).wait w)
    (htake : ∀ t, f (State.take s t d) = .settled (f s).pin) : f s.liveSample = (f s).sampled w := by
  obtain ⟨h1, h2⟩ := s.liveSample_view (view := f) hend hchoices hother
  unfold Filter.sampled
  cases h : (f s).accepts w with
  | true =>
    obtain ⟨t, -, hs⟩ := h1 (hdue.trans h)
    rw [hs, htake]
    rfl
  | false => exact (h2 (hdue.trans h)).trans hpass

theorem State.liveSample_trip0 (s : State) : s.liveSample.trip.trip0 = s.trip.trip0.sampled trip0Width := by
  refine s.liveSample_filter (f := fun t => t.trip.trip0) (d := .trip0) rfl (by simp) (fun _ _ => rfl) (fun t k hk => ?_) rfl
    fun t => by rw [State.take_trip0]
  by_cases h1 : k = .trip1
  · rw [h1, State.take_trip1]
  by_cases ha : k = .arm
  · rw [ha, State.take_arm]
  rw [State.take_trip s t k hk h1 ha]

theorem State.liveSample_trip1 (s : State) : s.liveSample.trip.trip1 = s.trip.trip1.sampled slowWidth := by
  refine s.liveSample_filter (f := fun t => t.trip.trip1) (d := .trip1) rfl (by simp) (fun _ _ => rfl) (fun t k hk => ?_) rfl
    fun t => by rw [State.take_trip1]
  by_cases h0 : k = .trip0
  · rw [h0, State.take_trip0]
  by_cases ha : k = .arm
  · rw [ha, State.take_arm]
  rw [State.take_trip s t k h0 hk ha]

theorem State.liveSample_arm (s : State) : s.liveSample.trip.arm = s.trip.arm.sampled slowWidth := by
  refine s.liveSample_filter (f := fun t => t.trip.arm) (d := .arm) rfl (by simp) (fun _ _ => rfl) (fun t k hk => ?_) rfl
    fun t => by rw [State.take_arm]
  by_cases h0 : k = .trip0
  · rw [h0, State.take_trip0]
  by_cases h1 : k = .trip1
  · rw [h1, State.take_trip1]
  rw [State.take_trip s t k h0 h1 hk]

theorem State.pass_port (s : State) (p : Port) : s.pass.port p = (s.port p).pass := by cases p <;> rfl

theorem State.pass_chan (s : State) (c : Chan) : s.pass.chan c = (s.chan c).pass := by cases c <;> rfl

/-- What falls due touches no port engine but that of a port whose presence changes. -/
theorem State.take_port (b s : State) (d : Due) (p : Port) (h : d ≠ .presence p) :
    (State.take b s d).port p = s.port p := by
  cases d with
  | presence q =>
    have hq : p ≠ q := fun hq => h (hq ▸ rfl)
    simp only [State.take]
    split
    · simp [State.presenceRises, hq]
    · rw [State.presenceFalls_port, if_neg hq]
  | chan c => simp [State.take, State.chanFallsDue]
  | lease | carrier => simp [State.take]
  | trip0 | trip1 | arm =>
    simp only [State.take]; split <;> simp [State.trip0Falls, State.trip1Falls, State.armRises]

theorem State.liveSample_presence (s : State) (p : Port) :
    (s.liveSample.port p).presence = (s.port p).presence.sampled slowWidth := by
  refine s.liveSample_filter (f := fun t => (t.port p).presence) (d := .presence p) rfl (by simp) (fun _ _ => rfl)
    (fun t k hk => by rw [State.take_port s t k p hk]) (by simp [State.pass_port, PortEngine.pass]) fun t => ?_
  simp only [State.take]
  cases (s.port p).presence.pin with
  | true => simp [State.presenceRises]
  | false => simp [State.presenceFalls_port, PortEngine.fall]

/-! ### The channels after one sample (R130, R139) -/

/-- A channel after one sample, but for who subscribes to it. -/
def Channel.sampled (ch : Channel) : Channel :=
  let w := ch.config.filter.samples
  if ch.accepting || (ch.divider.due && ch.timerRuns) then
    ch.pass.takes ch.divider.due (ch.x.after w) (ch.y.after w) (ch.z.after w)
  else ch.pass

/-- What falls due touches no channel but its own, but for the subscriptions of a port that falls. -/
theorem State.take_chan_core (b s : State) (d : Due) (c : Chan) (h : d ≠ .chan c) :
    ((State.take b s d).chan c).core = (s.chan c).core := by
  cases d with
  | chan e =>
    have he : c ≠ e := fun he => h (he ▸ rfl)
    simp [State.take, State.chanFallsDue, State.chanTakes_chan, he]
  | presence q =>
    simp only [State.take]
    split
    · simp [State.presenceRises]
    · rw [State.presenceFalls_chan]
      rfl
  | lease | carrier => simp [State.take]
  | trip0 | trip1 | arm =>
    simp only [State.take]; split <;> simp [State.trip0Falls, State.trip1Falls, State.armRises]

theorem State.liveSample_chan_core (s : State) (c : Chan) : (s.liveSample.chan c).core = (s.chan c).sampled.core := by
  obtain ⟨hdue, hrest⟩ := s.liveSample_view (view := fun t => (t.chan c).core) (d := .chan c) (by simp)
    (fun _ _ => rfl) (fun t k hk => State.take_chan_core s t k c hk)
  unfold Channel.sampled
  cases h : (s.chan c).accepting || ((s.chan c).divider.due && (s.chan c).timerRuns) with
  | true =>
    obtain ⟨t, ht, hs⟩ := hdue h
    rw [hs, State.take, State.chanFallsDue, State.chanTakes_chan, if_pos rfl, Channel.takes_core, ht, State.pass_chan,
      ← Channel.takes_core]
    rfl
  | false =>
    rw [hrest h, State.pass_chan]
    rfl

/-! ### The output stages after one sample (R62) -/

/-- What only a sample changes of a leg but for SET_LEG: the settings, the levels that the last sample left and the
dead-time counts. -/
def LegUnit.history (u : LegUnit) : LegConfig × (Bool × Nat) × (Bool × Nat) :=
  (u.config, (u.stage.high.driven, u.stage.high.count), (u.stage.low.driven, u.stage.low.count))

@[simp] theorem LegUnit.history_settle (u : LegUnit) (n : Nat) : (u.settle n).history = u.history := rfl

@[simp] theorem LegUnit.history_toIdle (u : LegUnit) : u.toIdle.history = u.history := rfl

@[simp] theorem LegUnit.history_planGone (u : LegUnit) : u.planGone.history = u.history := by
  unfold LegUnit.planGone LegUnit.cutForLease
  split <;> rfl

@[simp] theorem LegUnit.history_examine (u : LegUnit) (c : Chan) (position : Nat) (up : Bool) :
    (u.examine c position up).history = u.history := by
  unfold LegUnit.examine
  split
  · split
    · split <;> rfl
    · rfl
  all_goals rfl

@[simp] theorem LegUnit.history_caused (u : LegUnit) (c : Cause) (period : Dword) (counter : Nat) :
    (u.caused c period counter).history = u.history := by
  unfold LegUnit.caused
  split <;> rfl

@[simp] theorem LegUnit.history_followed (u : LegUnit) (answer : Option SyncAnswer) (counter : Nat) :
    (u.followed answer counter).history = u.history := by
  unfold LegUnit.followed
  split
  · split <;> rfl
  · split <;> rfl

@[simp] theorem LegUnit.history_taken (u : LegUnit) (answer : Option SyncAnswer) (counter : Nat) :
    (u.taken answer counter).history = u.history := by
  unfold LegUnit.taken
  split
  · rfl
  · split
    · rfl
    · exact LegUnit.history_followed ..
  all_goals exact LegUnit.history_followed ..

@[simp] theorem LegUnit.history_escalated (u : LegUnit) (run : Nat) (period : Dword) (counter : Nat) :
    (u.escalated run period counter).history = u.history := LegUnit.history_caused ..

@[simp] theorem LegUnit.history_closed (u before : LegUnit) (trip0 : Bool) (period : Dword) (counter : Nat) :
    (u.closed before trip0 period counter).history = u.history := by
  unfold LegUnit.closed
  split
  · split <;> rfl
  · rfl
  all_goals
    split
    · exact LegUnit.history_escalated ..
    · rfl

theorem State.history_causeArises (s : State) (n k : Leg) (c : Cause) :
    ((s.causeArises n c).leg k).history = (s.leg k).history := by
  rw [State.causeArises_leg]
  split <;> simp

theorem State.history_trip0Reaches (s : State) (n k : Leg) : ((s.trip0Reaches n).leg k).history = (s.leg k).history := by
  rcases s.trip0Reaches_cases n with h | h | h
  · rw [h]
  · rw [h, State.history_causeArises]
  · rw [h, State.setCut_leg]
    split <;> rfl

theorem State.history_endLease (s : State) (r : Resource) (k : Leg) :
    ((s.endLease r).leg k).history = (s.leg k).history := by
  rw [State.endLease_leg]
  split <;> simp

theorem State.history_boundaryWith (s : State) (first : PerLeg Bool) (k : Leg) :
    ((s.boundaryWith first).leg k).history = (s.leg k).history := by
  unfold State.boundaryWith
  dsimp only
  rw [State.settleAll_leg, LegUnit.history_settle]
  have hclose : ∀ (t : State) before, ((t.tripUnitTakes before).leg k).history = (t.leg k).history := fun t before =>
    foldl_frame (fun t => (t.leg k).history) _ (fun t n => by rw [State.closePeriod_leg]; split <;> simp) _ _
  have htake : ∀ (t : State) answers, ((t.legsTake answers).leg k).history = (t.leg k).history := fun t answers =>
    foldl_frame (fun t => (t.leg k).history) _ (fun t n => by rw [State.takeBoundary_leg]; split <;> simp) _ _
  have hearly : ∀ t : State, ((t.escalateEarly first).leg k).history = (t.leg k).history := fun t =>
    foldl_frame (fun t => (t.leg k).history) _ (fun t n => by
      split
      · rw [State.escalate_leg]
        split <;> simp
      · rfl) _ _
  rw [hclose, State.syncBoundary_leg, htake, hearly]
  rfl

theorem State.history_leaseCount (s : State) (r : Resource) (k : Leg) :
    ((s.leaseCount r).leg k).history = (s.leg k).history := by
  unfold State.leaseCount
  split
  · rfl
  · rfl
  · split
    · simp [State.expire, State.history_endLease]
    · split <;> simp

/-- What falls due at a sample keeps every leg's settings, and the levels and counts that the last sample left. -/
theorem State.take_history (b s : State) (d : Due) (k : Leg) : ((State.take b s d).leg k).history = (s.leg k).history := by
  cases d with
  | trip0 =>
    simp only [State.take]
    split
    · exact foldl_frame (fun t => (t.leg k).history) _ (fun t n => State.history_trip0Reaches t n k) _ _
    · rfl
  | trip1 =>
    simp only [State.take]
    split
    · exact foldl_frame (fun t => (t.leg k).history) _ (fun t n => State.history_causeArises t n k _) _ _
    · rfl
  | arm =>
    simp only [State.take]
    split
    · rfl
    · exact foldl_frame (fun t => (t.leg k).history) _ (fun t n => State.history_causeArises t n k _) _ _
  | presence p =>
    simp only [State.take]
    split
    · rfl
    · refine (foldl_frame (fun t => (t.leg k).history) _ (fun t r => ?_) _ _).trans ?_
      · unfold State.endIfHeld
        split
        · exact State.history_endLease ..
        · rfl
      · simp
  | chan c =>
    simp only [State.take, State.chanFallsDue]
    rcases State.chanTakes_leg _ _ _ _ _ _ k with h | ⟨d, position, up, h⟩ <;> rw [h]
    exact LegUnit.history_examine ..
  | carrier =>
    simp only [State.take, State.carrierTicks]
    split
    · rfl
    · split
      · exact State.history_boundaryWith ..
      · simp
  | lease =>
    exact foldl_frame (fun t => (t.leg k).history) _ (fun t r => State.history_leaseCount t r k) _ _

/-- A leg after one sample is judged with the settings, levels and counts that it had before, by the demands that
stand after what fell due (R62). -/
theorem State.liveSample_leg (s : State) (n : Leg) :
    ∃ u : LegUnit, s.liveSample.leg n = u.sample ∧ u.history = (s.leg n).history := by
  refine ⟨((shuffle s.choices s.due.length s.due).foldl (State.take s)
    (s.pass.setChoices (s.choices + s.due.length))).leg n, ?_, ?_⟩
  · simp [State.liveSample]
  · rw [foldl_frame (fun t => (t.leg n).history) _ (fun t d => State.take_history s t d n)]
    rfl

end Sys2Proof.Machine
end

section
/-! PROOFS. An idle step as one sample, the turn-on of a side, and the tick of the carrier (chapters 2, 4, 5, 8 and
10). -/

namespace Sys2Proof.Machine

open Sys2Proof

-- One theorem at a time, as in the tests: proofs that wait for the kernel would each hold a thread.
set_option Elab.async false

/-! ### A channel's inputs and divider after one sample (R130, R139) -/

/-- What of a channel its inputs and its divider alone change. -/
def Channel.inputs (ch : Channel) : ChanConfig × Divider × Filter × Filter × Filter × Nat :=
  (ch.config, ch.divider, ch.x, ch.y, ch.z, ch.phase)

theorem Channel.inputs_raised (ch : Channel) : ch.raised.inputs = ch.inputs := by
  unfold Channel.raised
  split <;> rfl

theorem Channel.inputs_tickTaken (ch : Channel) : ch.tickTaken.inputs = ch.inputs := by
  rw [← ch.inputs_raised]
  unfold Channel.tickTaken Channel.saturated
  split
  · split <;> rfl
  · rfl

theorem Channel.inputs_accepted (ch : Channel) (x y z : Bool) :
    (ch.accepted x y z).inputs = (ch.withLevels x y z).inputs := by
  have hstep : ∀ (ch : Channel) e, (ch.stepped e).inputs = ch.inputs := fun ch e => by cases e <;> rfl
  have hcapture : ∀ ch : Channel, (ch.captured x).inputs = ch.inputs := fun ch => by
    unfold Channel.captured
    split <;> rfl
  have hindex : ∀ ch : Channel, ch.indexed.inputs = ch.inputs := fun _ => rfl
  unfold Channel.accepted
  dsimp only
  split <;> split <;> simp only [hindex, hcapture, hstep]

theorem Channel.inputs_withLevels {ch ch' : Channel} (h : ch.inputs = ch'.inputs) (x y z : Bool) :
    (ch.withLevels x y z).inputs = (ch'.withLevels x y z).inputs := by
  simp only [Channel.inputs, Prod.mk.injEq] at h
  obtain ⟨hc, hd, hx, hy, hz, hp⟩ := h
  simp only [Channel.inputs, Channel.withLevels, hc, hd, hx, hy, hz]

theorem Channel.inputs_takes (ch : Channel) (tick x y z : Bool) :
    (ch.takes tick x y z).inputs = (ch.withLevels x y z).inputs := by
  unfold Channel.takes
  split
  · rw [Channel.inputs_accepted]
    split
    · exact Channel.inputs_withLevels ch.inputs_raised x y z
    · exact Channel.inputs_withLevels ch.inputs_tickTaken x y z
  · exact Channel.inputs_accepted ..

theorem Filter.withLevel_after (f : Filter) (w : Nat) :
    (if (f.wait w).level = f.after w then f.wait w else .settled (f.after w)) = f.sampled w := by
  rw [Filter.wait_level]
  unfold Filter.after Filter.sampled
  cases h : f.accepts w with
  | true =>
    have hne : f.level ≠ f.pin := by
      intro hl
      simp [Filter.accepts, hl] at h
    simp [hne]
  | false => simp

theorem Channel.not_accepting {ch : Channel} (h : ch.accepting = false) :
    ch.x.accepts ch.config.filter.samples = false ∧ ch.y.accepts ch.config.filter.samples = false
      ∧ ch.z.accepts ch.config.filter.samples = false := by
  simpa [Channel.accepting, and_assoc] using h

/-- A channel's filters and divider after one sample. -/
theorem Channel.sampled_inputs (ch : Channel) :
    ch.sampled.config = ch.config ∧ ch.sampled.divider = ch.divider.pass (2 ^ ch.config.prescale.val)
      ∧ ch.sampled.x = ch.x.sampled ch.config.filter.samples ∧ ch.sampled.y = ch.y.sampled ch.config.filter.samples
      ∧ ch.sampled.z = ch.z.sampled ch.config.filter.samples := by
  unfold Channel.sampled
  dsimp only
  split
  · have h := ch.pass.inputs_takes ch.divider.due (ch.x.after ch.config.filter.samples)
      (ch.y.after ch.config.filter.samples) (ch.z.after ch.config.filter.samples)
    simp only [Channel.inputs, Prod.mk.injEq] at h
    obtain ⟨hc, hd, hx, hy, hz, -⟩ := h
    exact ⟨hc, hd, hx.trans (Filter.withLevel_after ..), hy.trans (Filter.withLevel_after ..),
      hz.trans (Filter.withLevel_after ..)⟩
  · next h =>
    obtain ⟨hx, hy, hz⟩ := Channel.not_accepting (ch := ch) (by
      simp only [Bool.or_eq_true, not_or, Bool.not_eq_true] at h
      exact h.1)
    simp [Channel.pass, Filter.sampled, hx, hy, hz, prescaleSamples]

theorem Divider.due_eq (d : Divider) : d.due = true ↔ d.fresh = false ∧ d.toTick ≤ 1 := by
  simp [Divider.due]

/-! ### A channel's counts and latches after one sample (R139) -/

/-- What of a channel its inputs, its divider and its subscribers are not. -/
def Channel.inner (ch : Channel) : ChanConfig × (Nat × Half × Direction) × (Nat × Nat × Nat) × (CaptureState × Bool)
    × (Nat × Nat × Bool) :=
  (ch.config, (ch.position, ch.revolutions, ch.direction), (ch.timer, ch.intervalLatch, ch.indexLatch),
    (ch.capture, ch.widthTaken), (ch.widthLatch, ch.periodLatch, ch.stall))

theorem Channel.eq_of_inner {ch ch' : Channel} (h : ch.inner = ch'.inner) :
    ch = { ch' with x := ch.x, y := ch.y, z := ch.z, phase := ch.phase, divider := ch.divider,
                    subscribers := ch.subscribers } := by
  cases ch
  cases ch'
  simp only [Channel.inner, Prod.mk.injEq] at h
  obtain ⟨rfl, ⟨rfl, rfl, rfl⟩, ⟨rfl, rfl, rfl⟩, ⟨rfl, rfl⟩, ⟨rfl, rfl, rfl⟩⟩ := h
  rfl

theorem Channel.timerRuns_of_inner {ch ch' : Channel} (h : ch.inner = ch'.inner) :
    ch.timerRuns = ch'.timerRuns ∧ ch.timer = ch'.timer ∧ ch.config = ch'.config := by
  rw [Channel.eq_of_inner h]
  exact ⟨rfl, rfl, rfl⟩

theorem Channel.inner_raised {ch ch' : Channel} (h : ch.inner = ch'.inner) : ch.raised.inner = ch'.raised.inner := by
  obtain ⟨hruns, htimer, -⟩ := Channel.timerRuns_of_inner h
  unfold Channel.raised
  rw [hruns, htimer]
  split
  · simp only [Channel.inner, Prod.mk.injEq] at h ⊢
    simp only [h, and_self]
  · exact h

theorem Channel.inner_saturated {ch ch' : Channel} (h : ch.inner = ch'.inner) (n : Nat) :
    (ch.saturated n).inner = (ch'.saturated n).inner := by
  obtain ⟨hruns, htimer, hconfig⟩ := Channel.timerRuns_of_inner h
  unfold Channel.saturated
  rw [hruns, htimer, hconfig]
  split
  · split
    · simp only [Channel.inner, Prod.mk.injEq] at h ⊢
      simp only [h, and_self]
    · simp only [Channel.inner, Prod.mk.injEq] at h ⊢
      simp only [h, and_self]
  · exact h

/-- What an interval tick makes of a channel's counts depends on them alone (R139, R140, R142). -/
theorem Channel.inner_tickTaken {ch ch' : Channel} (h : ch.inner = ch'.inner) :
    ch.tickTaken.inner = ch'.tickTaken.inner := by
  have htimer : ch.timer = ch'.timer := congrArg (fun i => i.2.2.1.1) h
  rw [Channel.tickTaken, Channel.tickTaken, htimer]
  exact Channel.inner_saturated (Channel.inner_raised h) _

theorem Channel.tickTaken_stopped {ch : Channel} (h : ch.timerRuns = false) : ch.tickTaken = ch := by
  simp [Channel.tickTaken, Channel.raised, Channel.saturated, h]

/-- Levels that are accepted already change no count. -/
theorem Channel.inner_accepted_same (ch : Channel) :
    (ch.accepted ch.x.level ch.y.level ch.z.level).inner = ch.inner := by
  have hevent : ch.countEvent ch.x.level ch.y.level = .none := by
    unfold Channel.countEvent
    cases ch.config.mode <;> cases ch.config.edge <;> simp [activeEdge]
  have hcapture : ch.captureEvent ch.x.level = false := by simp [Channel.captureEvent]
  have hindex : ch.indexEvent ch.z.level = false := by simp [Channel.indexEvent]
  simp [Channel.accepted, hevent, hcapture, hindex, Channel.stepped, Channel.inner, Channel.withLevels]

theorem Channel.counts_same (ch : Channel) : ch.counts ch.x.level ch.y.level = false := by
  unfold Channel.counts Channel.countEvent
  cases ch.config.mode <;> cases ch.config.edge <;> simp [activeEdge]

theorem Filter.after_of_not_accepts {f : Filter} {w : Nat} (h : f.accepts w = false) : f.after w = f.level := by
  simp [Filter.after, h]

/-- A channel whose filters accept nothing takes its tick alone, if one comes (R139). -/
theorem Channel.inner_sampled {ch : Channel} (h : ch.accepting = false) :
    ch.sampled.inner = if ch.divider.due then ch.tickTaken.inner else ch.inner := by
  obtain ⟨hx, hy, hz⟩ := Channel.not_accepting h
  have hpass : ch.pass.inner = ch.inner := rfl
  unfold Channel.sampled
  dsimp only
  rw [h, Bool.false_or]
  cases hd : ch.divider.due with
  | false => simpa using hpass
  | true =>
    cases hr : ch.timerRuns with
    | false => simp [Channel.tickTaken_stopped hr, hpass]
    | true =>
      have hlevels : (ch.pass.x.level, ch.pass.y.level, ch.pass.z.level) = (ch.x.level, ch.y.level, ch.z.level) := by
        simp [Channel.pass, Filter.wait_level]
      simp only [Prod.mk.injEq] at hlevels
      obtain ⟨hpx, hpy, hpz⟩ := hlevels
      have htick : ch.pass.tickTaken.x.level = ch.x.level ∧ ch.pass.tickTaken.y.level = ch.y.level
          ∧ ch.pass.tickTaken.z.level = ch.z.level := by
        have hin := ch.pass.inputs_tickTaken
        simp only [Channel.inputs, Prod.mk.injEq] at hin
        obtain ⟨-, -, h1, h2, h3, -⟩ := hin
        rw [h1, h2, h3]
        exact ⟨hpx, hpy, hpz⟩
      obtain ⟨h1, h2, h3⟩ := htick
      have hcounts := ch.pass.counts_same
      rw [hpx, hpy] at hcounts
      have hsame := ch.pass.tickTaken.inner_accepted_same
      rw [h1, h2, h3] at hsame
      simp only [Bool.and_self, if_true, Channel.takes, Filter.after_of_not_accepts hx, Filter.after_of_not_accepts hy,
        Filter.after_of_not_accepts hz, hcounts, Bool.false_eq_true, if_false]
      rw [hsame, Channel.inner_tickTaken hpass]

/-! ### The rows of the ticks, at the sample of the tick (R27, R139) -/

/-- INTERVAL_TICK at the sample of its tick, where no counted step takes the place of a saturation there. -/
theorem exec_intervalTick_now {s : State} {c : Chan} (hrst : s.rst.inReset = false)
    (hdue : (s.chan c).divider.due = true) (hjoin : (s.chan c).tickJoinsStep = false) :
    exec (.intervalTick c) s = .next ((s.tickGiven c).intervalTicks c).deliver := by
  show execIntervalTick c s = _
  simp [execIntervalTick, State.event_awake hrst, (Divider.due_iff _).mp hdue, State.intervalTickGiven, hjoin]

theorem Channel.tickJoinsStep_of_not_accepting {ch : Channel} (h : ch.accepting = false) : ch.tickJoinsStep = false := by
  obtain ⟨hx, hy, -⟩ := Channel.not_accepting h
  simp [Channel.tickJoinsStep, Channel.stepFallsDue, Filter.after_of_not_accepts hx, Filter.after_of_not_accepts hy,
    Channel.counts_same]

/-- CARRIER_TICK at the sample of its tick. -/
theorem exec_carrierTick_now {s : State} (hrst : s.rst.inReset = false) (hrun : s.carrier.run = .running)
    (hdue : s.carrier.divider.due = true) : exec .carrierTick s = .next s.carrierTickGiven.carrierTicks.deliver := by
  show execCarrierTick s = _
  simp [execCarrierTick, State.event_awake hrst, State.nextTick, hrun, (Divider.due_iff _).mp hdue]

theorem Carrier.ticked_running {t : Carrier} (h : t.run = .running) :
    t.ticked = if t.boundaryDue then t.boundary else t.count := by
  simp only [Carrier.ticked, h]

theorem Carrier.ticked_stopped {t : Carrier} (h : t.run = .stopped) : t.ticked = t := by
  simp only [Carrier.ticked, h]

theorem Carrier.count_divider (t : Carrier) (d : Divider) :
    { t with divider := d }.count = { t.count with divider := d } := by
  obtain ⟨run, mode, prescale, divider, active, preload, counter, slope, leadIn, dwell, period, limit⟩ := t
  cases mode <;> cases slope
  case center.falling =>
    simp only [Carrier.count]
    by_cases h0 : counter = 0
    · by_cases hl : leadIn = true ∧ dwell < active <;> simp [h0, hl]
    · simp [h0]
  all_goals rfl

/-- What a tick makes of the Carrier Timer does not depend on its divider. -/
theorem Carrier.ticked_divider (t : Carrier) (d : Divider) :
    { t with divider := d }.ticked = { t.ticked with divider := d } := by
  have hdue : Carrier.boundaryDue { t with divider := d } = t.boundaryDue := rfl
  obtain hrun | hrun : t.run = .stopped ∨ t.run = .running := by cases t.run <;> simp
  · rw [Carrier.ticked_stopped (t := { t with divider := d }) hrun, Carrier.ticked_stopped hrun]
  · rw [Carrier.ticked_running (t := { t with divider := d }) hrun, Carrier.ticked_running hrun, hdue]
    by_cases h : t.boundaryDue = true
    · rw [if_pos h, if_pos h]
      rfl
    · rw [if_neg h, if_neg h, Carrier.count_divider]

theorem Divider.pass_cases (d : Divider) (reload : Nat) :
    (d.fresh = true → d.pass reload = ⟨d.toTick, false⟩)
      ∧ (d.fresh = false ∧ d.toTick ≤ 1 → d.pass reload = ⟨reload, false⟩)
      ∧ (d.fresh = false → 2 ≤ d.toTick → d.pass reload = ⟨d.toTick - 1, false⟩) := by
  refine ⟨fun h => by simp [Divider.pass, h], fun ⟨h, ht⟩ => by simp [Divider.pass, h, ht], fun h ht => ?_⟩
  simp only [Divider.pass, h, Bool.false_eq_true, if_false]
  rw [if_neg (by omega)]

theorem Filter.sampled_cases (f : Filter) (w : Nat) :
    (f.pin = f.level → f.sampled w = ⟨f.pin, f.level, 0⟩)
      ∧ (f.pin ≠ f.level → (w ≤ f.count + 1 → f.sampled w = ⟨f.pin, f.pin, 0⟩)
        ∧ (f.count + 1 < w → f.sampled w = ⟨f.pin, f.level, f.count + 1⟩)) := by
  refine ⟨fun h => ?_, fun h => ⟨fun hw => ?_, fun hw => ?_⟩⟩
  · simp [Filter.sampled, Filter.accepts, Filter.wait, h]
  · simp [Filter.sampled, Filter.accepts, Filter.settled, h, hw]
  · simp [Filter.sampled, Filter.accepts, Filter.wait, h, Nat.not_le.mpr hw]

theorem Filter.not_accepts_iff (f : Filter) (w : Nat) :
    f.accepts w = false ↔ f.pin = f.level ∨ f.count + 1 < w := by
  by_cases h : f.pin = f.level <;> simp [Filter.accepts, h]

/-- One sample judges each side of a stage by the demand that stands after it and its own level and count (R62). -/
theorem LegUnit.sample_of_history {u v : LegUnit} (h : v.history = u.history) :
    (v.sample.stage.low.demand = false →
      v.sample.stage.high
          = SideState.judged { u.stage.high with demand := v.sample.stage.high.demand } u.config.deadTime
        ∧ v.sample.stage.low = ⟨false, false, 0⟩)
    ∧ (v.sample.stage.high.demand = false →
      v.sample.stage.low
          = SideState.judged { u.stage.low with demand := v.sample.stage.low.demand } u.config.deadTime
        ∧ v.sample.stage.high = ⟨false, false, 0⟩) := by
  have hhigh : v.sample.stage.high.demand = v.stage.high.demand := SideState.sample_demand ..
  have hlow : v.sample.stage.low.demand = v.stage.low.demand := SideState.sample_demand ..
  simp only [LegUnit.history, Prod.mk.injEq] at h
  obtain ⟨hc, ⟨hhd, hhn⟩, hld, hln⟩ := h
  rw [hhigh, hlow]
  refine ⟨fun hoff => ?_, fun hoff => ?_⟩
  · rw [v.sample_eq_judged (.inr hoff)]
    simp [LegUnit.judged, SideState.judged, hoff, hc, hhd, hhn]
  · rw [v.sample_eq_judged (.inl hoff)]
    simp [LegUnit.judged, SideState.judged, hoff, hc, hld, hln]

/-- A step with no command waiting is one sample. -/
theorem step_idle {s : State} (h : s.pending = []) : step s = .next s.sample := by
  simp only [step, h]

/-- Settles O3. -/
theorem idleStepIsOneSample : Obligations.IdleStepIsOneSample := by
  intro s hpending accepts waits ticks passes
  refine ⟨fun hrst => ⟨s.sample, step_idle hpending, rfl, ?_⟩, fun hrst => ⟨fun hheld => ?_, fun hlow hpor => ⟨fun hlt => ?_, fun hge => ?_⟩⟩⟩
  · have hlive : s.sample = s.liveSample := by simp [State.sample, hrst]
    rw [hlive]
    have hclock := s.liveSample_leaseClock
    have hcarrier := s.liveSample_carrier
    have hidle : ¬ ticks s.carrier.divider → s.liveSample.carrier = s.carrier.pass := fun h => by
      rw [hcarrier, if_neg]
      rintro ⟨-, hdue⟩
      exact h ((Divider.due_eq _).mp hdue)
    have hpass : s.carrier.run = .running → s.carrier.pass
        = { s.carrier with divider := s.carrier.divider.pass (2 ^ s.carrier.prescale.val) } := fun hrun => by
      simp only [Carrier.pass, hrun]
      rfl
    refine ⟨?_, fun h => ?_, fun h => ?_, fun hrun => ?_, fun hrun h => ?_, fun hrun h => ?_, fun hrun => ?_, ?_, ?_, ?_,
      fun p => ?_, fun c => ?_, fun n => ?_⟩
    · rw [hclock]
      exact Divider.pass_cases ..
    · rw [hclock, if_pos ((Divider.due_eq _).mpr h)]
    · rw [hclock, if_neg (mt (Divider.due_eq _).mp h)]
    · have hdivider : s.liveSample.carrier.divider = s.carrier.divider.pass (2 ^ s.carrier.prescale.val) := by
        rw [hcarrier, hpass hrun]
        split
        · rw [Carrier.ticked_divider]
        · rfl
      rw [hdivider]
      exact Divider.pass_cases ..
    · rw [hidle h, hpass hrun]
    · have hdue := (Divider.due_eq _).mpr h
      refine ⟨_, exec_carrierTick_now hrst hrun hdue, ?_⟩
      rw [hcarrier, if_pos ⟨hrun, hdue⟩, hpass hrun, State.deliver_carrier, State.carrierTicks_carrier,
        Carrier.ticked_divider]
      exact (congrArg (fun t : Carrier => { t with divider := s.carrier.divider.pass (2 ^ s.carrier.prescale.val) })
        (Carrier.ticked_divider s.carrier (.start (prescaleSamples s.carrier.prescale)))).symm
    · rw [hcarrier, if_neg (by simp [hrun]), Carrier.pass, hrun]
    · rw [s.liveSample_trip0]
      exact Filter.sampled_cases ..
    · rw [s.liveSample_trip1]
      exact Filter.sampled_cases ..
    · rw [s.liveSample_arm]
      exact Filter.sampled_cases ..
    · rw [s.liveSample_presence]
      exact Filter.sampled_cases ..
    · obtain ⟨hconfig, hdivider, hx, hy, hz⟩ := (s.chan c).sampled_inputs
      have hcore := s.liveSample_chan_core c
      have hsx : (s.liveSample.chan c).x = (s.chan c).sampled.x := (congrArg Channel.x hcore :)
      have hsy : (s.liveSample.chan c).y = (s.chan c).sampled.y := (congrArg Channel.y hcore :)
      have hsz : (s.liveSample.chan c).z = (s.chan c).sampled.z := (congrArg Channel.z hcore :)
      have hsd : (s.liveSample.chan c).divider = (s.chan c).sampled.divider := (congrArg Channel.divider hcore :)
      have hinner : (s.liveSample.chan c).inner = (s.chan c).sampled.inner := (congrArg Channel.inner hcore :)
      intro width ch ch' rest
      have hwidth : width = (s.chan c).config.filter.samples := by
        simp only [width]
        cases (s.chan c).config.filter <;> rfl
      rw [hwidth]
      refine ⟨?_, ?_, ?_, ?_, fun hwx hwy hwz => ?_⟩
      · rw [hsx, hx]
        exact Filter.sampled_cases ..
      · rw [hsy, hy]
        exact Filter.sampled_cases ..
      · rw [hsz, hz]
        exact Filter.sampled_cases ..
      · rw [hsd, hdivider]
        exact Divider.pass_cases ..
      · have haccept : (s.chan c).accepting = false := by
          have hnx := (Filter.not_accepts_iff (s.chan c).x (s.chan c).config.filter.samples).mpr hwx
          have hny := (Filter.not_accepts_iff (s.chan c).y (s.chan c).config.filter.samples).mpr hwy
          have hnz := (Filter.not_accepts_iff (s.chan c).z (s.chan c).config.filter.samples).mpr hwz
          simp [Channel.accepting, hnx, hny, hnz]
        rw [Channel.inner_sampled haccept] at hinner
        refine ⟨fun h => ?_, fun h => ?_⟩
        · rw [if_neg (mt (Divider.due_eq _).mp h)] at hinner
          exact Channel.eq_of_inner hinner
        · have hdue := (Divider.due_eq _).mpr h
          rw [if_pos hdue] at hinner
          refine ⟨_, exec_intervalTick_now hrst hdue (Channel.tickJoinsStep_of_not_accepting haccept),
            Channel.eq_of_inner (hinner.trans ?_)⟩
          rw [State.deliver_chan, State.intervalTicks_chan, if_pos rfl]
          exact Channel.inner_tickTaken (by simp [State.tickGiven, Channel.inner])
    · obtain ⟨u, hu, hhistory⟩ := s.liveSample_leg n
      rw [hu]
      exact LegUnit.sample_of_history hhistory
  · have hheld : s.rst.held = true := by simpa [ResetUnit.held] using hheld
    rw [step_idle hpending, State.sample, if_pos hrst, State.resetSample, if_neg (by simp [ResetUnit.ends, hheld]),
      ResetUnit.pass_held hheld]
  · have hfree : s.rst.held = false := by simp [ResetUnit.held, hlow, hpor]
    rw [step_idle hpending, State.sample, if_pos hrst, State.resetSample, if_neg ?_, ResetUnit.pass_free hfree]
    intro hends
    have hlast : stretchSamples ≤ s.rst.stretch + 1 := by
      simp only [ResetUnit.ends, Bool.and_eq_true, decide_eq_true_eq] at hends
      exact hends.2
    rw [stretchSamples] at hlast
    omega
  · have hfree : s.rst.held = false := by simp [ResetUnit.held, hlow, hpor]
    have hends : s.rst.ends = true := by
      have hlast : stretchSamples ≤ s.rst.stretch + 1 := Nat.succ_le_succ hge
      simp [ResetUnit.ends, hrst, hfree, hlast]
    rw [step_idle hpending, State.sample, if_pos hrst, State.resetSample, if_pos hends]
    show _ = execResetRelease s.pins s
    rw [execResetRelease, if_pos hends]

/-! ### The turn-on of a side (R62) -/

/-- The other side of a leg. -/
def otherSide : Side → Side
  | .high => .low
  | .low => .high

theorem SideState.sample_of_driven {x : SideState} {other : Bool} {d : Nat} (h : (x.sample other d).driven = true) :
    x.sample other d = ⟨true, true, min 255 (x.count + 1)⟩ := by
  obtain ⟨hdemand, hother, hready⟩ := SideState.sample_driven h
  have hon : (x.driven || decide (d ≤ x.count)) = true := by simpa using hready
  simp [SideState.sample, hdemand, hother, hon]

/-- A side that is on after a sample: it is demanded, it was on or had counted the dead time, and the other side is
off (R62). -/
theorem LegUnit.sample_side_on {u : LegUnit} {side : Side} (h : (u.sample.stage.side side).driven = true) :
    u.sample.stage.side side = ⟨true, true, min 255 ((u.stage.side side).count + 1)⟩
      ∧ ((u.stage.side side).driven = true ∨ u.config.deadTime ≤ (u.stage.side side).count)
      ∧ (u.sample.stage.side (otherSide side)).driven = false := by
  have hone := u.sample_exclusive
  cases side with
  | high => exact ⟨SideState.sample_of_driven h, (SideState.sample_driven h).2.2, Bool.eq_false_iff.mpr fun hl => hone ⟨h, hl⟩⟩
  | low => exact ⟨SideState.sample_of_driven h, (SideState.sample_driven h).2.2, Bool.eq_false_iff.mpr fun hl => hone ⟨hl, h⟩⟩

theorem LegUnit.history_side {u v : LegUnit} (h : v.history = u.history) (side : Side) :
    (v.stage.side side).driven = (u.stage.side side).driven ∧ (v.stage.side side).count = (u.stage.side side).count
      ∧ v.config = u.config := by
  simp only [LegUnit.history, Prod.mk.injEq] at h
  obtain ⟨hc, ⟨hhd, hhn⟩, hld, hln⟩ := h
  cases side
  · exact ⟨hhd, hhn, hc⟩
  · exact ⟨hld, hln, hc⟩

/-- What a live sample leaves on at a leg was on or had counted the dead time, and is alone (R62). -/
theorem State.liveSample_side_on {s : State} {n : Leg} {side : Side}
    (h : ((s.liveSample.leg n).stage.side side).driven = true) :
    (s.liveSample.leg n).stage.side side = ⟨true, true, min 255 (((s.leg n).stage.side side).count + 1)⟩
      ∧ (((s.leg n).stage.side side).driven = true ∨ (s.leg n).config.deadTime ≤ ((s.leg n).stage.side side).count)
      ∧ ((s.liveSample.leg n).stage.side (otherSide side)).driven = false := by
  obtain ⟨u, hu, hhistory⟩ := s.liveSample_leg n
  obtain ⟨hdriven, hcount, hconfig⟩ := LegUnit.history_side hhistory side
  rw [hu] at h ⊢
  obtain ⟨h1, h2, h3⟩ := LegUnit.sample_side_on h
  rw [hcount] at h1
  rw [hdriven, hcount, hconfig] at h2
  exact ⟨h1, h2, h3⟩

theorem exec_sideTurnOn {s : State} (hrst : s.rst.inReset = false) (n : Leg) (side : Side) :
    exec (.sideTurnOn n side) s = .next (if ((s.leg n).stage.side side).driven = false
      ∧ ((s.liveSample.leg n).stage.side side).driven = true then s.liveSample else s) := by
  show execSideTurnOn n side s = _
  rw [execSideTurnOn, State.event_awake hrst]
  simp [LegUnit.turnsOn]

/-- A sample at which nothing falls due counts, and judges the sides, and does nothing else. -/
theorem State.liveSample_of_not_due {s : State} (hquiet : s.Quiet) (h : s.due = []) :
    s.liveSample = (s.pass.setChoices s.choices).sampleStages := by
  have hq : (s.pass.setChoices s.choices).sampleStages.outbox = [] := hquiet
  rw [State.liveSample, h]
  exact State.deliver_quiet _ hq

/-- Settles O46. -/
theorem sideTurnsOnAfterDeadTime : Obligations.SideTurnsOnAfterDeadTime := by
  intro n side s ⟨hrst, hquiet⟩ row before d other
  have hother : other side = otherSide side := by cases side <;> rfl
  have hrow : row = _ := exec_sideTurnOn hrst n side
  have hon := State.liveSample_side_on (s := s) (n := n) (side := side)
  rw [hother]
  refine ⟨fun hdue hoff hdemand hdriven => ?_, fun hdriven => ?_, ?_, fun hpending => ?_⟩
  · have hlive := State.liveSample_of_not_due hquiet hdue
    have hleg : ∀ k, s.liveSample.leg k = (s.leg k).sample := fun k => by rw [hlive]; cases k <;> rfl
    have hexclusive : (s.leg n).stage.high.demand = false ∨ (s.leg n).stage.low.demand = false := by
      cases side
      · exact .inr hoff
      · exact .inl hoff
    have hjudged : s.liveSample.leg n = (s.leg n).judged := by rw [hleg, LegUnit.sample_eq_judged _ hexclusive]
    have hside : (s.liveSample.leg n).stage.side side = (before.side side).judged d := by
      rw [hjudged]
      cases side <;> rfl
    have hotherSide : (s.liveSample.leg n).stage.side (otherSide side) = ⟨false, false, 0⟩ := by
      have hzero : (before.side (otherSide side)).judged d = ⟨false, false, 0⟩ := by simp [SideState.judged, hoff]
      rw [hjudged, ← hzero]
      cases side <;> rfl
    refine ⟨fun hcount => ?_, fun hcount => ?_⟩
    · have hside' : (s.liveSample.leg n).stage.side side = ⟨true, true, min 255 ((before.side side).count + 1)⟩ := by
        rw [hside]
        simp [SideState.judged, hdemand, hcount]
      refine ⟨s.liveSample, ?_, hside', hotherSide, fun k hk => ?_, ?_, ?_, ?_, ?_, fun p => ?_, fun c => ?_, ?_, ?_, ?_, ?_, ?_⟩
      · rw [hrow, if_pos ⟨hdriven, by rw [hside']⟩]
      · rw [hleg, LegUnit.sample_eq_judged _ hk]
      · rw [hlive]; rfl
      · rw [hlive]; rfl
      · rw [hlive]; rfl
      · rw [hlive]; rfl
      · have hport : s.liveSample.port p = (s.port p).pass := by rw [hlive, ← State.pass_port]; rfl
        rw [hport]
        rfl
      · have hchan : s.liveSample.chan c = (s.chan c).pass := by rw [hlive, ← State.pass_chan]; rfl
        rw [hchan]
        rfl
      · have hcarrier : s.liveSample.carrier = s.carrier.pass := by rw [hlive]; rfl
        rw [hcarrier, Carrier.pass]
        split <;> rfl
      · rw [hlive]; rfl
      · rw [hlive]; exact Filter.wait_level ..
      · rw [hlive]; exact Filter.wait_level ..
      · rw [hlive]; exact Filter.wait_level ..
    · rw [hrow, if_neg]
      rintro ⟨-, h⟩
      rw [hside] at h
      simp [SideState.judged, hdemand, hdriven] at h
      omega
  · rw [hrow, if_neg (by simp [before] at hdriven; simp [hdriven])]
  · refine ⟨_, hrow, ?_⟩
    split
    · next h =>
      obtain ⟨h1, h2, h3⟩ := hon h.2
      exact .inr ⟨h.1, h2.resolve_left (by simp [h.1]), h1, h3⟩
    · exact .inl rfl
  · have hstep : s.sample = s.liveSample := by simp [State.sample, hrst]
    obtain ⟨u, hu, hhistory⟩ := s.liveSample_leg n
    have hgate : ∀ x : SideState, (!s.liveSample.rst.inReset && x.on) = true → x.demand = true ∧ x.driven = true :=
      fun x h => SideState.on_demand ((Bool.and_eq_true _ _).mp h).2
    refine ⟨s.liveSample, hstep ▸ step_idle hpending, ⟨fun hoff h => ?_, fun h => ?_⟩, ?_, fun ⟨hh, hl⟩ => ?_,
      fun h => (hgate _ h).1, fun h => (hgate _ h).1⟩
    · obtain ⟨h1, h2, h3⟩ := hon h
      have hoff : ((s.leg n).stage.side side).driven = false := hoff
      exact ⟨by rw [hrow, if_pos ⟨hoff, h⟩], by rw [h1], h2.resolve_left (by simp [hoff]), h3⟩
    · have h : ((s.liveSample.leg n).stage.side side).driven = false := h
      rw [hrow, if_neg (by simp [h])]
    · rw [hu]
      exact congrArg LegConfig.deadTime (congrArg Prod.fst hhistory)
    · have hone := u.sample_exclusive
      rw [← hu] at hone
      exact hone ⟨(hgate _ hh).2, (hgate _ hl).2⟩

/-! ### The tick of the carrier (R27 to R30) -/

theorem exec_carrierTick_stopped {s : State} (hrst : s.rst.inReset = false) (h : s.carrier.run = .stopped) :
    exec .carrierTick s = .next s := by
  show execCarrierTick s = _
  simp only [execCarrierTick, State.event_awake hrst, State.nextTick, h]

theorem exec_carrierTick_running {s : State} (hrst : s.rst.inReset = false) (h : s.carrier.run = .running) :
    exec .carrierTick s = .next (s.samples s.carrier.divider.left).carrierTickGiven.carrierTicks.deliver := by
  show execCarrierTick s = _
  simp only [execCarrierTick, State.event_awake hrst, State.nextTick, h]

theorem Divider.pass_fresh (d : Divider) (reload : Nat) : (d.pass reload).fresh = false := by
  unfold Divider.pass
  split
  · rfl
  · split <;> rfl

theorem State.liveSample_divider {s : State} (h : s.carrier.run = .running) :
    s.liveSample.carrier.divider = s.carrier.divider.pass (2 ^ s.carrier.prescale.val) := by
  have hpass : s.carrier.pass.divider = s.carrier.divider.pass (2 ^ s.carrier.prescale.val) := by
    simp only [Carrier.pass, h]
    rfl
  rw [State.liveSample_carrier]
  split
  · rw [← hpass]
    exact (congrArg Carrier.divider (Carrier.ticked_divider s.carrier.pass s.carrier.pass.divider) :)
  · exact hpass

/-- A row that names another outcome at the next sample lets that sample pass. -/
theorem letsSamplePass_of_eq {i : Instr} {s : State} (h : exec i s = exec i s.sample)
    (hne : exec i s.sample ≠ .next s.sample) : LetsSamplePass i s :=
  ⟨fun _ => h, fun hsame => absurd hsame hne⟩

/-- The tick of the carrier leaves its divider started afresh. -/
theorem carrierTick_fresh (s : State) (k : Nat) :
    ((s.samples k).carrierTickGiven.carrierTicks.deliver).carrier.divider.fresh = true := by
  rw [State.deliver_carrier, State.carrierTicks_carrier, State.carrierTickGiven, State.setCarrier_carrier,
    Carrier.ticked_divider]
  rfl

theorem State.carrierTicks_running {s : State} (h : s.carrier.run = .running) :
    s.carrierTicks = if s.carrier.boundaryDue then s.boundary else (s.setCarrier s.carrier.count).settleAll := by
  simp only [State.carrierTicks, h]

/-- A count that is no boundary, at the sample of its tick: every stage compares again, and nothing else changes
(R59). -/
theorem exec_carrierTick_counts {s : State} (hs : s.Awake) (hrun : s.carrier.run = .running)
    (hdue : s.carrier.divider.due = true) (hboundary : s.carrier.boundaryDue = false) {t' : Carrier}
    (ht : t' = { s.carrier.count with divider := ⟨2 ^ s.carrier.prescale.val, true⟩ }) :
    exec .carrierTick s = .next { s with carrier := t', legs := .ofFn fun n => (s.leg n).settle t'.counter } := by
  obtain ⟨hrst, hquiet⟩ := hs
  rw [exec_carrierTick_now hrst hrun hdue]
  have hcount : s.carrierTickGiven.carrierTicks = (s.carrierTickGiven.setCarrier s.carrierTickGiven.carrier.count).settleAll := by
    rw [State.carrierTicks_running (s := s.carrierTickGiven) hrun]
    exact if_neg (Bool.eq_false_iff.mp hboundary)
  have hq : s.carrierTickGiven.carrierTicks.outbox = [] := by rw [hcount]; exact hquiet
  rw [State.deliver_quiet _ hq, hcount, State.carrierTickGiven, State.setCarrier_carrier, Carrier.count_divider]
  subst ht
  rfl

theorem State.boundaryNow_of_due {s : State} (hrun : s.carrier.run = .running) (hdue : s.carrier.divider.due = true)
    (hboundary : s.carrier.boundaryDue = true) : s.BoundaryNow := by
  refine ⟨hrun, hdue, ?_⟩
  unfold Carrier.boundaryDue at hboundary
  cases hm : s.carrier.mode <;> cases hsl : s.carrier.slope <;> simp_all

/-- Settles O47. -/
theorem carrierTickCounts : Obligations.CarrierTickCounts := by
  intro s hs t given counted
  obtain ⟨hrst, hquiet⟩ := id hs
  have hcounts : t.run = .running → t.divider.due = true → t.boundaryDue = false → ∀ t',
      t' = { t.count with divider := given } → counted t' := fun hrun hdue hb t' ht =>
    exec_carrierTick_counts hs hrun hdue hb ht
  have hboundary : t.run = .running → t.divider.due = true → t.boundaryDue = true →
      exec .carrierTick s = exec .periodBoundary s := fun hrun hdue hb => by
    have hnow : s.BoundaryNow := State.boundaryNow_of_due hrun hdue hb
    rw [exec_carrierTick_now hrst hrun hdue, State.carrierTicks_running (s := s.carrierTickGiven) hrun,
      if_pos (show s.carrierTickGiven.carrier.boundaryDue = true from hb)]
    show _ = execPeriodBoundary s
    rw [execPeriodBoundary, State.event_awake hrst, State.atBoundary_now hnow]
  refine ⟨exec_carrierTick_stopped hrst, fun hrun hdue => ?_, fun hrun hdue => ?_, ?_⟩
  · have hsample : s.sample = s.liveSample := by simp [State.sample, hrst]
    have hrst' : s.sample.rst.inReset = false := (State.sample_awake hrst).2.1.1
    have hrun' : s.sample.carrier.run = .running := by rw [hsample, State.liveSample_run]; exact hrun
    have hdivider : s.sample.carrier.divider = t.divider.pass (2 ^ t.prescale.val) := by
      rw [hsample, State.liveSample_divider hrun]
    have hleft : s.sample.carrier.divider.left + 1 = t.divider.left := hdivider ▸ Divider.pass_left _ _ hdue
    have hfresh : s.sample.carrier.divider.fresh = false := hdivider ▸ Divider.pass_fresh ..
    refine letsSamplePass_of_eq ?_ fun h => ?_
    · rw [exec_carrierTick_running hrst hrun, exec_carrierTick_running hrst' hrun', ← hleft, State.samples_succ]
    · rw [exec_carrierTick_running hrst' hrun'] at h
      have hsame := carrierTick_fresh s.sample s.sample.carrier.divider.left
      rw [Host.Outcome.next.inj h, hfresh] at hsame
      exact absurd hsame (by decide)
  · refine ⟨fun hm h => ?_, fun hm h => ?_, fun hm hsl h => ?_, fun hm hsl h0 hl hd => ?_, fun hm hsl h0 h => ?_,
      fun hm hsl h => ?_, fun hm hsl h => ?_⟩
    · exact hcounts hrun hdue (by simp [Carrier.boundaryDue, hm]; omega) _ (by simp [Carrier.count, hm])
    · exact hboundary hrun hdue (by simp [Carrier.boundaryDue, hm]; omega)
    · exact hcounts hrun hdue (by simp [Carrier.boundaryDue, hm, hsl]) _ (by simp [Carrier.count, hm, hsl, Nat.one_le_iff_ne_zero.mp h])
    · exact hcounts hrun hdue (by simp [Carrier.boundaryDue, hm, hsl]) _ (by simp [Carrier.count, hm, hsl, h0, hl, hd])
    · refine hcounts hrun hdue (by simp [Carrier.boundaryDue, hm, hsl]) _ ?_
      have hn : ¬ (t.leadIn = true ∧ t.dwell < t.active) := by
        rintro ⟨h1, h2⟩
        rcases h with h | h
        · simp [h1] at h
        · omega
      simp [Carrier.count, hm, hsl, h0, hn]
    · exact hcounts hrun hdue (by simp [Carrier.boundaryDue, hm, hsl]; omega) _ (by simp [Carrier.count, hm, hsl])
    · exact hboundary hrun hdue (by simp [Carrier.boundaryDue, hm, hsl]; omega)
  · intro n a duty sides count hp hd
    simp [LegUnit.settle, LegUnit.referenceAt, LegUnit.output, hp, hd, Drive.reference]

end Sys2Proof.Machine
end

section
/-! PROOFS. The commands of a Position Channel (R144 to R146, R155), and the commands and events of its inputs. -/

namespace Sys2Proof.Machine

open Sys2Proof

-- One theorem at a time, as in the tests: proofs that wait for the kernel would each hold a thread.
set_option Elab.async false

/-! ### SET_CHANNEL, SET_POSITION and SUBSCRIBE -/

/-- Levels taken while the timer is 0 leave it 0. -/
theorem Channel.accepted_timer_zero {ch : Channel} (h : ch.timer = 0) (x y z : Bool) : (ch.accepted x y z).timer = 0 := by
  have hstep : ∀ (ch : Channel) e, ch.timer = 0 → (ch.stepped e).timer = 0 := fun ch e h => by
    cases e
    · exact h
    · rfl
    · exact h
  have hcapture : ∀ ch : Channel, ch.timer = 0 → (ch.captured x).timer = 0 := fun ch h => by
    unfold Channel.captured
    split
    · rfl
    · exact h
    · exact h
    · rfl
  have hindex : ∀ ch : Channel, ch.timer = 0 → ch.indexed.timer = 0 := fun _ h => h
  have hcounted : ((ch.withLevels x y z).stepped (ch.countEvent x y)).timer = 0 := hstep _ _ h
  unfold Channel.accepted
  dsimp only
  split <;> split
  · exact hindex _ (hcapture _ hcounted)
  · exact hindex _ hcounted
  · exact hcapture _ hcounted
  · exact hcounted

/-- A divider that starts afresh gives no tick at its sample: the timer stays 0 to the end of it (R139, R145). -/
theorem Channel.sampled_afresh {ch : Channel} (h : ch.timer = 0) (hfresh : ch.divider.fresh = true) :
    ch.sampled.timer = 0 ∧ ch.sampled.divider = ⟨ch.divider.toTick, false⟩ := by
  have hdue : ch.divider.due = false := by simp [Divider.due, hfresh]
  refine ⟨?_, by rw [ch.sampled_inputs.2.1]; simp [Divider.pass, hfresh]⟩
  unfold Channel.sampled
  dsimp only
  split
  · rw [hdue]
    exact Channel.accepted_timer_zero (ch := ch.pass) h ..
  · exact h

theorem kindsOf_eq {k : Byte} (h : k.toNat < 32) : kindsOf k
    = some ⟨k.getLsbD 0, k.getLsbD 1, k.getLsbD 2, k.getLsbD 3, k.getLsbD 4⟩ := by
  revert k
  decide +kernel

theorem kindsMask_eq {k : Byte} (h : k.toNat < 32) :
    Kinds.mask ⟨k.getLsbD 0, k.getLsbD 1, k.getLsbD 2, k.getLsbD 3, k.getLsbD 4⟩ = k := by
  revert k
  decide +kernel

/-- Settles O50. -/
theorem channelCommands : Obligations.ChannelCommands := by
  intro p seq b m fl ie e k g v c cfg s hready hc ch
  have hquiet : s.Quiet := hready.2.2.2.2
  have hrst : s.rst.inReset = false := hready.1
  refine ⟨fun hholds hcfg => ?_, fun hholds hv => ?_, fun hk => ?_⟩
  · have ha : doSetChannel p b g m fl v ie e s = ⟨s.setChan c (ch.configure cfg), .ok, []⟩ := by
      simp only [doSetChannel, hc, hcfg]
      exact onChan_of_holds hholds
    have hexec := exec_answered (i := .setChannel p seq b g m fl v ie e) hready rfl nofun ha hquiet
    refine ⟨hexec, fun t ht => ?_⟩
    have ht : t = (s.setChan c (ch.configure cfg)).answered p ⟨seq, 0x40, .ok, []⟩ :=
      Host.Outcome.next.inj (ht.symm.trans hexec)
    have hsample : t.sample = t.liveSample := by simp [State.sample, ht, State.answered, hrst]
    have hchan : t.chan c = ch.configure cfg := by simp [ht, State.answered]
    have hcore := t.liveSample_chan_core c
    obtain ⟨htimer, hdivider⟩ := Channel.sampled_afresh (ch := t.chan c) (by rw [hchan]; rfl) (by rw [hchan]; rfl)
    rw [hsample]
    refine ⟨((congrArg Channel.timer hcore :)).trans htimer, ((congrArg Channel.divider hcore :)).trans (hdivider.trans ?_)⟩
    rw [hchan]
    rfl
  · have ha : doSetPosition p b g v s = ⟨s.setChan c { ch with position := v.toNat }, .ok, []⟩ := by
      simp only [doSetPosition, hc]
      rw [if_pos hv]
      exact onChan_of_holds hholds
    exact exec_answered (i := .setPosition p seq b g v) hready rfl nofun ha hquiet
  · have ha : doSubscribe p b k s = ⟨s.setChan c { ch with
        subscribers := ch.subscribers.set p
          ⟨k.getLsbD 0, k.getLsbD 1, k.getLsbD 2, k.getLsbD 3, k.getLsbD 4⟩ }, .ok,
        [k, (ch.subscribers.get p).mask]⟩ := by
      simp only [doSubscribe, hc, kindsOf_eq hk, kindsMask_eq hk]
      rfl
    exact exec_answered (i := .subscribe p seq b k) hready rfl nofun ha hquiet

end Sys2Proof.Machine
end

section
/-! PROOFS. The events of a Position Channel: counted steps, changes beside a tick of the same sample, and rows that
lie at the next sample (chapter 8; log entry 16). -/

namespace Sys2Proof.Machine

open Sys2Proof

-- One theorem at a time, as in the tests: proofs that wait for the kernel would each hold a thread.
set_option Elab.async false

/-! ### Copies of one source reach the ports in their order (R143) -/

theorem takeFrom_head (o : Outgoing) (rest : List Outgoing) : takeFrom o.source (o :: rest) = some (o, rest) := by
  simp [takeFrom]

/-- Copies of one source are not reordered. -/
theorem interleave_one_source {r : Source} {out : List Outgoing} (h : ∀ o ∈ out, o.source = r) (k : Nat) :
    interleave k out.length out = out := by
  induction out generalizing k with
  | nil => rfl
  | cons o rest ih =>
    have ho : o.source = r := h o List.mem_cons_self
    have hsources : sourcesOf (o :: rest) = [r] := by
      have hmem : ∀ x, x ∈ sourcesOf (o :: rest) ↔ x = r := fun x => by
        simp only [sourcesOf, List.mem_filter, Source.mem_all, true_and, List.any_eq_true, beq_iff_eq]
        refine ⟨fun ⟨y, hy, hx⟩ => hx ▸ h y hy, fun hx => ⟨o, List.mem_cons_self, hx ▸ ho⟩⟩
      have hnodup : (sourcesOf (o :: rest)).Nodup := List.Nodup.filter _ (by decide)
      exact List.perm_singleton.mp ((List.perm_ext_iff_of_nodup hnodup (List.nodup_singleton r)).mpr
        fun x => by rw [hmem, List.mem_singleton])
    have hpick : Config.pick k 1 = 0 := Nat.lt_one_iff.mp (Config.pick_lt k Nat.one_pos)
    have hnext : interleave k (rest.length + 1) (o :: rest) = o :: interleave (k + 1) rest.length rest := by
      simp only [interleave, hsources, List.length_cons, List.length_nil, Nat.zero_add, hpick,
        List.getElem?_cons_zero, ← ho, takeFrom_head]
    exact hnext.trans (congrArg (o :: ·) (ih (fun x hx => h x (List.mem_cons_of_mem o hx)) (k + 1)))

theorem State.admitCopies_setChoices (out : List Outgoing) (s : State) (k : Nat) :
    (out.foldl State.admitCopy s).setChoices k = out.foldl State.admitCopy (s.setChoices k) := by
  induction out generalizing s with
  | nil => rfl
  | cons o rest ih => exact ih (s.admitCopy o)

/-- The delivery of copies of one source. -/
theorem State.deliver_one_source {s : State} {r : Source} (h : ∀ o ∈ s.outbox, o.source = r) :
    s.deliver = s.outbox.foldl State.admitCopy ((s.setOutbox []).setChoices (s.choices + s.outbox.length)) := by
  rw [State.deliver, interleave_one_source h]

/-- Copies of one source may be delivered in two goes. -/
theorem State.deliver_append {s : State} {r : Source} {out : List Outgoing} (hs : ∀ o ∈ s.outbox, o.source = r)
    (hout : ∀ o ∈ out, o.source = r) :
    (s.deliver.setOutbox out).deliver = (s.setOutbox (s.outbox ++ out)).deliver := by
  have hboth : ∀ o ∈ s.outbox ++ out, o.source = r := fun o ho => (List.mem_append.mp ho).elim (hs o) (hout o)
  rw [State.deliver_one_source (s := s.setOutbox (s.outbox ++ out)) hboth,
    State.deliver_one_source (s := s.deliver.setOutbox out) hout]
  rw [State.deliver_one_source hs]
  have houtbox : ∀ (t : State) k, (s.outbox.foldl State.admitCopy ((t.setOutbox []).setChoices k)).outbox = [] :=
    fun t k => foldl_frame State.outbox State.admitCopy State.admitCopy_outbox _ _
  have hchoices : ∀ (t : State) k, (s.outbox.foldl State.admitCopy (t.setChoices k)).choices = k :=
    fun t k => foldl_frame State.choices State.admitCopy State.admitCopy_choices _ _
  have hempty : ∀ t : State, t.outbox = [] → (t.setOutbox out).setOutbox [] = t := fun t h => by
    cases t
    subst h
    rfl
  rw [hempty _ (houtbox _ _), State.admitCopies_setChoices]
  simp only [State.setOutbox_outbox, State.setOutbox_choices, List.foldl_append, hchoices, List.length_append,
    ← Nat.add_assoc]
  rfl

theorem State.deliver_setChan (s : State) (c : Chan) (ch : Channel) :
    (s.setChan c ch).deliver = s.deliver.setChan c ch := by
  have hfold : ∀ (out : List Outgoing) (t : State),
      out.foldl State.admitCopy (t.setChan c ch) = (out.foldl State.admitCopy t).setChan c ch := by
    intro out
    induction out with
    | nil => exact fun _ => rfl
    | cons o rest ih => exact fun t => ih (t.admitCopy o)
  exact hfold _ ((s.setOutbox []).setChoices (s.choices + s.outbox.length))

/-! ### The notices of a channel (R143) -/

/-- The copies of a channel's notice to the ports that subscribe to its kind and are present. -/
def State.chanCopies (s : State) (c : Chan) (body : NoticeBody) : List Outgoing :=
  ((Port.all.filter fun p => ((s.chan c).subscribers.get p).include body).filter fun p => (s.port p).presence.level).map
    fun p => ⟨.chan c, p, ⟨body, .chan c, none, s.periodLow⟩⟩

/-- The notices of a channel, one after the other. -/
def State.raiseChan (s : State) (c : Chan) (bodies : List NoticeBody) : State :=
  s.setOutbox (s.outbox ++ bodies.flatMap (s.chanCopies c))

theorem State.raiseChan_nil (s : State) (c : Chan) : s.raiseChan c [] = s := by
  cases s
  simp [State.raiseChan, State.setOutbox]

theorem State.raiseChan_one (s : State) (c : Chan) (b : NoticeBody) : s.raiseChan c [b] = s.postChan c b := by
  simp only [State.raiseChan, List.flatMap_cons, List.flatMap_nil, List.append_nil]
  rfl

theorem State.raiseChan_raiseChan (s : State) (c : Chan) (bs bs' : List NoticeBody) :
    (s.raiseChan c bs).raiseChan c bs' = s.raiseChan c (bs ++ bs') := by
  have hcopies : (s.raiseChan c bs).chanCopies c = s.chanCopies c := rfl
  rw [State.raiseChan, hcopies]
  simp only [State.raiseChan, List.flatMap_append, ← List.append_assoc]
  rfl

/-- A channel that keeps its subscribers raises the same notices to the same ports. -/
theorem State.raiseChan_setChan {s : State} {c : Chan} {ch : Channel} (h : ch.subscribers = (s.chan c).subscribers)
    (bs : List NoticeBody) : (s.raiseChan c bs).setChan c ch = (s.setChan c ch).raiseChan c bs := by
  have hcopies : (s.setChan c ch).chanCopies c = s.chanCopies c := by
    funext b
    simp [State.chanCopies, State.periodLow, h]
  rw [State.raiseChan, State.raiseChan, hcopies]
  rfl

/-- Notices of a channel raised after a delivery of its own reach the ports as those raised before it. -/
theorem State.deliver_raiseChan {s : State} {c : Chan} (h : ∀ o ∈ s.outbox, o.source = .chan c) (bs : List NoticeBody) :
    (s.deliver.raiseChan c bs).deliver = (s.raiseChan c bs).deliver := by
  have hcopies : s.deliver.chanCopies c = s.chanCopies c := by
    funext b
    simp [State.chanCopies, State.periodLow]
  have hsource : ∀ o ∈ bs.flatMap (s.chanCopies c), o.source = .chan c := fun o ho => by
    simp only [State.chanCopies, List.mem_flatMap, List.mem_map] at ho
    obtain ⟨-, -, -, -, rfl⟩ := ho
    rfl
  rw [State.raiseChan, hcopies, State.deliver_outbox, List.nil_append, State.deliver_append h hsource]
  rfl

/-! ### Newly accepted levels that are no counted step (R133, R138, R141) -/

/-- What levels accepted at one sample raise of a channel, where they are no counted step. -/
def Channel.raises (ch : Channel) (x y z : Bool) : List NoticeBody :=
  (if ch.countEvent x y = .phaseError then [.phaseError (phaseOf x y) ch.position] else [])
    ++ (if ch.captureEvent x = true ∧ ch.capture = .measuring ∧ activeEdge ch.config.edge (!x) x = true then
        [.capture ch.widthLatch ch.timer] else [])
    ++ (if ch.indexEvent z then [.index ch.position ch.revolutions] else [])

theorem State.captureEdge_eq (s : State) (c : Chan) (x : Bool) :
    s.captureEdge c x = (s.setChan c ((s.chan c).captured x)).raiseChan c
      (if (s.chan c).capture = .measuring ∧ activeEdge (s.chan c).config.edge (!x) x = true then
        [.capture (s.chan c).widthLatch (s.chan c).timer] else []) := by
  unfold State.captureEdge Channel.captured
  dsimp only
  cases hc : (s.chan c).capture <;> cases ha : activeEdge (s.chan c).config.edge (!x) x <;>
    simp [State.raiseChan_nil, State.raiseChan_one, State.chan_setChan_self]

theorem State.indexEdge_eq (s : State) (c : Chan) :
    s.indexEdge c = (s.setChan c (s.chan c).indexed).raiseChan c [.index (s.chan c).position (s.chan c).revolutions] := by
  rw [State.raiseChan_one]
  rfl

/-- A channel's own change after notices of it: the change first, and then all the notices. -/
theorem State.raised_setChan {s : State} {c : Chan} {ch ch' : Channel} (h : ch.subscribers = ch'.subscribers)
    (bs : List NoticeBody) :
    ((s.setChan c ch).raiseChan c bs).setChan c ch' = (s.setChan c ch').raiseChan c bs := by
  rw [State.raiseChan_setChan (by simp [h]), State.setChan_setChan]

theorem Channel.captured_subscribers (ch : Channel) (x : Bool) : (ch.captured x).subscribers = ch.subscribers := by
  unfold Channel.captured
  split <;> rfl

theorem State.raiseChan_chan (s : State) (c d : Chan) (bs : List NoticeBody) : (s.raiseChan c bs).chan d = s.chan d := rfl

theorem State.captureEdge_raised (s : State) (c : Chan) (ch : Channel) (bs : List NoticeBody) (x : Bool) :
    ((s.setChan c ch).raiseChan c bs).captureEdge c x = (s.setChan c (ch.captured x)).raiseChan c
      (bs ++ if ch.capture = .measuring ∧ activeEdge ch.config.edge (!x) x = true then
        [.capture ch.widthLatch ch.timer] else []) := by
  rw [State.captureEdge_eq]
  simp only [State.raiseChan_chan, State.setChan_chan, if_true]
  rw [State.raised_setChan (ch.captured_subscribers x).symm, State.raiseChan_raiseChan]

theorem State.indexEdge_raised (s : State) (c : Chan) (ch : Channel) (bs : List NoticeBody) :
    ((s.setChan c ch).raiseChan c bs).indexEdge c
      = (s.setChan c ch.indexed).raiseChan c (bs ++ [.index ch.position ch.revolutions]) := by
  rw [State.indexEdge_eq]
  simp only [State.raiseChan_chan, State.setChan_chan, if_true]
  rw [State.raised_setChan (ch := ch) (ch' := ch.indexed) rfl, State.raiseChan_raiseChan]

theorem Channel.captured_position (ch : Channel) (x : Bool) :
    (ch.captured x).position = ch.position ∧ (ch.captured x).revolutions = ch.revolutions := by
  unfold Channel.captured
  split <;> exact ⟨rfl, rfl⟩

/-- The edges of X in CAPTURE and of Z that newly accepted levels of a channel are. -/
def State.takeEdges (s : State) (c : Chan) (before : Channel) (x z : Bool) : State :=
  let measured := if before.captureEvent x then s.captureEdge c x else s
  if before.indexEvent z then measured.indexEdge c else measured

theorem State.acceptLevels_none {s : State} {c : Chan} {x y z : Bool} (h : (s.chan c).countEvent x y = .none) :
    s.acceptLevels c x y z = (s.setChan c ((s.chan c).withLevels x y z)).takeEdges c (s.chan c) x z := by
  simp only [State.acceptLevels, h]
  rfl

theorem State.acceptLevels_phaseError {s : State} {c : Chan} {x y z : Bool}
    (h : (s.chan c).countEvent x y = .phaseError) :
    s.acceptLevels c x y z = ((s.setChan c ((s.chan c).withLevels x y z)).postChan c
      (.phaseError (phaseOf x y) (s.chan c).position)).takeEdges c (s.chan c) x z := by
  simp only [State.acceptLevels, h]
  rfl

/-- The edges of levels that are no counted step, after the notices that these have raised. -/
theorem State.takeEdges_raised {s : State} {c : Chan} {x y z : Bool} (bs : List NoticeBody)
    (h : ((s.chan c).withLevels x y z).stepped ((s.chan c).countEvent x y) = (s.chan c).withLevels x y z) :
    ((s.setChan c ((s.chan c).withLevels x y z)).raiseChan c bs).takeEdges c (s.chan c) x z
      = (s.setChan c ((s.chan c).accepted x y z)).raiseChan c (bs
        ++ (if (s.chan c).captureEvent x = true ∧ (s.chan c).capture = .measuring
              ∧ activeEdge (s.chan c).config.edge (!x) x = true then
            [.capture (s.chan c).widthLatch (s.chan c).timer] else [])
        ++ (if (s.chan c).indexEvent z then [.index (s.chan c).position (s.chan c).revolutions] else [])) := by
  obtain ⟨hp, hr⟩ := ((s.chan c).withLevels x y z).captured_position x
  unfold State.takeEdges Channel.accepted
  rw [h]
  dsimp only
  cases (s.chan c).captureEvent x <;> cases (s.chan c).indexEvent z <;>
    simp only [if_true, Bool.false_eq_true, if_false, State.captureEdge_raised, State.indexEdge_raised, hp, hr, false_and,
      true_and, List.append_nil] <;> rfl

/-- Levels that are no counted step: the channel takes them, and then raises its notices. -/
theorem State.acceptLevels_quietly {s : State} {c : Chan} {x y z : Bool} (h : (s.chan c).counts x y = false) :
    s.acceptLevels c x y z = (s.setChan c ((s.chan c).accepted x y z)).raiseChan c ((s.chan c).raises x y z) := by
  unfold Channel.counts at h
  cases he : (s.chan c).countEvent x y with
  | step up => simp [he] at h
  | none =>
    rw [State.acceptLevels_none he, ← State.raiseChan_nil (s.setChan c ((s.chan c).withLevels x y z)) c,
      State.takeEdges_raised [] (y := y) (by rw [he]; rfl), Channel.raises, he]
    rfl
  | phaseError =>
    rw [State.acceptLevels_phaseError he, ← State.raiseChan_one, State.takeEdges_raised _ (y := y) (by rw [he]; rfl),
      Channel.raises, he]
    rfl

/-! ### The interval tick of the sample in progress (R139, R140, R142) -/

/-- What an interval tick raises of a channel (R140, R142). -/
def Channel.tickRaises (ch : Channel) : List NoticeBody :=
  if ch.raised.timerRuns = true ∧ ch.timer < timerMax ∧ ch.raised.timer = timerMax then
    if ch.config.mode.counting then [.stall ch.config.mode ch.position] else [.stall .capture 0]
  else []

theorem Channel.raised_config (ch : Channel) : ch.raised.config = ch.config ∧ ch.raised.position = ch.position
    ∧ ch.raised.widthTaken = ch.widthTaken ∧ ch.raised.widthLatch = ch.widthLatch := by
  unfold Channel.raised
  split <;> exact ⟨rfl, rfl, rfl, rfl⟩

theorem State.intervalTicks_eq (s : State) (c : Chan) :
    s.intervalTicks c = (s.setChan c (s.chan c).tickTaken).raiseChan c (s.chan c).tickRaises := by
  obtain ⟨hconfig, hposition, -, -⟩ := (s.chan c).raised_config
  unfold State.intervalTicks State.saturate Channel.tickTaken Channel.saturated Channel.tickRaises
  dsimp only
  rw [State.setChan_chan, if_pos rfl]
  by_cases h : (s.chan c).raised.timerRuns = true ∧ (s.chan c).timer < timerMax ∧ (s.chan c).raised.timer = timerMax
  · rw [if_pos h, if_pos h, if_pos h, hconfig]
    cases (s.chan c).config.mode.counting with
    | true =>
      simp only [if_true, State.stallChan, State.raiseChan_one, State.setChan_chan, State.setChan_setChan, hconfig,
        hposition]
    | false =>
      simp only [Bool.false_eq_true, if_false, State.saturateCapture, State.raiseChan_one, State.setChan_chan, if_true,
        State.setChan_setChan, hconfig]
  · rw [if_neg h, if_neg h, if_neg h, State.raiseChan_nil]

/-! ### Rows of newly accepted levels (log entries 6 and 16) -/

/-- The settings of a channel and its accepted levels, which say what a change of levels is. -/
def Channel.levels (ch : Channel) : ChanConfig × Bool × Bool × Bool := (ch.config, ch.x.level, ch.y.level, ch.z.level)

theorem Channel.levels_iff {ch ch' : Channel} : ch.levels = ch'.levels ↔ ch.config = ch'.config ∧ ch.x.level = ch'.x.level
    ∧ ch.y.level = ch'.y.level ∧ ch.z.level = ch'.z.level := by
  simp [Channel.levels]

theorem Channel.levels_of_inputs {ch ch' : Channel} (h : ch.inputs = ch'.inputs) : ch.levels = ch'.levels := by
  simp only [Channel.inputs, Prod.mk.injEq] at h
  obtain ⟨hc, -, hx, hy, hz, -⟩ := h
  simp only [Channel.levels, hc, hx, hy, hz]

theorem Channel.countEvent_congr {ch ch' : Channel} (h : ch.levels = ch'.levels) (x y : Bool) :
    ch.countEvent x y = ch'.countEvent x y := by
  obtain ⟨hc, hx, hy, -⟩ := Channel.levels_iff.mp h
  simp only [Channel.countEvent, hc, hx, hy]

theorem Channel.counts_congr {ch ch' : Channel} (h : ch.levels = ch'.levels) (x y : Bool) :
    ch.counts x y = ch'.counts x y := by
  simp only [Channel.counts, Channel.countEvent_congr h]

/-- A row of newly accepted levels of a channel: what the change is depends on the settings and the accepted levels,
and it is a change. -/
structure LevelRow (i : Instr) (c : Chan) (change : Channel → Option Levels) : Prop where
  row : ∀ s : State, s.Awake → exec i s = .next (s.changeRow c change)
  congr : ∀ ch ch' : Channel, ch.levels = ch'.levels → change ch = change ch'
  differs : ∀ ch l, change ch = some l → ch.levelsDiffer l.x l.y l.z = true

section
variable {i : Instr} {c : Chan} {change : Channel → Option Levels} {s : State} {l : Levels}

/-- A change that lies at the sample in progress. -/
theorem LevelRow.exec_fits (h : LevelRow i c change) (hs : s.Awake) (hl : change (s.chan c) = some l)
    (hfits : (s.chan c).fits l.x l.y = true) : exec i s = .next (s.inputsChange c l) := by
  rw [h.row s hs]
  rcases s.changeRow_cases c change with ⟨hnone, -⟩ | ⟨l', hl', -, hrow⟩ | ⟨l', hl', hfits', -⟩
  · simp [hl] at hnone
  · rw [hrow, Option.some.inj (hl.symm.trans hl')]
  · rw [← Option.some.inj (hl.symm.trans hl'), hfits] at hfits'
    cases hfits'

/-- After the interval tick of its sample, a channel has its accepted levels and gives no tick. -/
theorem State.tickGiven_spec (s : State) (c : Chan) :
    (((s.tickGiven c).intervalTicks c).deliver.chan c).levels = (s.chan c).levels
      ∧ (((s.tickGiven c).intervalTicks c).deliver.chan c).divider.due = false := by
  have hinputs := ((s.tickGiven c).chan c).inputs_tickTaken
  have hlevels : ((s.tickGiven c).chan c).levels = (s.chan c).levels := by simp [State.tickGiven, Channel.levels]
  have hchan : ((s.tickGiven c).intervalTicks c).deliver.chan c = ((s.tickGiven c).chan c).tickTaken := by
    rw [State.deliver_chan, State.intervalTicks_chan, if_pos rfl]
  rw [hchan]
  refine ⟨(Channel.levels_of_inputs hinputs).trans hlevels, ?_⟩
  simp only [Channel.inputs, Prod.mk.injEq] at hinputs
  rw [hinputs.2.1]
  simp [State.tickGiven, Divider.start, Divider.due]

/-- Levels that are no counted step, taken beside the tick of their sample, are as those taken after it: the notices
of the two reach the ports in the same order (R139; log entry 16). -/
theorem State.inputsChange_after_tick (hquiet : s.Quiet) (hdue : (s.chan c).divider.due = true)
    (hc : (s.chan c).counts l.x l.y = false) :
    s.inputsChange c l = (((s.tickGiven c).intervalTicks c).deliver.acceptLevels c l.x l.y l.z).deliver := by
  obtain ⟨hlevels, -⟩ := s.tickGiven_spec c
  set t := (s.tickGiven c).intervalTicks c with ht
  have hgiven : ((s.tickGiven c).chan c).counts l.x l.y = false := by
    rw [← hc]
    exact Channel.counts_congr (by simp [State.tickGiven, Channel.levels]) _ _
  have hchange : s.inputsChange c l = (t.acceptLevels c l.x l.y l.z).deliver := by
    simp only [State.inputsChange, hdue, if_true, State.chanTakes, State.tickAndAccept_eq, hgiven]
    rfl
  have hsource : ∀ o ∈ t.outbox, o.source = .chan c := fun o ho => by
    have hbox : s.outbox = [] := hquiet
    simp only [ht, State.intervalTicks_eq, State.raiseChan, State.setOutbox_outbox, State.setChan_outbox,
      State.tickGiven, State.updChan_outbox, hbox, List.nil_append, State.chanCopies, List.mem_flatMap, List.mem_map] at ho
    obtain ⟨-, -, -, -, rfl⟩ := ho
    rfl
  have hdeliver : t.deliver.chan c = t.chan c := State.deliver_chan ..
  have hcounts : (t.chan c).counts l.x l.y = false := by
    rw [← hdeliver, ← hc]
    exact Channel.counts_congr hlevels _ _
  rw [hchange, State.acceptLevels_quietly hcounts, State.acceptLevels_quietly (hdeliver ▸ hcounts), hdeliver,
    ← State.deliver_setChan, State.deliver_raiseChan]
  exact hsource

theorem State.inputsChange_not_due (hdue : (s.chan c).divider.due = false) :
    s.inputsChange c l = (s.acceptLevels c l.x l.y l.z).deliver := by
  simp only [State.inputsChange, hdue]
  rfl

theorem Channel.fits_of_not_counts {ch : Channel} {x y : Bool} (h : ch.counts x y = false)
    (hdue : ch.divider.due = false) : ch.fits x y = true := by
  simp [Channel.fits, h, Channel.tickJoinsStep, hdue]

/-- A change that counts no step, at the sample of a tick that has not come yet. -/
theorem LevelRow.takenAfterTick (h : LevelRow i c change) (hs : s.Awake) (hl : change (s.chan c) = some l)
    (hcounts : (s.chan c).counts l.x l.y = false) (hdue : (s.chan c).divider.due = true)
    (hpass : (s.chan c).tickJoinsStep = true → LetsSamplePass i s) : TakenAfterTick i c s := by
  obtain ⟨hrst, hquiet⟩ := id hs
  refine ⟨fun hjoin => ⟨_, exec_intervalTick_now hrst hdue hjoin, (s.tickGiven_spec c).2, ?_⟩, hpass⟩
  obtain ⟨hlevels, hnot⟩ := s.tickGiven_spec c
  have hawake : ((s.tickGiven c).intervalTicks c).deliver.Awake := by
    refine ⟨?_, State.deliver_outbox _⟩
    rw [State.deliver_rst, State.intervalTicks_eq]
    exact hrst
  have hcounts' := (Channel.counts_congr hlevels l.x l.y).trans hcounts
  rw [h.exec_fits hs hl (by simp [Channel.fits, hcounts, hjoin]),
    h.exec_fits hawake ((h.congr _ _ hlevels).trans hl) (Channel.fits_of_not_counts hcounts' hnot),
    State.inputsChange_after_tick hquiet hdue hcounts, State.inputsChange_not_due hnot]

/-- The accepted levels of a channel after a change of them. -/
theorem State.inputsChange_levels (s : State) (c : Chan) (l : Levels) :
    ((s.inputsChange c l).chan c).x.level = l.x ∧ ((s.inputsChange c l).chan c).y.level = l.y
      ∧ ((s.inputsChange c l).chan c).z.level = l.z := by
  have hlevels : ∀ (f : Filter) b, (if f.level = b then f else .settled b).level = b := fun f b => by
    split
    · assumption
    · rfl
  have hinputs : ∀ (ch : Channel) tick, (ch.takes tick l.x l.y l.z).x.level = l.x
      ∧ (ch.takes tick l.x l.y l.z).y.level = l.y ∧ (ch.takes tick l.x l.y l.z).z.level = l.z := fun ch tick => by
    have h := ch.inputs_takes tick l.x l.y l.z
    simp only [Channel.inputs, Prod.mk.injEq] at h
    obtain ⟨-, -, hx, hy, hz, -⟩ := h
    rw [hx, hy, hz]
    exact ⟨hlevels _ _, hlevels _ _, hlevels _ _⟩
  simp only [State.inputsChange, State.deliver_chan, State.chanTakes_chan, if_true]
  exact hinputs _ _

/-- A change that cannot lie at the sample in progress lets it pass, where it can lie at the next. -/
theorem LevelRow.letsSamplePass (h : LevelRow i c change) (hs : s.Awake) (hl : change (s.chan c) = some l)
    (hfits : (s.chan c).fits l.x l.y = false)
    (hnext : ∀ l', change (s.sample.chan c) = some l' → (s.sample.chan c).fits l'.x l'.y = true) :
    LetsSamplePass i s := by
  have hawake := (State.sample_awake hs.1).2.1
  have hhere : exec i s = .next (match change (s.sample.chan c) with
      | none => s
      | some l => s.sample.inputsChange c l) := by
    rw [h.row s hs]
    rcases s.changeRow_cases c change with ⟨hnone, -⟩ | ⟨l', hl', hfits', -⟩ | ⟨l', -, -, hrow⟩
    · simp [hl] at hnone
    · rw [← Option.some.inj (hl.symm.trans hl'), hfits] at hfits'
      cases hfits'
    · refine congrArg Host.Outcome.next (hrow.trans ?_)
      cases change (s.sample.chan c) <;> rfl
  cases hl' : change (s.sample.chan c) with
  | none =>
    have hthere : exec i s.sample = .next s.sample := by
      rw [h.row _ hawake]
      rcases s.sample.changeRow_cases c change with ⟨-, hrow⟩ | ⟨l', hl'', -, -⟩ | ⟨l', hl'', -, -⟩
      · rw [hrow]
      · simp [hl'] at hl''
      · simp [hl'] at hl''
    rw [hl'] at hhere
    exact ⟨fun hne => absurd hthere hne, fun _ => hhere⟩
  | some l' =>
    have hthere := h.exec_fits hawake hl' (hnext l' hl')
    rw [hl'] at hhere
    refine letsSamplePass_of_eq (hhere.trans hthere.symm) fun hsame => ?_
    rw [hthere] at hsame
    obtain ⟨hx, hy, hz⟩ := s.sample.inputsChange_levels c l'
    rw [Host.Outcome.next.inj hsame] at hx hy hz
    have hdiffers := h.differs _ _ hl'
    simp [Channel.levelsDiffer, hx, hy, hz] at hdiffers

end

/-! ### What one sample leaves of the timer -/

/-- Levels taken leave the timer as it was, or at 0. -/
theorem Channel.accepted_timer (ch : Channel) (x y z : Bool) :
    (ch.accepted x y z).timer = ch.timer ∨ (ch.accepted x y z).timer = 0 := by
  have hstep : ∀ (ch : Channel) e, (ch.stepped e).timer = ch.timer ∨ (ch.stepped e).timer = 0 := fun ch e => by
    cases e
    · exact .inl rfl
    · exact .inr rfl
    · exact .inl rfl
  have hcapture : ∀ ch : Channel, (ch.captured x).timer = ch.timer ∨ (ch.captured x).timer = 0 := fun ch => by
    unfold Channel.captured
    split
    · exact .inr rfl
    · exact .inl rfl
    · exact .inl rfl
    · exact .inr rfl
  have hlevels : (ch.withLevels x y z).timer = ch.timer := rfl
  have h1 := hstep (ch.withLevels x y z) (ch.countEvent x y)
  have h2 := hcapture ((ch.withLevels x y z).stepped (ch.countEvent x y))
  rw [hlevels] at h1
  have hlast : ∀ m : Channel, (if ch.indexEvent z then m.indexed else m).timer = m.timer := fun m => by
    split <;> rfl
  unfold Channel.accepted
  dsimp only
  rw [hlast]
  split <;> omega

/-- A counted step leaves the timer at 0. -/
theorem Channel.accepted_timer_of_counts {ch : Channel} {x y : Bool} (h : ch.counts x y = true) (z : Bool) :
    (ch.accepted x y z).timer = 0 := by
  unfold Channel.counts at h
  cases he : ch.countEvent x y with
  | none | phaseError =>
    rw [he] at h
    cases h
  | step up =>
    have hmode : ch.config.mode ≠ .capture := fun hm => by simp [Channel.countEvent, hm] at he
    have hcapture : ch.captureEvent x = false := by simp [Channel.captureEvent, hmode]
    unfold Channel.accepted
    rw [he, hcapture]
    dsimp only
    split <;> rfl

theorem Channel.counting_of_counts {ch : Channel} {x y : Bool} (h : ch.counts x y = true) :
    ch.config.mode.counting = true := by
  unfold Channel.counts Channel.countEvent at h
  cases hm : ch.config.mode with
  | off | capture =>
    rw [hm] at h
    cases h
  | quad | stepDir | upDown => rfl

theorem Channel.timerRuns_of_counting (ch : Channel) (h : ch.config.mode.counting = true) : ch.timerRuns = true := by
  simp [Channel.timerRuns, h]

/-- A sample leaves no tick of its own: what lies at the next sample finds no channel stalled at it, and a channel
that was stalled, or whose last tick a counted step joined, has its timer at 65535 or at 0. -/
theorem State.sample_chan_timer {s : State} {c : Chan} (hrst : s.rst.inReset = false) :
    (s.sample.chan c).divider.fresh = false
      ∧ ((s.chan c).divider.due = false →
        (s.sample.chan c).timer = (s.chan c).timer ∨ (s.sample.chan c).timer = 0)
      ∧ ((s.chan c).tickJoinsStep = true → (s.sample.chan c).timer = 0) := by
  have hcore := s.liveSample_chan_core c
  rw [(State.sample_awake hrst).1]
  have hdivider : (s.liveSample.chan c).divider = (s.chan c).sampled.divider := (congrArg Channel.divider hcore :)
  have htimer : (s.liveSample.chan c).timer = (s.chan c).sampled.timer := (congrArg Channel.timer hcore :)
  rw [hdivider, htimer, (s.chan c).sampled_inputs.2.1]
  refine ⟨Divider.pass_fresh .., fun hdue => ?_, fun hjoin => ?_⟩
  · unfold Channel.sampled
    rw [hdue]
    dsimp only
    split
    · exact Channel.accepted_timer ..
    · exact .inl rfl
  · simp only [Channel.tickJoinsStep, Bool.and_eq_true, decide_eq_true_eq] at hjoin
    obtain ⟨⟨hdue, -⟩, hstep⟩ := hjoin
    have hpass : (s.chan c).pass.levels = (s.chan c).levels := by simp [Channel.levels, Channel.pass, Filter.wait_level]
    have hraised := Channel.levels_of_inputs (s.chan c).pass.inputs_raised
    have hcounts := (Channel.counts_congr (hraised.trans hpass) _ _).trans hstep
    have hcounts' := (Channel.counts_congr hpass _ _).trans hstep
    unfold Channel.sampled
    dsimp only
    rw [hdue, (s.chan c).timerRuns_of_counting (Channel.counting_of_counts hstep), Bool.and_self, Bool.or_true, if_pos rfl,
      Channel.takes, if_pos rfl, hcounts', if_pos rfl]
    exact Channel.accepted_timer_of_counts hcounts _

/-- The next sample after one that a tick left stalled, or that a counted step joined, takes any change. -/
theorem State.sample_fits {s : State} {c : Chan} (hrst : s.rst.inReset = false)
    (h : (s.chan c).stalledNow = true ∨ (s.chan c).tickJoinsStep = true) (x y : Bool) :
    (s.sample.chan c).fits x y = true := by
  obtain ⟨hfresh, hkept, hjoined⟩ := State.sample_chan_timer (c := c) hrst
  have hstalled : (s.sample.chan c).stalledNow = false := by simp [Channel.stalledNow, hfresh]
  have htimer : (s.sample.chan c).timer + 1 ≠ timerMax := by
    rcases h with h | h
    · simp only [Channel.stalledNow, Bool.and_eq_true, decide_eq_true_eq] at h
      obtain ⟨⟨-, htimer⟩, hf⟩ := h
      rcases hkept (by simp [Divider.due, hf]) with hsame | hzero
      · rw [hsame, htimer]
        decide
      · rw [hzero]
        decide
    · rw [hjoined h]
      decide
  simp [Channel.fits, hstalled, Channel.tickJoinsStep, htimer]

theorem LevelRow.letsPass_of_stalled {i : Instr} {c : Chan} {change : Channel → Option Levels} {s : State} {l : Levels}
    (h : LevelRow i c change) (hs : s.Awake) (hl : change (s.chan c) = some l) (hc : (s.chan c).counts l.x l.y = true)
    (hstalled : (s.chan c).stalledNow = true) : LetsSamplePass i s :=
  h.letsSamplePass hs hl (by simp [Channel.fits, hc, hstalled]) fun _ _ => State.sample_fits hs.1 (.inl hstalled) ..

/-- A change that counts no step, beside the tick of its sample. -/
theorem LevelRow.besideTick {i : Instr} {c : Chan} {change : Channel → Option Levels} {s : State} {l : Levels}
    (h : LevelRow i c change) (hs : s.Awake) (hl : change (s.chan c) = some l) (hc : (s.chan c).counts l.x l.y = false)
    (hdue : (s.chan c).divider.due = true) : TakenAfterTick i c s :=
  h.takenAfterTick hs hl hc hdue fun hjoin => h.letsSamplePass hs hl (by simp [Channel.fits, hc, hjoin])
    fun _ _ => State.sample_fits hs.1 (.inr hjoin) ..

/-- The row of a change that counts, latches and measures nothing. -/
theorem LevelRow.changesOnlyLevels {i : Instr} {c : Chan} {change : Channel → Option Levels} {s : State} {l : Levels}
    (h : LevelRow i c change) (hs : s.Awake) (hl : change (s.chan c) = some l)
    (hevent : (s.chan c).countEvent l.x l.y = .none) (hcapture : (s.chan c).captureEvent l.x = false)
    (hindex : (s.chan c).indexEvent l.z = false) : ChangesOnlyLevels i c l.x l.y l.z s := by
  have hcounts : (s.chan c).counts l.x l.y = false := by rw [Channel.counts, hevent]
  refine ⟨fun hdue => ⟨_, h.exec_fits hs hl (Channel.fits_of_not_counts hcounts hdue), ?_⟩, h.besideTick hs hl hcounts⟩
  have hquiet : s.outbox = [] := hs.2
  have hlevels : s.acceptLevels c l.x l.y l.z = s.setChan c ((s.chan c).withLevels l.x l.y l.z) := by
    rw [State.acceptLevels_none hevent, State.takeEdges, hcapture, hindex]
    rfl
  rw [State.inputsChange_not_due hdue, hlevels, State.deliver_quiet _ (by simpa using hquiet)]
  refine ⟨_, _, _, ?_, ?_, ?_, rfl⟩
  all_goals
    split
    · assumption
    · rfl

/-! ### A counted step (R136, R137, R139, R148) -/

theorem condMet_iff (cond : Condition) (c : Chan) (position : Nat) (up : Bool) :
    condMet cond c position up = true ↔ cond.chan = c ∧ cond.target.toNat = position
      ∧ (cond.dir = .either ∨ (cond.dir = .up ∧ up = true) ∨ (cond.dir = .down ∧ up = false)) := by
  cases hd : cond.dir <;> cases up <;> simp [condMet, CondDir.matches, hd]

theorem State.acceptLevels_step {s : State} {c : Chan} {x y z up : Bool} (h : (s.chan c).countEvent x y = .step up)
    (hindex : (s.chan c).indexEvent z = false) :
    s.acceptLevels c x y z = (s.setChan c ((s.chan c).withLevels x y z)).countStep c up := by
  have hmode : (s.chan c).config.mode ≠ .capture := fun hm => by simp [Channel.countEvent, hm] at h
  have hcapture : (s.chan c).captureEvent x = false := by simp [Channel.captureEvent, hmode]
  simp only [State.acceptLevels, h, hcapture, hindex]
  rfl

theorem Channel.ticked_levels (ch : Channel) : ch.ticked.levels = ch.levels := by
  unfold Channel.ticked
  split <;> rfl

theorem Channel.indexEvent_congr {ch ch' : Channel} (h : ch.levels = ch'.levels) (z : Bool) :
    ch.indexEvent z = ch'.indexEvent z := by
  obtain ⟨hc, -, -, hz⟩ := Channel.levels_iff.mp h
  simp only [Channel.indexEvent, hc, hz]

/-- The tick of a sample at which a counted step comes gives the timer that the step latches. -/
theorem State.tickGiven_raised {s : State} {c : Chan} (hdue : (s.chan c).divider.due = true) :
    (s.tickGiven c).setChan c ((s.tickGiven c).chan c).raised = s.setChan c (s.chan c).ticked := by
  have hgiven : (s.tickGiven c).chan c
      = { s.chan c with divider := ⟨2 ^ (s.chan c).config.prescale.val, true⟩ } := by
    simp [State.tickGiven, Divider.start, prescaleSamples]
  have hraised : ((s.tickGiven c).chan c).raised = (s.chan c).ticked := by
    rw [hgiven]
    unfold Channel.ticked Channel.raised
    rw [if_pos hdue]
    by_cases h : (s.chan c).timerRuns = true ∧ (s.chan c).timer < 65535
    · rw [if_pos h]
      exact if_pos h
    · rw [if_neg h]
      exact if_neg h
  rw [hraised, State.tickGiven, State.updChan, State.setChan_setChan]

/-- A counted step of levels that are no index edge, with the tick of its sample if one comes there. -/
theorem State.inputsChange_step {s : State} {c : Chan} {l : Levels} {up : Bool}
    (hevent : (s.chan c).countEvent l.x l.y = .step up) (hindex : (s.chan c).indexEvent l.z = false) :
    s.inputsChange c l
      = ((s.setChan c ((s.chan c).ticked.withLevels l.x l.y l.z)).countStep c up).deliver := by
  have htaken : s.inputsChange c l = ((s.setChan c (s.chan c).ticked).acceptLevels c l.x l.y l.z).deliver := by
    cases hdue : (s.chan c).divider.due with
    | false =>
      rw [State.inputsChange_not_due hdue, Channel.ticked, hdue]
      simp only [Bool.false_eq_true, if_false, State.chan_setChan_self]
    | true =>
      have hgiven : ((s.tickGiven c).chan c).counts l.x l.y = true := by
        have hlevels : ((s.tickGiven c).chan c).levels = (s.chan c).levels := by simp [State.tickGiven, Channel.levels]
        rw [Channel.counts_congr hlevels, Channel.counts, hevent]
      simp only [State.inputsChange, hdue, if_true, State.chanTakes, State.tickAndAccept_eq, hgiven,
        State.tickGiven_raised hdue]
  have hlevels : ((s.setChan c (s.chan c).ticked).chan c).levels = (s.chan c).levels := by
    rw [State.setChan_chan, if_pos rfl, Channel.ticked_levels]
  rw [htaken, State.acceptLevels_step ((Channel.countEvent_congr hlevels _ _).trans hevent)
    ((Channel.indexEvent_congr hlevels _).trans hindex), State.setChan_chan, if_pos rfl, State.setChan_setChan]

/-- A notice of a channel, where nothing else is on its way. -/
theorem State.deliver_postChan {s : State} (hquiet : s.Quiet) (c : Chan) (body : NoticeBody) :
    ∃ k, (s.postChan c body).deliver = (s.told (fun p => ((s.chan c).subscribers.get p).include body)
      ⟨body, .chan c, none, s.periodLow⟩).setChoices k :=
  State.deliver_told_all hquiet ..

/-- What the counted step of a channel does, before its notice is delivered. -/
theorem LegUnit.examine_eq (u : LegUnit) (c : Chan) (position : Nat) (up : Bool) :
    u.examine c position up =
      match u.phase with
      | .running a =>
        match a.seg.condition with
        | some cond =>
          if cond.chan = c ∧ cond.target.toNat = position
              ∧ (cond.dir = .either ∨ (cond.dir = .up ∧ up = true) ∨ (cond.dir = .down ∧ up = false))
          then { u with phase := .running { a with latch := true } } else u
        | none => u
      | _ => u := by
  unfold LegUnit.examine
  cases hphase : u.phase with
  | idle | holding _ | tripped _ => rfl
  | running a =>
    cases hcond : a.seg.condition with
    | none => simp only [hcond]
    | some cond => simp only [hcond, condMet_iff]

/-- The ports after a counted step: DIRECTION goes to those that subscribe to it, where the direction changes (R137,
R143). -/
theorem State.countStep_ports_delivered {s : State} (hquiet : s.Quiet) (c : Chan) (up : Bool) (p : Port) :
    (s.countStep c up).deliver.port p =
      if (s.chan c).direction ≠ stepDirection up ∧ ((s.chan c).subscribers.get p).direction = true then
        (s.port p).receiveCopy ⟨.direction (stepDirection up) ((s.chan c).step up).1, .chan c, none, s.periodLow⟩
      else s.port p := by
  have hbox : s.outbox = [] := hquiet
  unfold State.countStep
  dsimp only
  split
  · next h =>
    rw [State.deliver_quiet _ (by simpa using hbox), if_neg fun hn => hn.1 h]
    rfl
  · next h =>
    obtain ⟨k, hk⟩ := State.deliver_postChan (s := (s.setChan c ((s.chan c).counted up)).setLegs
      (.ofFn fun n => (s.leg n).examine c ((s.chan c).step up).1 up)) (by simpa [State.Quiet] using hbox) c
      (.direction (stepDirection up) ((s.chan c).step up).1)
    have hsubscribers : ∀ u, ((s.setChan c ((s.chan c).counted up)).setLegs u).chan c = (s.chan c).counted up :=
      fun u => by simp
    rw [hk, State.setChoices_port, State.told_port, hsubscribers]
    simp only [ne_eq, h, not_false_eq_true, true_and]
    rfl

/-- A counted step delivered. -/
theorem State.countStep_counted {s : State} (hquiet : s.Quiet) (c : Chan) (l : Levels) (up : Bool)
    (hz : (s.chan c).z.level = l.z) :
    s.CountedStep ((s.setChan c ((s.chan c).ticked.withLevels l.x l.y l.z)).countStep c up).deliver c up := by
  have hbox : s.outbox = [] := hquiet
  have hstep : ((s.chan c).ticked.withLevels l.x l.y l.z).step up = (s.chan c).step up
      ∧ ((s.chan c).ticked.withLevels l.x l.y l.z).direction = (s.chan c).direction
      ∧ ((s.chan c).ticked.withLevels l.x l.y l.z).subscribers = (s.chan c).subscribers := by
    unfold Channel.ticked
    split <;> exact ⟨rfl, rfl, rfl⟩
  obtain ⟨hposition, hdirection, hsubscribers⟩ := hstep
  have hsteps : (s.chan c).step up
      = (if up then (if (s.chan c).position + 1 < (s.chan c).config.modulus then (s.chan c).position + 1 else 0)
        else (if 0 < (s.chan c).position then (s.chan c).position - 1 else (s.chan c).config.modulus - 1),
        if up then (if (s.chan c).position + 1 < (s.chan c).config.modulus then (s.chan c).revolutions
          else (s.chan c).revolutions + 1)
        else (if 0 < (s.chan c).position then (s.chan c).revolutions else (s.chan c).revolutions - 1)) := by
    unfold Channel.step
    cases up <;> simp only [Bool.false_eq_true, if_false, if_true] <;> split <;> rfl
  have hpos := congrArg Prod.fst hsteps
  refine ⟨?_, fun n => ?_, fun p => ?_, ?_⟩
  · rw [State.deliver_chan, State.countStep_chan, if_pos rfl, State.setChan_chan, if_pos rfl, Channel.counted, hposition, hsteps]
    unfold Channel.ticked Channel.withLevels
    split <;> rfl
  · rw [State.deliver_leg, State.countStep_leg, State.setChan_leg, State.setChan_chan, if_pos rfl, hposition, hpos]
    exact LegUnit.examine_eq ..
  · rw [State.countStep_ports_delivered (by simpa [State.Quiet] using hbox), State.setChan_chan, if_pos rfl, hposition,
      hdirection, hsubscribers, hpos]
    rfl
  · refine ⟨by simp, by simp, by simp, by simp, by simp, by simp, by simp, fun d hd => ?_⟩
    rw [State.deliver_chan, State.countStep_chan, if_neg hd, State.setChan_chan, if_neg hd]

end Sys2Proof.Machine
end

section
/-! PROOFS. The rows of a Position Channel: STEP_DIR_EDGE, UP_DOWN_EDGE, QUAD_INPUT_CHANGE, INDEX_EDGE, CAPTURE_EDGE and
ACCEPTED_LEVEL_CHANGE (chapter 8). -/

namespace Sys2Proof.Machine

open Sys2Proof

-- One theorem at a time, as in the tests: proofs that wait for the kernel would each hold a thread.
set_option Elab.async false

/-! ### What a change of levels is -/

theorem activeEdge_iff (e : ActiveEdge) (old new : Bool) :
    activeEdge e old new = true
      ↔ (e = .rising ∧ old = false ∧ new = true) ∨ (e = .falling ∧ old = true ∧ new = false) := by
  cases e <;> simp [activeEdge]

theorem activeEdge_flip_iff (e : ActiveEdge) (old : Bool) :
    activeEdge e old (!old) = true ↔ (e = .rising ∧ old = false) ∨ (e = .falling ∧ old = true) := by
  rw [activeEdge_iff]
  cases old <;> simp

theorem activeEdge_self (e : ActiveEdge) (b : Bool) : activeEdge e b b = false := by
  cases e <;> simp [activeEdge]

theorem Channel.levelsDiffer_iff (ch : Channel) (x y z : Bool) :
    ch.levelsDiffer x y z = true ↔ ch.x.level ≠ x ∨ ch.y.level ≠ y ∨ ch.z.level ≠ z := by
  simp [Channel.levelsDiffer, or_assoc]

theorem Channel.levelsDiffer_congr {ch ch' : Channel} (h : ch.levels = ch'.levels) (x y z : Bool) :
    ch.levelsDiffer x y z = ch'.levelsDiffer x y z := by
  obtain ⟨-, hx, hy, hz⟩ := Channel.levels_iff.mp h
  simp only [Channel.levelsDiffer, hx, hy, hz]

theorem Channel.captureEvent_congr {ch ch' : Channel} (h : ch.levels = ch'.levels) (x : Bool) :
    ch.captureEvent x = ch'.captureEvent x := by
  obtain ⟨hc, hx, -⟩ := Channel.levels_iff.mp h
  simp only [Channel.captureEvent, hc, hx]

theorem Channel.indexEvent_self (ch : Channel) : ch.indexEvent ch.z.level = false := by
  simp [Channel.indexEvent]

theorem Channel.captureEvent_of_mode {ch : Channel} (h : ch.config.mode ≠ .capture) (x : Bool) :
    ch.captureEvent x = false := by
  simp [Channel.captureEvent, h]

theorem Channel.countEvent_stepDir {ch : Channel} (h : ch.config.mode = .stepDir) (x y : Bool) :
    ch.countEvent x y = if activeEdge ch.config.edge ch.x.level x then .step (!ch.y.level) else .none := by
  simp only [Channel.countEvent, h]

theorem Channel.countEvent_upDown {ch : Channel} (h : ch.config.mode = .upDown) (x y : Bool) :
    ch.countEvent x y =
      if activeEdge ch.config.edge ch.x.level x = activeEdge ch.config.edge ch.y.level y then .none
      else .step (activeEdge ch.config.edge ch.x.level x) := by
  simp only [Channel.countEvent, h]
  cases activeEdge ch.config.edge ch.x.level x <;> cases activeEdge ch.config.edge ch.y.level y <;> rfl

theorem Channel.countEvent_quad {ch : Channel} (h : ch.config.mode = .quad) (x y : Bool) :
    ch.countEvent x y =
      if ch.x.level = x ∧ ch.y.level = y then .none
      else if ch.x.level ≠ x ∧ ch.y.level ≠ y then .phaseError
      else .step (decide (phaseOf x y = (phaseOf ch.x.level ch.y.level + 1) % 4)) := by
  simp only [Channel.countEvent, h]

theorem Channel.countEvent_off {ch : Channel} (h : ch.config.mode = .off) (x y : Bool) : ch.countEvent x y = .none := by
  simp only [Channel.countEvent, h]

theorem Channel.countEvent_capture {ch : Channel} (h : ch.config.mode = .capture) (x y : Bool) :
    ch.countEvent x y = .none := by
  simp only [Channel.countEvent, h]

/-- Levels of X and Y that do not change count nothing. -/
theorem Channel.countEvent_self (ch : Channel) : ch.countEvent ch.x.level ch.y.level = .none := by
  unfold Channel.countEvent
  cases ch.config.mode <;> simp [activeEdge_self]

/-! ### The rows as changes of levels -/

theorem quadInputChange_row (c : Chan) (x y : Bool) : LevelRow (.quadInputChange c x y) c fun ch =>
    if ch.config.mode = .quad ∧ ch.levelsDiffer x y ch.z.level = true then some ⟨x, y, ch.z.level⟩ else none where
  row _ hs := congrArg Host.Outcome.next (State.event_awake hs.1 _)
  congr ch ch' h := by
    obtain ⟨hc, hx, hy, hz⟩ := Channel.levels_iff.mp h
    simp only [Channel.levelsDiffer_congr h, hc, hz]
  differs ch l h := by
    obtain ⟨hd, hl⟩ := Option.ite_none_right_eq_some.mp h
    cases hl
    exact hd.2

theorem stepDirEdge_row (c : Chan) (y : Bool) : LevelRow (.stepDirEdge c y) c fun ch =>
    if ch.config.mode = .stepDir ∧ activeEdge ch.config.edge ch.x.level (!ch.x.level) = true then
      some ⟨!ch.x.level, y, ch.z.level⟩
    else none where
  row _ hs := congrArg Host.Outcome.next (State.event_awake hs.1 _)
  congr ch ch' h := by
    obtain ⟨hc, hx, hy, hz⟩ := Channel.levels_iff.mp h
    simp only [hc, hx, hz]
  differs ch l h := by
    obtain ⟨-, hl⟩ := Option.ite_none_right_eq_some.mp h
    cases hl
    exact (ch.levelsDiffer_iff _ _ _).mpr (.inl (by simp))

theorem upDownEdge_row (c : Chan) (x y : Bool) : LevelRow (.upDownEdge c x y) c fun ch =>
    if ch.config.mode = .upDown
        ∧ (activeEdge ch.config.edge ch.x.level x = true ∨ activeEdge ch.config.edge ch.y.level y = true) then
      some ⟨x, y, ch.z.level⟩
    else none where
  row _ hs := congrArg Host.Outcome.next (State.event_awake hs.1 _)
  congr ch ch' h := by
    obtain ⟨hc, hx, hy, hz⟩ := Channel.levels_iff.mp h
    simp only [hc, hx, hy, hz]
  differs ch l h := by
    obtain ⟨⟨-, he⟩, hl⟩ := Option.ite_none_right_eq_some.mp h
    cases hl
    refine (ch.levelsDiffer_iff _ _ _).mpr (he.imp (fun hx hsame => ?_) fun hy => .inl fun hsame => ?_)
    · rw [hsame, activeEdge_self] at hx
      cases hx
    · rw [hsame, activeEdge_self] at hy
      cases hy

theorem indexEdge_row (c : Chan) : LevelRow (.indexEdge c) c fun ch =>
    if ch.indexEvent true then some ⟨ch.x.level, ch.y.level, true⟩ else none where
  row _ hs := congrArg Host.Outcome.next (State.event_awake hs.1 _)
  congr ch ch' h := by
    obtain ⟨hc, hx, hy, hz⟩ := Channel.levels_iff.mp h
    simp only [Channel.indexEvent_congr h, hx, hy]
  differs ch l h := by
    obtain ⟨he, hl⟩ := Option.ite_none_right_eq_some.mp h
    cases hl
    refine (ch.levelsDiffer_iff _ _ _).mpr (.inr (.inr fun hz => ?_))
    simp [Channel.indexEvent, hz] at he

theorem captureEdge_row (c : Chan) : LevelRow (.captureEdge c) c fun ch =>
    if ch.config.mode = .capture then some ⟨!ch.x.level, ch.y.level, ch.z.level⟩ else none where
  row _ hs := congrArg Host.Outcome.next (State.event_awake hs.1 _)
  congr ch ch' h := by
    obtain ⟨hc, hx, hy, hz⟩ := Channel.levels_iff.mp h
    simp only [hc, hx, hy, hz]
  differs ch l h := by
    obtain ⟨-, hl⟩ := Option.ite_none_right_eq_some.mp h
    cases hl
    exact (ch.levelsDiffer_iff _ _ _).mpr (.inl (by simp))

theorem acceptedLevelChange_row (c : Chan) (x y z : Bool) : LevelRow (.acceptedLevelChange c x y z) c fun ch =>
    if ch.levelsDiffer x y z = true ∧ ch.countEvent x y = .none ∧ ch.captureEvent x = false
        ∧ ch.indexEvent z = false then
      some ⟨x, y, z⟩
    else none where
  row _ hs := congrArg Host.Outcome.next (State.event_awake hs.1 _)
  congr ch ch' h := by
    simp only [Channel.levelsDiffer_congr h, Channel.countEvent_congr h, Channel.captureEvent_congr h,
      Channel.indexEvent_congr h]
  differs ch l h := by
    obtain ⟨⟨hd, -⟩, hl⟩ := Option.ite_none_right_eq_some.mp h
    cases hl
    exact hd

/-- A change of levels that counts, latches and measures nothing. -/
theorem acceptedLevelChange_only {s : State} {c : Chan} {x y z : Bool} (hs : s.Awake)
    (hdiffer : (s.chan c).x.level ≠ x ∨ (s.chan c).y.level ≠ y ∨ (s.chan c).z.level ≠ z)
    (hevent : (s.chan c).countEvent x y = .none) (hcapture : (s.chan c).captureEvent x = false)
    (hindex : (s.chan c).indexEvent z = false) : ChangesOnlyLevels (.acceptedLevelChange c x y z) c x y z s :=
  (acceptedLevelChange_row c x y z).changesOnlyLevels hs (l := ⟨x, y, z⟩)
    (if_pos ⟨((s.chan c).levelsDiffer_iff _ _ _).mpr hdiffer, hevent, hcapture, hindex⟩) hevent hcapture hindex

/-- The row of a counted step, where no tick of its sample left the channel stalled. -/
theorem LevelRow.countedStep {i : Instr} {c : Chan} {change : Channel → Option Levels} {s : State} {x y up : Bool}
    (h : LevelRow i c change) (hs : s.Awake) (hl : change (s.chan c) = some ⟨x, y, (s.chan c).z.level⟩)
    (hevent : (s.chan c).countEvent x y = .step up) (hstalled : (s.chan c).stalledNow = false) :
    ∃ t, exec i s = .next t ∧ s.CountedStep t c up ∧ (t.chan c).x.level = x ∧ (t.chan c).y.level = y
      ∧ (t.chan c).phase = phaseOf x y := by
  have hcounts : (s.chan c).counts x y = true := by rw [Channel.counts, hevent]
  obtain ⟨hx, hy, -⟩ := s.inputsChange_levels c ⟨x, y, (s.chan c).z.level⟩
  have hstep := State.inputsChange_step (l := ⟨x, y, (s.chan c).z.level⟩) hevent (s.chan c).indexEvent_self
  refine ⟨_, h.exec_fits hs hl (by simp [Channel.fits, hcounts, hstalled]), ?_, hx, hy, ?_⟩
  · rw [hstep]
    exact State.countStep_counted hs.2 c _ up rfl
  · rw [hstep, State.deliver_chan, State.countStep_chan, if_pos rfl, State.setChan_chan, if_pos rfl]
    rfl

/-! ### STEP_DIR and UP_DOWN (R134, R135) -/

/-- Settles O51: an active edge of X is the one change that counts; every other one is a change of levels alone. -/
theorem stepDirCounts : Obligations.StepDirCounts := by
  intro c y s hs hmode
  have hevent := Channel.countEvent_stepDir hmode
  have hcapture := Channel.captureEvent_of_mode (ch := s.chan c) (by simp [hmode])
  have hindex := (s.chan c).indexEvent_self
  dsimp only
  simp only [← activeEdge_flip_iff]
  refine ⟨fun ha hstalled => ?_, fun ha hstalled => ?_, fun ha => ?_, ?_⟩
  · exact (stepDirEdge_row c y).countedStep hs (if_pos ⟨hmode, ha⟩) (by rw [hevent, if_pos ha]) hstalled
  · exact (stepDirEdge_row c y).letsPass_of_stalled hs (if_pos ⟨hmode, ha⟩)
      (by simp only [Channel.counts, hevent, ha, if_true]) hstalled
  · exact acceptedLevelChange_only hs (.inl (by simp)) (by rw [hevent, if_neg ha]) (hcapture _) hindex
  · exact acceptedLevelChange_only hs (.inr (.inl (by simp))) (by simp [hevent, activeEdge_self]) (hcapture _) hindex

/-- Settles O52: exactly one active edge counts; two cancel, and none is a change of levels alone. -/
theorem upDownCounts : Obligations.UpDownCounts := by
  intro c x y s hs hmode
  have hevent := Channel.countEvent_upDown hmode x y
  have hcapture := Channel.captureEvent_of_mode (ch := s.chan c) (by simp [hmode]) x
  have hindex := (s.chan c).indexEvent_self
  have hrow := upDownEdge_row c x y
  dsimp only
  simp only [← activeEdge_iff]
  refine ⟨fun hx hy hstalled => ?_, fun hx hy hstalled => ?_, fun hxy hstalled => ?_, fun hx hy => ?_,
    fun hx hy hdiffer => ?_⟩
  · exact hrow.countedStep hs (if_pos ⟨hmode, .inl hx⟩) (by simp [hevent, hx, hy]) hstalled
  · exact hrow.countedStep hs (if_pos ⟨hmode, .inr hy⟩) (by simp [hevent, hx, hy]) hstalled
  · have hone : activeEdge (s.chan c).config.edge (s.chan c).x.level x = true
        ∨ activeEdge (s.chan c).config.edge (s.chan c).y.level y = true :=
      or_iff_not_imp_left.mpr fun hx => not_not.mp (mt hxy.mpr hx)
    refine hrow.letsPass_of_stalled hs (if_pos ⟨hmode, hone⟩) ?_ hstalled
    rw [Channel.counts, hevent]
    · cases hx : activeEdge (s.chan c).config.edge (s.chan c).x.level x <;>
        cases hy : activeEdge (s.chan c).config.edge (s.chan c).y.level y <;>
        simp [hx, hy] at hxy ⊢
  · exact hrow.changesOnlyLevels hs (if_pos ⟨hmode, .inl hx⟩) (by simp [hevent, hx, hy]) hcapture hindex
  · exact acceptedLevelChange_only hs (hdiffer.imp Ne.symm fun h => .inl h.symm) (by simp [hevent, hx, hy]) hcapture hindex

/-! ### QUAD (R132, R133) -/

theorem Channel.accepted_subscribers (ch : Channel) (x y z : Bool) : (ch.accepted x y z).subscribers = ch.subscribers := by
  have hstep : ((ch.withLevels x y z).stepped (ch.countEvent x y)).subscribers = ch.subscribers := by
    cases ch.countEvent x y <;> rfl
  have hindex : ∀ m : Channel, (if ch.indexEvent z then m.indexed else m).subscribers = m.subscribers := fun m => by
    split <;> rfl
  unfold Channel.accepted
  dsimp only
  rw [hindex]
  split
  · rw [Channel.captured_subscribers, hstep]
  · exact hstep

/-- A channel's own change and one notice of it, where nothing else is on its way. -/
theorem State.deliver_raiseOne {s : State} (hquiet : s.Quiet) {c : Chan} {ch : Channel}
    (hsubscribers : ch.subscribers = (s.chan c).subscribers) (body : NoticeBody) :
    ((s.setChan c ch).raiseChan c [body]).deliver.chan c = ch
      ∧ (∀ q, ((s.setChan c ch).raiseChan c [body]).deliver.port q =
          if ((s.chan c).subscribers.get q).include body then
            (s.port q).receiveCopy ⟨body, .chan c, none, s.periodLow⟩ else s.port q)
      ∧ ((s.setChan c ch).raiseChan c [body]).deliver.legs = s.legs
      ∧ ((s.setChan c ch).raiseChan c [body]).deliver.leases = s.leases
      ∧ ((s.setChan c ch).raiseChan c [body]).deliver.carrier = s.carrier
      ∧ ∀ d, d ≠ c → ((s.setChan c ch).raiseChan c [body]).deliver.chan d = s.chan d := by
  obtain ⟨k, hk⟩ := State.deliver_postChan (s := s.setChan c ch) hquiet c body
  rw [State.raiseChan_one, hk]
  refine ⟨?_, fun q => ?_, rfl, rfl, rfl, fun d hd => ?_⟩
  · rw [State.setChoices_chan]
    exact (State.setChan_chan ..).trans (if_pos rfl)
  · rw [State.setChoices_port, State.told_port, State.setChan_chan, if_pos rfl, hsubscribers]
    rfl
  · rw [State.setChoices_chan]
    exact (State.setChan_chan ..).trans (if_neg hd)

/-- A change of levels that is no counted step and raises one notice, where no tick comes at its sample. -/
theorem LevelRow.raisesOne {i : Instr} {c : Chan} {change : Channel → Option Levels} {s : State} {l : Levels}
    {body : NoticeBody} (h : LevelRow i c change) (hs : s.Awake) (hl : change (s.chan c) = some l)
    (hcounts : (s.chan c).counts l.x l.y = false) (hdue : (s.chan c).divider.due = false)
    (hraises : (s.chan c).raises l.x l.y l.z = [body]) :
    ∃ t, exec i s = .next t ∧ t.chan c = (s.chan c).accepted l.x l.y l.z
      ∧ (∀ q, t.port q = if ((s.chan c).subscribers.get q).include body then
          (s.port q).receiveCopy ⟨body, .chan c, none, s.periodLow⟩ else s.port q)
      ∧ t.legs = s.legs ∧ t.leases = s.leases ∧ t.carrier = s.carrier ∧ ∀ d, d ≠ c → t.chan d = s.chan d := by
  refine ⟨_, h.exec_fits hs hl (Channel.fits_of_not_counts hcounts hdue), ?_⟩
  rw [State.inputsChange_not_due hdue, State.acceptLevels_quietly hcounts, hraises]
  exact State.deliver_raiseOne hs.2 (Channel.accepted_subscribers ..) body

/-- One level changes by one place of the cycle of phases (R132). -/
theorem phaseOf_step {x y x' y' : Bool} (h : (x' ≠ x ∧ y' = y) ∨ (x' = x ∧ y' ≠ y)) :
    phaseOf x' y' = if decide (phaseOf x' y' = (phaseOf x y + 1) % 4) = true then (phaseOf x y + 1) % 4
      else (phaseOf x y + 3) % 4 := by
  revert h
  revert x y x' y'
  decide

/-- Settles O53. -/
theorem quadCounts : Obligations.QuadCounts := by
  intro c x y s hs hphase
  have hindex := (s.chan c).indexEvent_self
  have hrow := quadInputChange_row c x y
  have hstep : (s.chan c).config.mode = .quad →
      ((x ≠ (s.chan c).x.level ∧ y = (s.chan c).y.level) ∨ (x = (s.chan c).x.level ∧ y ≠ (s.chan c).y.level)) →
      (s.chan c).countEvent x y = .step (decide (phaseOf x y = ((s.chan c).phase + 1) % 4))
        ∧ (s.chan c).levelsDiffer x y (s.chan c).z.level = true := by
    intro hmode hone
    rw [Channel.countEvent_quad hmode, hphase, Channel.levelsDiffer_iff]
    rcases hone with ⟨hx, rfl⟩ | ⟨rfl, hy⟩
    · exact ⟨by rw [if_neg fun h => hx h.1.symm, if_neg fun h => h.2 rfl], .inl hx.symm⟩
    · exact ⟨by rw [if_neg fun h => hy h.2.symm, if_neg fun h => h.1 rfl], .inr (.inl hy.symm)⟩
  have herror : (s.chan c).config.mode = .quad → x ≠ (s.chan c).x.level → y ≠ (s.chan c).y.level →
      (s.chan c).countEvent x y = .phaseError ∧ (s.chan c).levelsDiffer x y (s.chan c).z.level = true := by
    intro hmode hx hy
    rw [Channel.countEvent_quad hmode, if_neg fun h => hx h.1.symm, if_pos ⟨hx.symm, hy.symm⟩, Channel.levelsDiffer_iff]
    exact ⟨rfl, .inl hx.symm⟩
  refine ⟨rfl, rfl, rfl, rfl, fun hmode hone hstalled => ?_, fun hmode hone hstalled => ?_,
    fun hmode hx hy hdue => ?_, fun hmode hx hy hdue => ?_, fun z hmode hdiffer => ?_⟩
  · obtain ⟨hevent, hdiffer⟩ := hstep hmode hone
    exact hrow.letsPass_of_stalled hs (if_pos ⟨hmode, hdiffer⟩) (by simp only [Channel.counts, hevent]) hstalled
  · obtain ⟨hevent, hdiffer⟩ := hstep hmode hone
    obtain ⟨t, ht, hcounted, hx, hy, hp⟩ := hrow.countedStep hs (if_pos ⟨hmode, hdiffer⟩) hevent hstalled
    refine ⟨t, _, ht, hcounted, hx, hy, hp, ?_⟩
    rw [hp, hphase]
    exact phaseOf_step hone
  · obtain ⟨hevent, hdiffer⟩ := herror hmode hx hy
    exact hrow.besideTick hs (if_pos ⟨hmode, hdiffer⟩) (by simp only [Channel.counts, hevent]) hdue
  · obtain ⟨hevent, hdiffer⟩ := herror hmode hx hy
    have hcapture := Channel.captureEvent_of_mode (ch := s.chan c) (by simp [hmode]) x
    obtain ⟨t, ht, hchan, hports, hlegs, -, -, hchans⟩ := hrow.raisesOne hs (if_pos ⟨hmode, hdiffer⟩)
      (by simp only [Channel.counts, hevent]) hdue (body := .phaseError (phaseOf x y) (s.chan c).position)
      (by simp [Channel.raises, hevent, hcapture, hindex])
    refine ⟨t, if (s.chan c).x.level = x then (s.chan c).x else .settled x,
      if (s.chan c).y.level = y then (s.chan c).y else .settled y, ht, ?_, ?_, ?_, hlegs, hchans, hports⟩
    · rw [if_neg hx.symm]
      rfl
    · rw [if_neg hy.symm]
      rfl
    · rw [hchan, Channel.accepted, hevent, hcapture, hindex]
      simp [Channel.withLevels, Channel.stepped]
  · exact acceptedLevelChange_only hs (hdiffer.imp Ne.symm (Or.imp Ne.symm Ne.symm)) (Channel.countEvent_off hmode x y)
      (Channel.captureEvent_of_mode (by simp [hmode]) x) (by simp [Channel.indexEvent, hmode, ChanMode.counting])

/-! ### Index and capture edges (R138, R141) -/

theorem Channel.counts_of_none {ch : Channel} {x y : Bool} (h : ch.countEvent x y = .none) : ch.counts x y = false := by
  rw [Channel.counts, h]

/-- A change of levels that counts nothing and raises no notice, where no tick comes at its sample. -/
theorem LevelRow.raisesNone {i : Instr} {c : Chan} {change : Channel → Option Levels} {s : State} {l : Levels}
    (h : LevelRow i c change) (hs : s.Awake) (hl : change (s.chan c) = some l)
    (hcounts : (s.chan c).counts l.x l.y = false) (hdue : (s.chan c).divider.due = false)
    (hraises : (s.chan c).raises l.x l.y l.z = []) :
    exec i s = .next (s.setChan c ((s.chan c).accepted l.x l.y l.z)) := by
  rw [h.exec_fits hs hl (Channel.fits_of_not_counts hcounts hdue), State.inputsChange_not_due hdue,
    State.acceptLevels_quietly hcounts, hraises, State.raiseChan_nil]
  exact congrArg Host.Outcome.next (State.deliver_quiet _ hs.2)

/-- What an edge of X leaves of a channel in CAPTURE (R141). -/
theorem Channel.accepted_captureEdge {ch : Channel} (h : ch.config.mode = .capture) :
    ch.accepted (!ch.x.level) ch.y.level ch.z.level = (ch.withLevels (!ch.x.level) ch.y.level ch.z.level).captured
      (!ch.x.level) := by
  have hcapture : ch.captureEvent (!ch.x.level) = true := by simp [Channel.captureEvent, h]
  unfold Channel.accepted
  rw [Channel.countEvent_capture h, hcapture, ch.indexEvent_self]
  rfl

theorem Channel.raises_captureEdge {ch : Channel} (h : ch.config.mode = .capture) :
    ch.raises (!ch.x.level) ch.y.level ch.z.level
      = if ch.capture = .measuring ∧ activeEdge ch.config.edge ch.x.level (!ch.x.level) = true then
          [.capture ch.widthLatch ch.timer] else [] := by
  have hcapture : ch.captureEvent (!ch.x.level) = true := by simp [Channel.captureEvent, h]
  simp [Channel.raises, Channel.countEvent_capture h, hcapture, ch.indexEvent_self]

/-- Settles O54. -/
theorem indexAndCaptureEdges : Obligations.IndexAndCaptureEdges := by
  intro c s hs
  have hrow := captureEdge_row c
  have hcounts : (s.chan c).config.mode = .capture →
      (s.chan c).counts (!(s.chan c).x.level) (s.chan c).y.level = false :=
    fun hmode => Channel.counts_of_none (Channel.countEvent_capture hmode _ _)
  dsimp only
  simp only [← activeEdge_flip_iff]
  refine ⟨fun hmode huse hz => ?_, fun hmode hdue => ?_, fun hmode hdue hcap ha => ?_, fun hmode hdue hcap ha => ?_,
    fun hmode hdue hcap ha => ?_, fun hmode hdue hcap ha => ?_⟩
  · have hevent : (s.chan c).indexEvent true = true := by simp [Channel.indexEvent, hmode, huse, hz]
    have hnone := (s.chan c).countEvent_self
    refine ⟨fun hdue => (indexEdge_row c).besideTick hs (if_pos hevent) (Channel.counts_of_none hnone) hdue,
      fun hdue hphase => ?_⟩
    have hcapture : (s.chan c).captureEvent (s.chan c).x.level = false := by simp [Channel.captureEvent]
    obtain ⟨t, ht, hchan, hposts⟩ := (indexEdge_row c).raisesOne hs (if_pos hevent) (Channel.counts_of_none hnone) hdue
      (body := .index (s.chan c).position (s.chan c).revolutions)
      (by simp [Channel.raises, hnone, hcapture, hevent])
    refine ⟨t, ht, ?_, hposts⟩
    rw [hchan, Channel.accepted, hnone, hcapture, hevent]
    simp [Channel.withLevels, Channel.stepped, Channel.indexed, hz, hphase, Filter.settled]
  · exact hrow.besideTick hs (if_pos hmode) (hcounts hmode) hdue
  · rw [hrow.raisesNone hs (if_pos hmode) (hcounts hmode) hdue (by simp [Channel.raises_captureEdge hmode, hcap]),
      Channel.accepted_captureEdge hmode]
    simp [Channel.captured, Channel.withLevels, hcap, ha, Filter.settled]
  · rw [hrow.raisesNone hs (if_pos hmode) (hcounts hmode) hdue (by simp [Channel.raises_captureEdge hmode, hcap]),
      Channel.accepted_captureEdge hmode]
    simp [Channel.captured, Channel.withLevels, hcap, ha, Filter.settled]
  · rw [hrow.raisesNone hs (if_pos hmode) (hcounts hmode) hdue (by simp [Channel.raises_captureEdge hmode, ha]),
      Channel.accepted_captureEdge hmode]
    simp [Channel.captured, Channel.withLevels, hcap, ha, Filter.settled]
  · obtain ⟨t, ht, hchan, hposts⟩ := hrow.raisesOne hs (if_pos hmode) (hcounts hmode) hdue
      (body := .capture (s.chan c).widthLatch (s.chan c).timer)
      (by simp only [Channel.raises_captureEdge hmode, hcap, ha, and_self, if_true])
    refine ⟨t, ht, ?_, hposts⟩
    rw [hchan, Channel.accepted_captureEdge hmode]
    simp [Channel.captured, Channel.withLevels, hcap, ha, Filter.settled]

/-! ### The interval timer (R139, R140, R142) -/

/-- A tick where none counts, or where the timer has reached its end. -/
theorem Channel.tickTaken_idle {ch : Channel} (h : ch.timerRuns = false ∨ 65535 ≤ ch.timer) :
    ch.tickTaken = ch ∧ ch.tickRaises = [] := by
  have hidle : ¬ (ch.timerRuns = true ∧ ch.timer < timerMax) := fun hc =>
    h.elim (fun hr => by simp [hr] at hc) fun ht => absurd hc.2 (by simpa [timerMax] using ht)
  have hraised : ch.raised = ch := if_neg hidle
  have hnot : ∀ p : Prop, ¬ (ch.timerRuns = true ∧ ch.timer < timerMax ∧ p) := fun p hc => hidle ⟨hc.1, hc.2.1⟩
  exact ⟨by rw [Channel.tickTaken, hraised, Channel.saturated, if_neg (hnot _)],
    by rw [Channel.tickRaises, hraised, if_neg (hnot _)]⟩

theorem Channel.raised_runs {ch : Channel} (hruns : ch.timerRuns = true) (h : ch.timer < 65535) :
    ch.raised = { ch with timer := ch.timer + 1 } ∧ ch.raised.timerRuns = true :=
  have hraised : ch.raised = { ch with timer := ch.timer + 1 } := if_pos ⟨hruns, h⟩
  ⟨hraised, by rw [hraised]; exact hruns⟩

/-- A tick that raises the timer and does not bring it to its end. -/
theorem Channel.tickTaken_counts {ch : Channel} (hruns : ch.timerRuns = true) (h : ch.timer < 65534) :
    ch.tickTaken = { ch with timer := ch.timer + 1 } ∧ ch.tickRaises = [] := by
  obtain ⟨hraised, -⟩ := Channel.raised_runs hruns (by omega)
  have hnot : ¬ (ch.raised.timerRuns = true ∧ ch.timer < timerMax ∧ ch.raised.timer = timerMax) := by
    rw [hraised]
    simp only [timerMax]
    omega
  exact ⟨by rw [Channel.tickTaken, Channel.saturated, if_neg hnot, hraised], by rw [Channel.tickRaises, if_neg hnot]⟩

/-- The tick that brings the timer of a counting channel to its end (R140). -/
theorem Channel.tickTaken_stalls {ch : Channel} (hmode : ch.config.mode.counting = true) (h : ch.timer = 65534) :
    ch.tickTaken = { ch with timer := 65535, stall := true, intervalLatch := 65535 }
      ∧ ch.tickRaises = [.stall ch.config.mode ch.position] := by
  obtain ⟨hraised, hruns⟩ := Channel.raised_runs (ch.timerRuns_of_counting hmode) (by omega)
  have hend : ch.raised.timerRuns = true ∧ ch.timer < timerMax ∧ ch.raised.timer = timerMax :=
    ⟨hruns, by rw [h]; decide, by rw [hraised, h]; rfl⟩
  constructor
  · rw [Channel.tickTaken, Channel.saturated, if_pos hend, hraised, if_pos hmode]
    rfl
  · rw [Channel.tickRaises, if_pos hend, if_pos hmode]

/-- The tick that brings the timer of a measuring channel to its end (R142). -/
theorem Channel.tickTaken_saturates {ch : Channel} (hmode : ch.config.mode = .capture) (hcap : ch.capture = .measuring)
    (h : ch.timer = 65534) :
    ch.tickTaken =
        { ch with
          periodLatch := 65535
          widthLatch := if ch.widthTaken then ch.widthLatch else 65535
          widthTaken := false, stall := true, timer := 0, capture := .waitFirst }
      ∧ ch.tickRaises = [.stall .capture 0] := by
  have hcounting : ch.config.mode.counting = false := by rw [hmode]; rfl
  obtain ⟨hraised, hruns⟩ := Channel.raised_runs (ch := ch) (by simp [Channel.timerRuns, hmode, hcap]) (by omega)
  have hend : ch.raised.timerRuns = true ∧ ch.timer < timerMax ∧ ch.raised.timer = timerMax :=
    ⟨hruns, by rw [h]; decide, by rw [hraised, h]; rfl⟩
  constructor
  · rw [Channel.tickTaken, Channel.saturated, if_pos hend, hraised]
    simp only [hcounting, Bool.false_eq_true, if_false, timerMax]
  · rw [Channel.tickRaises, if_pos hend, hcounting]
    rfl

theorem Channel.tickJoinsStep_end {ch : Channel} (h : ch.tickJoinsStep = true) :
    ch.timer = 65534 ∧ ch.divider.due = true ∧ ch.stepFallsDue = true := by
  simp only [Channel.tickJoinsStep, Bool.and_eq_true, decide_eq_true_eq] at h
  obtain ⟨⟨hdue, htimer⟩, hstep⟩ := h
  exact ⟨Nat.succ.inj htimer, hdue, hstep⟩

theorem Channel.counting_of_tickJoinsStep {ch : Channel} (h : ch.tickJoinsStep = true) :
    ch.config.mode.counting = true :=
  Channel.counting_of_counts (Channel.tickJoinsStep_end h).2.2

/-- The interval tick of the sample in progress, as a channel's own change and its notices. -/
theorem State.tickGiven_eq (s : State) (c : Chan) :
    (s.tickGiven c).intervalTicks c
      = (s.setChan c { s.chan c with divider := ⟨2 ^ (s.chan c).config.prescale.val, true⟩ }.tickTaken).raiseChan c
          { s.chan c with divider := ⟨2 ^ (s.chan c).config.prescale.val, true⟩ }.tickRaises := by
  have hgiven : (s.tickGiven c).chan c
      = { s.chan c with divider := ⟨2 ^ (s.chan c).config.prescale.val, true⟩ } := by
    simp [State.tickGiven, Divider.start, prescaleSamples]
  rw [State.intervalTicks_eq, hgiven, State.tickGiven, State.updChan, State.setChan_setChan]

/-- A tick that was given stands in its divider to the end of the sample. -/
theorem State.tickGiven_fresh (s : State) (c : Chan) :
    (((s.tickGiven c).intervalTicks c).deliver.chan c).divider.fresh = true := by
  have hinputs := ({ s.chan c with divider := ⟨2 ^ (s.chan c).config.prescale.val, true⟩ } : Channel).inputs_tickTaken
  simp only [Channel.inputs, Prod.mk.injEq] at hinputs
  rw [State.deliver_chan, State.tickGiven_eq, State.raiseChan_chan, State.setChan_chan, if_pos rfl, hinputs.2.1]

theorem exec_intervalTick {s : State} {c : Chan} (hrst : s.rst.inReset = false) :
    exec (.intervalTick c) s = .next ((s.samples (s.chan c).divider.left).intervalTickGiven c) :=
  congrArg Host.Outcome.next (State.event_awake hrst _)

theorem Divider.left_pass {d : Divider} (h : d.due = false) (reload : Nat) : (d.pass reload).left + 1 = d.left := by
  obtain ⟨n, fresh⟩ := d
  cases fresh with
  | true => simp [Divider.pass, Divider.left]
  | false =>
    have hn : ¬ n ≤ 1 := by simpa [Divider.due] using h
    simp only [Divider.pass, Divider.left, hn]
    simp
    omega

/-- A sample with no tick takes one off what is left to the next. -/
theorem State.sample_left {s : State} {c : Chan} (hrst : s.rst.inReset = false) (hdue : (s.chan c).divider.due = false) :
    (s.sample.chan c).divider.left + 1 = (s.chan c).divider.left := by
  have hcore := s.liveSample_chan_core c
  have hdivider : (s.liveSample.chan c).divider = (s.chan c).sampled.divider := (congrArg Channel.divider hcore :)
  rw [(State.sample_awake hrst).1, hdivider, (s.chan c).sampled_inputs.2.1]
  exact Divider.left_pass hdue _

/-- The samples before a tick: each takes one off what is left, and the timer stays, or is 0. -/
theorem State.samples_before_tick {s : State} {c : Chan} (hrst : s.rst.inReset = false) (n : Nat)
    (h : n ≤ (s.chan c).divider.left) :
    ((s.samples n).chan c).timer = (s.chan c).timer ∨ ((s.samples n).chan c).timer = 0 := by
  induction n generalizing s with
  | zero => exact .inl rfl
  | succ n ih =>
    have hdue : (s.chan c).divider.due = false := by
      refine Bool.eq_false_iff.mpr fun hdue => ?_
      have := (Divider.due_iff _).mp hdue
      omega
    have hleft := State.sample_left hrst hdue
    have hone := (State.sample_chan_timer (c := c) hrst).2.1 hdue
    rcases ih (State.sample_awake hrst).2.1.1 (by omega) with hkept | hzero
    · rw [State.samples_succ, hkept]
      exact hone
    · exact .inr hzero

/-- INTERVAL_TICK before the sample of its tick. -/
theorem intervalTick_letsSamplePass {s : State} {c : Chan} (hs : s.Awake) (hdue : (s.chan c).divider.due = false) :
    LetsSamplePass (.intervalTick c) s := by
  have hawake := (State.sample_awake hs.1).2.1
  have hleft := State.sample_left hs.1 hdue
  refine letsSamplePass_of_eq ?_ fun hsame => ?_
  · rw [exec_intervalTick hs.1, exec_intervalTick hawake.1, ← hleft, State.samples_succ]
  · rw [exec_intervalTick hawake.1] at hsame
    have hchan := congrArg (fun t => t.chan c) (Host.Outcome.next.inj hsame)
    dsimp only [State.intervalTickGiven] at hchan
    have hrun := (State.samples_awake (s.sample.chan c).divider.left hawake).1
    split at hchan
    · next hjoin =>
      have htimer := (State.sample_chan_timer hrun.1).2.2 hjoin
      rw [hchan] at htimer
      have hbefore := State.samples_before_tick hawake.1 (c := c) _ le_rfl
      have hend := (Channel.tickJoinsStep_end hjoin).1
      omega
    · have hfresh := State.tickGiven_fresh (s.sample.samples (s.sample.chan c).divider.left) c
      rw [hchan] at hfresh
      rw [(State.sample_chan_timer hs.1).1] at hfresh
      cases hfresh

/-! ### The saturation of a timer (R140, R142) -/

/-- What one sample leaves of a channel whose filters accept nothing at it, short of a saturation. -/
theorem State.sample_short {s : State} {c : Chan} (hrst : s.rst.inReset = false)
    (haccept : (s.chan c).accepting = false) (h : (s.chan c).divider.due = false ∨ (s.chan c).timer ≠ 65534) :
    (s.sample.chan c).config = (s.chan c).config ∧ (s.sample.chan c).capture = (s.chan c).capture
      ∧ (s.sample.chan c).timer = if (s.chan c).divider.due = true ∧ (s.chan c).timerRuns = true
          ∧ (s.chan c).timer < 65534 then (s.chan c).timer + 1 else (s.chan c).timer := by
  have hcore : (s.liveSample.chan c).inner = (s.chan c).sampled.inner :=
    (congrArg Channel.inner (s.liveSample_chan_core c) :)
  rw [Channel.inner_sampled haccept, ← (State.sample_awake hrst).1] at hcore
  have hof : ∀ ch : Channel, (s.sample.chan c).inner = ch.inner → (s.sample.chan c).config = ch.config
      ∧ (s.sample.chan c).capture = ch.capture ∧ (s.sample.chan c).timer = ch.timer := fun ch hch => by
    simp only [Channel.inner, Prod.mk.injEq] at hch
    obtain ⟨hconfig, -, ⟨htimer, -⟩, ⟨hcapture, -⟩, -⟩ := hch
    exact ⟨hconfig, hcapture, htimer⟩
  cases hdue : (s.chan c).divider.due with
  | false =>
    rw [hdue] at hcore
    simpa using hof _ hcore
  | true =>
    rw [hdue, if_pos rfl] at hcore
    have hne : (s.chan c).timer ≠ 65534 := h.resolve_left (by simp [hdue])
    by_cases hcounts : (s.chan c).timerRuns = true ∧ (s.chan c).timer < 65534
    · rw [(Channel.tickTaken_counts hcounts.1 hcounts.2).1] at hcore
      simpa [hcounts] using hof _ hcore
    · have hidle : (s.chan c).timerRuns = false ∨ 65535 ≤ (s.chan c).timer := by
        cases hr : (s.chan c).timerRuns with
        | false => exact .inl rfl
        | true =>
          have hge : ¬ (s.chan c).timer < 65534 := fun hlt => hcounts ⟨hr, hlt⟩
          exact .inr (by omega)
      rw [(Channel.tickTaken_idle hidle).1] at hcore
      simpa [hcounts] using hof _ hcore

/-- Such a sample is one of those before the saturation. -/
theorem State.sample_toSaturation {s : State} {c : Chan} (hrst : s.rst.inReset = false)
    (haccept : (s.chan c).accepting = false) (h : (s.chan c).divider.due = false ∨ (s.chan c).timer ≠ 65534)
    (hruns : (s.chan c).timerRuns = true) (htimer : (s.chan c).timer ≤ 65534) :
    (s.sample.chan c).toSaturation + 1 = (s.chan c).toSaturation := by
  obtain ⟨hconfig, -, htaken⟩ := State.sample_short hrst haccept h
  unfold Channel.toSaturation
  rw [hconfig, htaken]
  cases hdue : (s.chan c).divider.due with
  | false =>
    have hleft := State.sample_left hrst hdue
    simp only [Bool.false_eq_true, false_and, if_false]
    omega
  | true =>
    have hlt : (s.chan c).timer < 65534 := lt_of_le_of_ne htimer (h.resolve_left (by simp [hdue]))
    have hleft : (s.chan c).divider.left = 0 := (Divider.due_iff _).mp hdue
    have hdivider : (s.liveSample.chan c).divider = (s.chan c).sampled.divider :=
      (congrArg Channel.divider (s.liveSample_chan_core c) :)
    have hnext : (s.sample.chan c).divider = ⟨2 ^ (s.chan c).config.prescale.val, false⟩ := by
      rw [(State.sample_awake hrst).1, hdivider, (s.chan c).sampled_inputs.2.1]
      exact (Divider.pass_cases _ _).2.1 ((Divider.due_eq _).mp hdue)
    have hpos : 0 < 2 ^ (s.chan c).config.prescale.val := Nat.two_pow_pos _
    obtain ⟨k, hk⟩ : ∃ k, 65534 - (s.chan c).timer = k + 1 := ⟨65534 - (s.chan c).timer - 1, by omega⟩
    have hk' : 65534 - ((s.chan c).timer + 1) = k := by omega
    rw [if_pos ⟨rfl, hruns, hlt⟩, hleft, hnext]
    simp only [timerMax, prescaleSamples, Divider.left, Nat.reduceSub, hk, hk', Nat.succ_mul, Bool.false_eq_true, if_false]
    omega

/-- No saturation comes where the timer is at its end already. -/
theorem State.nextSaturation_past {s : State} {c : Chan} (hrst : s.rst.inReset = false) (mode : Channel → Bool)
    (h : 65535 ≤ (s.chan c).timer) : s.nextSaturation c mode = s := by
  have hleft : (s.chan c).toSaturation = (s.chan c).divider.left := by
    rw [Channel.toSaturation, show timerMax - 1 - (s.chan c).timer = 0 by simp only [timerMax]; omega]
    simp
  have htimer := State.samples_before_tick hrst (c := c) _ le_rfl
  unfold State.nextSaturation
  dsimp only
  rw [hleft]
  split
  · rw [if_neg fun hc => ?_]
    have hend := hc.2.1
    simp only [timerMax] at hend
    omega
  · rfl

section
variable {i : Instr} {c : Chan} {mode : Channel → Bool}

/-- The row of a saturation before the sample of its tick, where the filters accept nothing at this one. -/
theorem saturation_letsSamplePass {s : State} (hi : ∀ s : State, s.Awake → exec i s = .next (s.nextSaturation c mode))
    (hcongr : ∀ ch ch' : Channel, ch.config = ch'.config → ch.capture = ch'.capture → mode ch = mode ch')
    (hruns : ∀ ch : Channel, mode ch = true → ch.timerRuns = true) (hs : s.Awake)
    (haccept : (s.chan c).accepting = false) (h : (s.chan c).divider.due = false ∨ (s.chan c).timer ≠ 65534) :
    LetsSamplePass i s := by
  have hawake := (State.sample_awake hs.1).2.1
  have hhere := hi s hs
  have hthere := hi _ hawake
  obtain ⟨hconfig, hcapture, htaken⟩ := State.sample_short hs.1 haccept h
  have hmode := hcongr _ _ hconfig hcapture
  have hnever : s.nextSaturation c mode = s → s.sample.nextSaturation c mode = s.sample → LetsSamplePass i s := by
    intro h1 h2
    rw [h1] at hhere
    rw [h2] at hthere
    exact ⟨fun hne => absurd hthere hne, fun _ => hhere⟩
  by_cases htimer : 65535 ≤ (s.chan c).timer
  · exact hnever (State.nextSaturation_past hs.1 mode htimer)
      (State.nextSaturation_past hawake.1 mode (by rw [htaken]; split <;> omega))
  · cases hm : mode (s.chan c) with
    | false => exact hnever (by simp [State.nextSaturation, hm]) (by simp [State.nextSaturation, hmode, hm])
    | true =>
      have hsamples : s.samples (s.chan c).toSaturation = s.sample.samples (s.sample.chan c).toSaturation := by
        rw [← State.sample_toSaturation hs.1 haccept h (hruns _ hm) (by omega), State.samples_succ]
      unfold State.nextSaturation at hhere hthere
      dsimp only at hhere hthere
      rw [if_pos hm, hsamples] at hhere
      rw [hmode, if_pos hm] at hthere
      set t := s.sample.samples (s.sample.chan c).toSaturation
      by_cases hends : mode (t.chan c) = true ∧ (t.chan c).timer + 1 = timerMax ∧ (t.chan c).tickJoinsStep = false
      · rw [if_pos hends] at hhere hthere
        refine letsSamplePass_of_eq (hhere.trans hthere.symm) fun hsame => ?_
        have hfresh := State.tickGiven_fresh t c
        have hresult := hthere.symm.trans hsame
        rw [State.intervalTickGiven, hends.2.2] at hresult
        have hchan := (congrArg (fun u => (u.chan c).divider.fresh) (Host.Outcome.next.inj hresult) :)
        have hstale := (State.sample_chan_timer (c := c) hs.1).1
        exact absurd (hfresh.symm.trans (hchan.trans hstale)) (by decide)
      · rw [if_neg hends] at hhere hthere
        exact ⟨fun hne => absurd hthere hne, fun _ => hhere⟩

/-- The row of a saturation at the sample of its tick. -/
theorem saturation_now {s : State} (hi : ∀ s : State, s.Awake → exec i s = .next (s.nextSaturation c mode))
    (hs : s.Awake) (hdue : (s.chan c).divider.due = true) (htimer : (s.chan c).timer = 65534)
    (hmode : mode (s.chan c) = true) :
    exec i s = if (s.chan c).tickJoinsStep then .next s else exec (.intervalTick c) s := by
  have hzero : (s.chan c).toSaturation = 0 := by
    rw [Channel.toSaturation, (Divider.due_iff _).mp hdue, htimer]
    simp [timerMax]
  have hend : (s.chan c).timer + 1 = timerMax := by rw [htimer]; rfl
  rw [hi s hs, State.nextSaturation, if_pos hmode, hzero, exec_intervalTick hs.1, (Divider.due_iff _).mp hdue]
  dsimp only [State.samples_zero]
  cases hjoin : (s.chan c).tickJoinsStep with
  | true => simp
  | false => simp [hmode, hend]

end

/-- A counted step latches the timer, and clears the stall (R139, R140). -/
theorem Channel.accepted_of_counts {ch : Channel} {x y : Bool} (h : ch.counts x y = true) (z : Bool) :
    (ch.accepted x y z).intervalLatch = ch.timer ∧ (ch.accepted x y z).stall = false := by
  have hmode : ch.config.mode ≠ .capture := fun hm => by
    have hcounting := Channel.counting_of_counts h
    rw [hm] at hcounting
    cases hcounting
  unfold Channel.counts at h
  cases he : ch.countEvent x y with
  | none | phaseError =>
    rw [he] at h
    cases h
  | step up =>
    unfold Channel.accepted
    rw [he, Channel.captureEvent_of_mode hmode]
    dsimp only
    split <;> exact ⟨rfl, rfl⟩

/-- The last tick beside a counted step: the step latches the timer at its end, and the stall stays clear (R139). -/
theorem State.sample_joined {s : State} {c : Chan} (hrst : s.rst.inReset = false)
    (hjoin : (s.chan c).tickJoinsStep = true) :
    (s.sample.chan c).intervalLatch = 65535 ∧ (s.sample.chan c).stall = false := by
  obtain ⟨hend, hdue, hstep⟩ := Channel.tickJoinsStep_end hjoin
  have hruns := (s.chan c).timerRuns_of_counting (Channel.counting_of_tickJoinsStep hjoin)
  have hcore := s.liveSample_chan_core c
  have hlatch : (s.liveSample.chan c).intervalLatch = (s.chan c).sampled.intervalLatch :=
    (congrArg Channel.intervalLatch hcore :)
  have hstall : (s.liveSample.chan c).stall = (s.chan c).sampled.stall := (congrArg Channel.stall hcore :)
  have hpass : (s.chan c).pass.levels = (s.chan c).levels := by simp [Channel.levels, Channel.pass, Filter.wait_level]
  have hcounts := (Channel.counts_congr hpass _ _).trans hstep
  have hcounts' := (Channel.counts_congr ((Channel.levels_of_inputs (s.chan c).pass.inputs_raised).trans hpass) _ _).trans
    hstep
  have hraised : (s.chan c).pass.raised.timer = 65535 := by
    have hpassed := (Channel.raised_runs (ch := (s.chan c).pass) hruns (by show (s.chan c).timer < 65535; omega)).1
    rw [hpassed]
    exact congrArg Nat.succ hend
  rw [(State.sample_awake hrst).1, hlatch, hstall]
  unfold Channel.sampled
  dsimp only
  rw [hdue, hruns, Bool.and_self, Bool.or_true, if_pos rfl, Channel.takes, if_pos rfl, hcounts, if_pos rfl, ← hraised]
  exact Channel.accepted_of_counts hcounts' _

/-- The tick of the sample in progress, where it raises no notice. -/
theorem exec_intervalTick_silent {s : State} {c : Chan} {ch : Channel} (hs : s.Awake)
    (hdue : (s.chan c).divider.due = true) (hjoin : (s.chan c).tickJoinsStep = false)
    (htick : { s.chan c with divider := ⟨2 ^ (s.chan c).config.prescale.val, true⟩ }.tickTaken = ch
      ∧ { s.chan c with divider := ⟨2 ^ (s.chan c).config.prescale.val, true⟩ }.tickRaises = []) :
    exec (.intervalTick c) s = .next (s.setChan c ch) := by
  rw [exec_intervalTick_now hs.1 hdue hjoin, State.tickGiven_eq, htick.1, htick.2, State.raiseChan_nil]
  exact congrArg Host.Outcome.next (State.deliver_quiet _ hs.2)

theorem exec_stall (c : Chan) (s : State) (hs : s.Awake) :
    exec (.stall c) s = .next (s.nextSaturation c fun ch => ch.config.mode.counting) :=
  congrArg Host.Outcome.next (State.event_awake hs.1 _)

theorem exec_captureSaturation (c : Chan) (s : State) (hs : s.Awake) :
    exec (.captureSaturation c) s = .next (s.nextSaturation c fun ch =>
      decide (ch.config.mode = .capture) && decide (ch.capture = .measuring)) :=
  congrArg Host.Outcome.next (State.event_awake hs.1 _)

/-- Settles O55. -/
theorem intervalTimerCounts : Obligations.IntervalTimerCounts := by
  intro c s hs
  have hnot : (s.chan c).timer ≠ 65534 → (s.chan c).tickJoinsStep = false := fun hne =>
    Bool.eq_false_iff.mpr fun hjoin => hne (Channel.tickJoinsStep_end hjoin).1
  refine ⟨fun hdue => intervalTick_letsSamplePass hs hdue, fun haccept h => ⟨?_, ?_⟩,
    fun hdue => ⟨fun hruns htimer => ?_, fun h => ?_, fun hmode htimer hstep => ?_, fun hmode htimer hstep => ?_,
      fun hmode hcap htimer => ?_⟩⟩
  · exact saturation_letsSamplePass (exec_stall c) (fun _ _ hc _ => by rw [hc])
      (fun ch hm => ch.timerRuns_of_counting hm) hs haccept h
  · refine saturation_letsSamplePass (exec_captureSaturation c) (fun _ _ hc hcap => by rw [hc, hcap]) (fun ch hm => ?_) hs
      haccept h
    rw [Channel.timerRuns, hm, Bool.or_true]
  · exact exec_intervalTick_silent hs hdue (hnot (by omega)) (Channel.tickTaken_counts hruns htimer)
  · refine exec_intervalTick_silent hs hdue (Bool.eq_false_iff.mpr fun hjoin => ?_) (Channel.tickTaken_idle h)
    have hend := (Channel.tickJoinsStep_end hjoin).1
    have hruns := (s.chan c).timerRuns_of_counting (Channel.counting_of_tickJoinsStep hjoin)
    rcases h with h | h
    · simp [hruns] at h
    · omega
  · have hjoin : (s.chan c).tickJoinsStep = true := by
      simp [Channel.tickJoinsStep, hdue, htimer, hstep, timerMax]
    obtain ⟨hlatch, hstall⟩ := State.sample_joined hs.1 hjoin
    refine ⟨⟨_, ?_, rfl, (State.sample_chan_timer hs.1).2.2 hjoin, hlatch, hstall⟩, ?_⟩
    · rw [exec_intervalTick hs.1, (Divider.due_iff _).mp hdue, State.samples_zero, State.intervalTickGiven, if_pos hjoin]
    · rw [saturation_now (exec_stall c) hs hdue htimer hmode, if_pos hjoin]
  · have hjoin : (s.chan c).tickJoinsStep = false := by simp [Channel.tickJoinsStep, hstep]
    have htick := Channel.tickTaken_stalls (ch := { s.chan c with
      divider := ⟨2 ^ (s.chan c).config.prescale.val, true⟩ }) hmode htimer
    have hexec := exec_intervalTick_now hs.1 hdue hjoin
    rw [State.tickGiven_eq, htick.1, htick.2] at hexec
    have hsame : exec (.stall c) s = exec (.intervalTick c) s := by
      rw [saturation_now (exec_stall c) hs hdue htimer hmode, hjoin, if_neg Bool.false_ne_true]
    obtain ⟨hchan, hposts⟩ := State.deliver_raiseOne hs.2 (c := c) (ch := { s.chan c with
      divider := ⟨2 ^ (s.chan c).config.prescale.val, true⟩, timer := 65535, stall := true, intervalLatch := 65535 }) rfl
      (.stall (s.chan c).config.mode (s.chan c).position)
    exact ⟨_, hexec, hsame.trans hexec, hchan, hposts⟩
  · have hjoin : (s.chan c).tickJoinsStep = false := Bool.eq_false_iff.mpr fun hjoin => by
      have hcounting := Channel.counting_of_tickJoinsStep hjoin
      rw [hmode] at hcounting
      cases hcounting
    have htick := Channel.tickTaken_saturates (ch := { s.chan c with
      divider := ⟨2 ^ (s.chan c).config.prescale.val, true⟩ }) hmode hcap htimer
    have hexec := exec_intervalTick_now hs.1 hdue hjoin
    rw [State.tickGiven_eq, htick.1, htick.2] at hexec
    have hsame : exec (.captureSaturation c) s = exec (.intervalTick c) s := by
      rw [saturation_now (exec_captureSaturation c) hs hdue htimer (by simp [hmode, hcap]), hjoin,
        if_neg Bool.false_ne_true]
    obtain ⟨hchan, hposts⟩ := State.deliver_raiseOne hs.2 (c := c) (ch := { s.chan c with
      divider := ⟨2 ^ (s.chan c).config.prescale.val, true⟩, periodLatch := 65535
      widthLatch := if (s.chan c).widthTaken then (s.chan c).widthLatch else 65535
      widthTaken := false, stall := true, timer := 0, capture := .waitFirst }) rfl (.stall .capture 0)
    exact ⟨_, hexec, hsame.trans hexec, hchan, hposts⟩

end Sys2Proof.Machine
end

section
/-! PROOFS. The notices that the legs raise together at one event, and how a port takes them: those of one leg in the
order in which they were raised, those of different legs in a free order (R93, R112, R115, R168; log entries 7
and 17). -/

namespace Sys2Proof.Machine

open Sys2Proof

-- One theorem at a time, as in the tests: proofs that wait for the kernel would each hold a thread.
set_option Elab.async false

/-! ### The order of the copies of one source -/

/-- Taking the first copy of a source leaves what comes from each source in its order. -/
theorem takeFrom_filter {r : Source} {out : List Outgoing} {o : Outgoing} {rest : List Outgoing}
    (h : takeFrom r out = some (o, rest)) (x : Source) :
    (o :: rest).filter (fun o => o.source = x) = out.filter fun o => o.source = x := by
  induction out generalizing o rest with
  | nil => simp [takeFrom] at h
  | cons y ys ih =>
    simp only [takeFrom] at h
    split at h
    · simp only [Option.some.injEq, Prod.mk.injEq] at h
      obtain ⟨rfl, rfl⟩ := h
      rfl
    · next hy =>
      simp only [Option.map_eq_some_iff, Prod.exists, Prod.mk.injEq] at h
      obtain ⟨z, zs, hz, rfl, rfl⟩ := h
      have hsource := (takeFrom_perm hz).2
      have ih := ih hz
      by_cases hx : y.source = x
      · have hne : z.source ≠ x := fun h => hy (hx.trans (h.symm.trans hsource))
        simp only [List.filter_cons, hx, hne, decide_true, decide_false, if_true, Bool.false_eq_true, if_false] at ih ⊢
        rw [ih]
      · simpa only [List.filter_cons, hx, decide_false, Bool.false_eq_true, if_false] using ih

/-- The copies of one source keep their order. -/
theorem interleave_filter (out : List Outgoing) (k : Nat) (x : Source) :
    (interleave k out.length out).filter (fun o => o.source = x) = out.filter fun o => o.source = x := by
  induction hn : out.length generalizing out k with
  | zero => simp [List.length_eq_zero_iff.mp hn, interleave]
  | succ n ih =>
    have hne : out ≠ [] := by
      rintro rfl
      simp at hn
    obtain ⟨o0, ho0⟩ := List.exists_mem_of_ne_nil out hne
    have hpos : 0 < (sourcesOf out).length := by
      refine List.length_pos_of_mem (a := o0.source) ?_
      simp only [sourcesOf, List.mem_filter, Source.mem_all, true_and, List.any_eq_true, beq_iff_eq]
      exact ⟨o0, ho0, rfl⟩
    have hlt := Config.pick_lt k hpos
    have hmem : (sourcesOf out)[Config.pick k (sourcesOf out).length] ∈ sourcesOf out := List.getElem_mem hlt
    simp only [sourcesOf, List.mem_filter, List.any_eq_true, beq_iff_eq] at hmem
    obtain ⟨o, rest, ht⟩ := takeFrom_isSome hmem.2
    have hl : rest.length = n := by
      have hlength := (takeFrom_perm ht).1.length_eq
      rw [List.length_cons, hn] at hlength
      omega
    have hstep : interleave k (n + 1) out = o :: interleave (k + 1) n rest := by
      simp only [interleave, List.getElem?_eq_getElem hlt]
      simp only [sourcesOf] at ht ⊢
      simp only [ht]
    rw [hstep, ← takeFrom_filter ht x, List.filter_cons, List.filter_cons, ih rest (k + 1) hl]

/-- What a port takes of a delivery: each copy to it once, those of one source in the order in which they were
raised. -/
theorem State.deliver_in_order (s : State) (q : Port) : ∃ os : List Outgoing,
    os.Perm (s.outbox.filter fun o => o.port = q)
      ∧ (∀ x : Source, os.filter (fun o => o.source = x) = s.outbox.filter fun o => o.source = x ∧ o.port = q)
      ∧ s.deliver.port q = (os.map Outgoing.notice).foldl PortEngine.receiveCopy (s.port q) := by
  have hfold : ∀ (out : List Outgoing) (t : State), (out.foldl State.admitCopy t).port q
      = ((out.filter fun o => o.port = q).map Outgoing.notice).foldl PortEngine.receiveCopy (t.port q) := by
    intro out
    induction out with
    | nil => exact fun _ => rfl
    | cons o rest ih =>
      intro t
      rw [List.foldl_cons, ih, State.admitCopy, State.updPort_port]
      by_cases h : o.port = q
      · simp [h]
      · have hne : q ≠ o.port := Ne.symm h
        simp [h, hne]
  refine ⟨(interleave s.choices s.outbox.length s.outbox).filter fun o => o.port = q,
    (interleave_perm ..).filter _, fun x => ?_, hfold ..⟩
  rw [List.filter_comm, interleave_filter, List.filter_filter]
  exact List.filter_congr fun o _ => by rw [Bool.decide_and, Bool.and_comm]

/-- A port with room for all of the copies takes those that its mask admits (R168). -/
theorem PortEngine.foldl_receiveCopy {e : PortEngine} {ns : List Notice} (hpresent : e.presence.level = true)
    (hroom : e.notices.length + ns.length ≤ 16) :
    ns.foldl PortEngine.receiveCopy e = { e with notices := e.notices ++ ns.filter fun x => e.mask.admits x.body } := by
  induction ns generalizing e with
  | nil => simp
  | cons x ns ih =>
    rw [List.length_cons] at hroom
    rw [List.foldl_cons]
    cases ha : e.mask.admits x.body with
    | false =>
      have hsame : e.receiveCopy x = e := by simp [PortEngine.receiveCopy, hpresent, ha]
      rw [hsame, ih hpresent (by omega), List.filter_cons, ha]
      rfl
    | true =>
      have hjoins : e.receiveCopy x = { e with notices := e.notices ++ [x] } := by
        simp [PortEngine.receiveCopy, hpresent, ha]
        omega
      have hrest := ih (e := { e with notices := e.notices ++ [x] }) hpresent (by
        rw [List.length_append, List.length_singleton]
        omega)
      rw [hjoins, hrest, List.filter_cons, ha]
      simp

theorem PortEngine.foldl_receiveCopy_absent {e : PortEngine} (h : e.presence.level = false) (ns : List Notice) :
    ns.foldl PortEngine.receiveCopy e = e := by
  induction ns with
  | nil => rfl
  | cons x ns ih => rw [List.foldl_cons, PortEngine.receiveCopy_absent h, ih]

/-- Notices that no copy is one of stay as they are in a port's queue. -/
theorem PortEngine.foldl_receiveCopy_filter {P : Notice → Bool} {ns : List Notice} (h : ∀ x ∈ ns, P x = false)
    (e : PortEngine) : (ns.foldl PortEngine.receiveCopy e).notices.filter P = e.notices.filter P := by
  induction ns generalizing e with
  | nil => rfl
  | cons x ns ih =>
    rw [List.foldl_cons, ih fun y hy => h y (List.mem_cons_of_mem x hy)]
    have hx := h x List.mem_cons_self
    rcases e.receiveCopy_cases x with ⟨-, hr⟩ | ⟨-, -, hr⟩ | ⟨-, -, -, hr⟩ | ⟨-, -, -, hr⟩ <;> simp [hr, hx]

/-! ### What the legs raise -/

/-- The copies on their way to a port that come from a leg or from the lease of it. -/
def State.legCopies (s : State) (n : Leg) (q : Port) : List Notice :=
  (s.outbox.filter fun o => o.source = .resource (.leg n) ∧ o.port = q).map Outgoing.notice

/-- A notice about a leg or about the lease of it. -/
def Notice.aboutLeg (x : Notice) (n : Leg) : Bool :=
  decide (x.subject = .leg n ∨ x.subject = .resource (.leg n))

/-- All copies on their way come from legs, and are about them or their leases. -/
def State.FromLegs (s : State) : Prop :=
  ∀ o ∈ s.outbox, ∃ n, o.source = .resource (.leg n) ∧ o.notice.aboutLeg n = true

theorem Notice.aboutLeg_unique {x : Notice} {n k : Leg} (hn : x.aboutLeg n = true) (hk : x.aboutLeg k = true) : n = k := by
  simp only [Notice.aboutLeg, decide_eq_true_eq] at hn hk
  rcases hn with hn | hn <;> rcases hk with hk | hk <;> rw [hn] at hk <;> cases hk <;> rfl

theorem State.fromLegs_of_quiet {s : State} (h : s.Quiet) : s.FromLegs := fun o ho => by
  rw [show s.outbox = [] from h] at ho
  cases ho

theorem State.legCopies_quiet {s : State} (h : s.Quiet) (n : Leg) (q : Port) : s.legCopies n q = [] := by
  rw [State.legCopies, show s.outbox = [] from h]
  rfl

theorem State.legCopies_congr {s t : State} (h : t.outbox = s.outbox) (n : Leg) (q : Port) :
    t.legCopies n q = s.legCopies n q := by
  rw [State.legCopies, h, State.legCopies]

theorem State.FromLegs.congr {s t : State} (h : s.FromLegs) (houtbox : t.outbox = s.outbox) : t.FromLegs := fun o ho =>
  h o (houtbox ▸ ho)

/-- A notice that a leg, or its lease, raises to a set of ports. -/
theorem State.legCopies_post (s : State) (k n : Leg) {ps : List Port} (hps : ps.Nodup) (x : Notice) (q : Port) :
    (s.post (.resource (.leg k)) ps x).legCopies n q
      = s.legCopies n q ++ if k = n ∧ q ∈ ps ∧ (s.port q).presence.level = true then [x] else [] := by
  have hmine : ((ps.filter fun p => (s.port p).presence.level).map fun p => Outgoing.mk (.resource (.leg k)) p x).filter
      (fun o => o.source = .resource (.leg n) ∧ o.port = q)
      = if k = n ∧ q ∈ ps ∧ (s.port q).presence.level = true then [⟨.resource (.leg k), q, x⟩] else [] := by
    by_cases hk : k = n
    · subst hk
      have hfilter : ((ps.filter fun p => (s.port p).presence.level).filter fun p => p = q)
          = if q ∈ ps ∧ (s.port q).presence.level = true then [q] else [] := by
        rw [List.filter_eq]
        split
        · next hmem => rw [List.count_eq_one_of_mem (hps.filter _) (List.mem_filter.mpr hmem), List.replicate_one]
        · next hmem => rw [List.count_eq_zero.mpr (mt List.mem_filter.mp hmem), List.replicate_zero]
      have hport : (fun o : Outgoing => decide (o.source = .resource (.leg k) ∧ o.port = q))
          ∘ (fun p => Outgoing.mk (.resource (.leg k)) p x) = fun p => decide (p = q) := by
        funext p
        simp
      rw [List.filter_map, hport, hfilter]
      simp only [true_and]
      split <;> rfl
    · rw [if_neg fun h => hk h.1, List.filter_eq_nil_iff]
      intro o ho
      obtain ⟨p, -, rfl⟩ := List.mem_map.mp ho
      simp [hk]
  rw [State.legCopies, State.post_outbox, List.filter_append, List.map_append, hmine, ← State.legCopies]
  split <;> rfl

theorem State.FromLegs.post {s : State} (h : s.FromLegs) {k : Leg} {x : Notice} (hx : x.aboutLeg k = true)
    (ps : List Port) : (s.post (.resource (.leg k)) ps x).FromLegs := fun o ho => by
  rw [State.post_outbox, List.mem_append] at ho
  rcases ho with ho | ho
  · exact h o ho
  · obtain ⟨p, -, rfl⟩ := List.mem_map.mp ho
    exact ⟨k, rfl, hx⟩

/-- At most so many copies to a port, if no leg raises more than its share. -/
theorem length_le_of_legs {os : List Outgoing} {b : Nat} (hfrom : ∀ o ∈ os, ∃ n : Leg, o.source = .resource (.leg n))
    (hb : ∀ n : Leg, (os.filter fun o => o.source = .resource (.leg n)).length ≤ b) : os.length ≤ 4 * b := by
  have hsum : os.length = (os.filter fun o => o.source = .resource (.leg .l0)).length
      + (os.filter fun o => o.source = .resource (.leg .l1)).length
      + (os.filter fun o => o.source = .resource (.leg .l2)).length
      + (os.filter fun o => o.source = .resource (.leg .l3)).length := by
    clear hb
    induction os with
    | nil => rfl
    | cons o os ih =>
      have ih := ih fun x hx => hfrom x (List.mem_cons_of_mem o hx)
      obtain ⟨n, hn⟩ := hfrom o List.mem_cons_self
      cases n <;> simp [hn] <;> omega
  have h0 := hb .l0
  have h1 := hb .l1
  have h2 := hb .l2
  have h3 := hb .l3
  omega

/-- What a port takes of copies that all come from legs, where it has room for each leg's share. -/
theorem State.deliver_fromLegs {s : State} (hfrom : s.FromLegs) {q : Port} {b : Nat}
    (hb : ∀ n, (s.legCopies n q).length ≤ b) (hroom : (s.port q).notices.length + 4 * b ≤ 16) :
    ∃ ns, s.deliver.port q = { s.port q with notices := (s.port q).notices ++ ns }
      ∧ (∀ x ∈ ns, ∃ n, x.aboutLeg n = true)
      ∧ ∀ n, ns.filter (·.aboutLeg n) = if (s.port q).presence.level then
          (s.legCopies n q).filter fun x => (s.port q).mask.admits x.body else [] := by
  obtain ⟨os, hperm, horder, hport⟩ := s.deliver_in_order q
  have hsource : ∀ o ∈ os, ∃ n, o.source = .resource (.leg n) ∧ o.notice.aboutLeg n = true := fun o ho =>
    hfrom o (List.mem_filter.mp (hperm.mem_iff.mp ho)).1
  have hlength : os.length ≤ 4 * b := by
    refine length_le_of_legs (fun o ho => ?_) fun n => ?_
    · obtain ⟨n, hn, -⟩ := hsource o ho
      exact ⟨n, hn⟩
    · rw [horder]
      have hbn := hb n
      rwa [State.legCopies, List.length_map] at hbn
  cases hpresent : (s.port q).presence.level with
  | false =>
    rw [PortEngine.foldl_receiveCopy_absent hpresent] at hport
    exact ⟨[], by rw [hport, List.append_nil], by simp, by simp⟩
  | true =>
    rw [PortEngine.foldl_receiveCopy hpresent (by rw [List.length_map]; omega)] at hport
    refine ⟨_, hport, fun x hx => ?_, fun n => ?_⟩
    · obtain ⟨o, ho, rfl⟩ := List.mem_map.mp (List.mem_of_mem_filter hx)
      obtain ⟨n, -, hn⟩ := hsource o ho
      exact ⟨n, hn⟩
    · have habout : (os.map Outgoing.notice).filter (·.aboutLeg n) = s.legCopies n q := by
        rw [State.legCopies, ← horder, List.filter_map]
        refine congrArg _ (List.filter_congr fun o ho => ?_)
        obtain ⟨k, hk, hkabout⟩ := hsource o ho
        have hiff : o.notice.aboutLeg n = true ↔ o.source = .resource (.leg n) := by
          rw [hk]
          refine ⟨fun hn => by rw [Notice.aboutLeg_unique hkabout hn], fun hn => ?_⟩
          cases hn
          exact hkabout
        exact Bool.eq_iff_iff.mpr (hiff.trans decide_eq_true_iff.symm)
      rw [List.filter_comm, habout, if_pos rfl]

/-- Notices about a leg that no copy is one of stay as they are in a port's queue. -/
theorem State.deliver_filter_legs {s : State} (hfrom : s.FromLegs) {n : Leg} {q : Port} {P : Notice → Bool}
    (hP : ∀ x, P x = true → x.aboutLeg n = true) (h : ∀ x ∈ s.legCopies n q, P x = false) :
    (s.deliver.port q).notices.filter P = (s.port q).notices.filter P := by
  obtain ⟨os, hperm, -, hport⟩ := s.deliver_in_order q
  rw [hport]
  refine PortEngine.foldl_receiveCopy_filter (fun x hx => ?_) _
  obtain ⟨o, ho, rfl⟩ := List.mem_map.mp hx
  obtain ⟨ho', hq⟩ := List.mem_filter.mp (hperm.mem_iff.mp ho)
  obtain ⟨k, hk, habout⟩ := hfrom o ho'
  cases hPo : P o.notice with
  | false => rfl
  | true =>
    have hkn := Notice.aboutLeg_unique habout (hP _ hPo)
    subst hkn
    have hmem : o.notice ∈ s.legCopies k q :=
      List.mem_map_of_mem (List.mem_filter.mpr ⟨ho', decide_eq_true ⟨hk, of_decide_eq_true hq⟩⟩)
    exact hPo.symm.trans (h _ hmem)

/-- A leg that raises nothing to a port leaves the notices about it there alone. -/
theorem State.deliver_aboutLeg_silent {s : State} (hfrom : s.FromLegs) {n : Leg} {q : Port} (h : s.legCopies n q = []) :
    (s.deliver.port q).notices.filter (·.aboutLeg n) = (s.port q).notices.filter (·.aboutLeg n) :=
  State.deliver_filter_legs hfrom (fun _ hx => hx) fun x hx => by
    rw [h] at hx
    cases hx

end Sys2Proof.Machine
end

section
/-! PROOFS. What each thing that happens to a leg raises to the ports: trips, cycle cuts and rearms (chapters 6 and
7). -/

namespace Sys2Proof.Machine

open Sys2Proof

-- One theorem at a time, as in the tests: proofs that wait for the kernel would each hold a thread.
set_option Elab.async false

/-! ### Something happens to one leg -/

/-- From `s` to `t` something happens to leg `n`: the leg and its lease may change, and the notices `raised` are
raised to each port, in this order. Nothing else of the legs, of their leases and of what is on its way changes, and
no port, nor the Carrier Timer, nor the trip inputs. -/
structure State.ActsOn (s t : State) (n : Leg) (raised : Port → List Notice) : Prop where
  copies : ∀ k q, t.legCopies k q = s.legCopies k q ++ if k = n then raised q else []
  fromLegs : s.FromLegs → t.FromLegs
  leg : ∀ k, k ≠ n → t.leg k = s.leg k
  lease : ∀ r, r ≠ .leg n → t.lease r = s.lease r
  ports : t.ports = s.ports
  carrier : t.carrier = s.carrier
  trip : t.trip = s.trip

/-- A notice to those ports of a set that are present. -/
def State.toPresent (s : State) (who : Port → Bool) (x : Notice) (q : Port) : List Notice :=
  if who q && (s.port q).presence.level then [x] else []

section
variable {s t u : State} {n : Leg} {raised raised' : Port → List Notice}

theorem State.ActsOn.trans (h : s.ActsOn t n raised) (h' : t.ActsOn u n raised') :
    s.ActsOn u n fun q => raised q ++ raised' q where
  copies k q := by
    rw [h'.copies, h.copies]
    split <;> simp
  fromLegs hs := h'.fromLegs (h.fromLegs hs)
  leg k hk := (h'.leg k hk).trans (h.leg k hk)
  lease r hr := (h'.lease r hr).trans (h.lease r hr)
  ports := h'.ports.trans h.ports
  carrier := h'.carrier.trans h.carrier
  trip := h'.trip.trans h.trip

/-- A change of the leg alone that raises nothing. -/
theorem State.ActsOn.silent (hleg : ∀ k, k ≠ n → t.leg k = s.leg k) (hleases : t.leases = s.leases)
    (houtbox : t.outbox = s.outbox) (hports : t.ports = s.ports) (hcarrier : t.carrier = s.carrier)
    (htrip : t.trip = s.trip) : s.ActsOn t n fun _ => [] where
  copies k q := by rw [State.legCopies_congr houtbox, ite_self, List.append_nil]
  fromLegs hs := hs.congr houtbox
  leg := hleg
  lease r _ := congrArg (PerResource.get · r) hleases
  ports := hports
  carrier := hcarrier
  trip := htrip

theorem State.ActsOn.refl (s : State) (n : Leg) : s.ActsOn s n fun _ => [] :=
  .silent (fun _ _ => rfl) rfl rfl rfl rfl rfl

theorem State.ActsOn.raisesAs (h : s.ActsOn t n raised) (heq : raised = raised') : s.ActsOn t n raised' := heq ▸ h

theorem State.port_congr (h : t.ports = s.ports) (q : Port) : t.port q = s.port q := congrArg (PerPort.get · q) h

theorem State.ActsOn.port (h : s.ActsOn t n raised) (q : Port) : t.port q = s.port q := State.port_congr h.ports q

end

theorem State.actsOn_setLeg (s : State) (n : Leg) (u : LegUnit) : s.ActsOn (s.setLeg n u) n fun _ => [] :=
  .silent (fun k hk => by simp [hk]) rfl rfl rfl rfl rfl

theorem State.actsOn_updLeg (s : State) (n : Leg) (f : LegUnit → LegUnit) : s.ActsOn (s.updLeg n f) n fun _ => [] :=
  .silent (fun k hk => by simp [hk]) rfl rfl rfl rfl rfl

theorem State.actsOn_changeLeg (s : State) (n : Leg) (f : LegUnit → LegUnit) :
    s.ActsOn (s.changeLeg n f) n fun _ => [] :=
  .silent (fun k hk => by simp [hk]) rfl rfl rfl rfl rfl

theorem State.actsOn_post (s : State) (n : Leg) {ps : List Port} (hps : ps.Nodup) {x : Notice}
    (hx : x.aboutLeg n = true) : s.ActsOn (s.post (.resource (.leg n)) ps x) n (s.toPresent (fun q => decide (q ∈ ps)) x) where
  copies k q := by
    rw [State.legCopies_post _ _ _ hps]
    by_cases hk : n = k
    · simp [hk, State.toPresent]
    · rw [if_neg fun h => hk h.1, if_neg fun h => hk h.symm]
  fromLegs hs := hs.post hx ps
  leg _ _ := rfl
  lease _ _ := rfl
  ports := rfl
  carrier := rfl
  trip := rfl

/-- A notice of a leg to the holder of its lease (R12). -/
theorem State.actsOn_postLeg (s : State) (n : Leg) (body : NoticeBody) (tag : Option Byte) :
    s.ActsOn (s.postLeg n body tag) n
      (s.toPresent (fun q => (s.lease (.leg n)).holder? == some q) ⟨body, .leg n, tag, s.periodLow⟩) := by
  have hnodup : (s.holderPorts (.leg n)).Nodup := by
    unfold State.holderPorts
    cases (s.lease (.leg n)).holder? <;> simp
  refine (s.actsOn_post n hnodup (by simp [Notice.aboutLeg])).raisesAs ?_
  have hwho : (fun q => decide (q ∈ s.holderPorts (.leg n))) = fun q => (s.lease (.leg n)).holder? == some q := by
    funext q
    unfold State.holderPorts
    cases (s.lease (.leg n)).holder? <;> simp [beq_eq_decide, eq_comm]
  rw [hwho]

/-! ### The report of a leg (R98, R100) -/

/-- LEASE_GRANTED to the head waiter of a lease that passes on (R99, R100). -/
def State.grantCopies (s : State) (n : Leg) (q : Port) : List Notice :=
  match (s.lease (.leg n)).waiters with
  | [] => []
  | w :: _ => s.toPresent (· == w.port)
      ⟨.leaseGranted (s.lease (.leg n)).genAfter w.interval, .resource (.leg n), none, s.periodLow⟩ q

/-- What the report of a leg raises: LEASE_GRANTED where its lease was RELEASING (R98). -/
def State.reportCopies (s : State) (n : Leg) (q : Port) : List Notice :=
  if (s.lease (.leg n)).phase = .releasing then s.grantCopies n q else []

theorem State.actsOn_updLease (s : State) (n : Leg) (f : Lease → Lease) :
    s.ActsOn (s.updLease (.leg n) f) n fun _ => [] where
  copies k q := by
    rw [ite_self, List.append_nil]
    rfl
  fromLegs hs := hs.congr rfl
  leg _ _ := rfl
  lease r hr := by simp [hr]
  ports := rfl
  carrier := rfl
  trip := rfl

theorem State.actsOn_passOn (s : State) (n : Leg) : s.ActsOn (s.passOn (.leg n)) n (s.grantCopies n) := by
  cases hw : (s.lease (.leg n)).waiters with
  | nil =>
    rw [State.passOn_nil _ _ hw]
    refine (s.actsOn_updLease n _).raisesAs ?_
    funext q
    rw [State.grantCopies, hw]
  | cons w ws =>
    rw [State.passOn_cons _ _ w ws hw]
    set t := s.updLease (.leg n) fun l => Lease.grant { l with waiters := ws } w.port w.interval with ht
    refine ((s.actsOn_updLease n _).trans (t.actsOn_post n (List.nodup_singleton w.port)
      (by simp [Notice.aboutLeg]))).raisesAs ?_
    funext q
    have hgen : (t.lease (.leg n)).gen = (s.lease (.leg n)).genAfter := by
      simp [ht, Lease.grant, Lease.genAfter_eq_nextGen]
    have hport : t.port q = s.port q := rfl
    have hperiod : t.periodLow = s.periodLow := rfl
    rw [State.grantCopies, hw, List.nil_append, hgen]
    simp only [State.toPresent, hport, hperiod, List.mem_singleton, beq_eq_decide]

theorem State.actsOn_legReport (s : State) (n : Leg) : s.ActsOn (s.legReport n) n (s.reportCopies n) := by
  by_cases h : (s.lease (.leg n)).phase = .releasing
  · rw [State.legReport_releasing _ _ h]
    refine (s.actsOn_passOn n).raisesAs ?_
    funext q
    rw [State.reportCopies, if_pos h]
  · rw [State.legReport_eq_self _ _ h]
    refine (State.ActsOn.refl s n).raisesAs ?_
    funext q
    rw [State.reportCopies, if_neg h]

/-! ### Trips and cycle cuts (R112, R115, R117, R119) -/

/-- What a latched trip raises: the report's LEASE_GRANTED, and TRIPPED to the holder that it leaves and to every
SUPERVISOR (R98, R115). -/
def State.tripCopies (s : State) (n : Leg) (c : Cause) (q : Port) : List Notice :=
  s.reportCopies n q ++ s.toPresent (s.hearsTripOf n) ((s.leg n).tripNotice n c s.periodLow) q

theorem State.actsOn_legTripped (s : State) (n : Leg) (c : Cause) : s.ActsOn (s.legTripped n c) n fun _ => [] := by
  refine .silent (fun k hk => ?_) ?_ ?_ ?_ ?_ ?_
  all_goals unfold State.legTripped; split
  · simp [hk]
  · simp [hk]
  all_goals rfl

theorem State.port_nodup_filter (P : Port → Bool) : (Port.all.filter P).Nodup := port_all_nodup.filter P

theorem State.actsOn_latchTrip (s : State) (n : Leg) (c : Cause) : s.ActsOn (s.latchTrip n c) n (s.tripCopies n c) := by
  rw [State.latchTrip_eq]
  have htripped := s.actsOn_legTripped n c
  have hreport := (s.legTripped n c).actsOn_legReport n
  have hleases : (s.legTripped n c).leases = s.leases := by
    unfold State.legTripped
    split <;> rfl
  have hlease : (s.legTripped n c).lease (.leg n) = s.lease (.leg n) := congrArg (PerResource.get · (.leg n)) hleases
  refine ((htripped.trans hreport).trans (State.actsOn_post _ n (State.port_nodup_filter _)
    (by simp [Notice.aboutLeg, LegUnit.tripNotice]))).raisesAs ?_
  funext q
  have hport : ((s.legTripped n c).legReport n).port q = s.port q := (htripped.trans hreport).port q
  have hperiod : (s.legTripped n c).periodLow = s.periodLow := by
    rw [State.periodLow, htripped.carrier]
    rfl
  have hcopies : (s.legTripped n c).reportCopies n q = s.reportCopies n q := by
    rw [State.reportCopies, State.reportCopies, State.grantCopies, State.grantCopies, hlease, hperiod]
    simp only [State.toPresent, htripped.port]
  have hhears : (((s.legTripped n c).legReport n).lease (.leg n)).holder? = (s.leaseReported n).holder? := by
    rw [State.legReport_lease, if_pos rfl, hlease, State.leaseReported_eq]
  rw [List.nil_append, hcopies, State.tripCopies, State.toPresent, State.toPresent, hport]
  simp [List.mem_filter, port_mem_all, hhears, htripped.port, State.hearsTripOf]

/-- What a cause raises: nothing from a leg that is TRIPPED already (R114). -/
def State.causeCopies (s : State) (n : Leg) (c : Cause) (q : Port) : List Notice :=
  if (s.leg n).phase.isTripped then [] else s.tripCopies n c q

theorem State.actsOn_causeArises (s : State) (n : Leg) (c : Cause) :
    s.ActsOn (s.causeArises n c) n (s.causeCopies n c) := by
  unfold State.causeCopies
  cases h : (s.leg n).phase.isTripped with
  | true =>
    obtain ⟨rec, hrec⟩ := (LegPhase.isTripped_iff _).mp h
    rw [State.causeArises_tripped _ _ _ rec hrec]
    exact s.actsOn_setLeg n _
  | false =>
    rw [State.causeArises_latches _ _ _ h]
    exact s.actsOn_latchTrip n c

/-- What a cycle cut raises: LIMIT_START at the first limited period of a run (R119). -/
def State.limitCopies (s : State) (n : Leg) (q : Port) : List Notice :=
  s.toPresent (fun q => (s.lease (.leg n)).holder? == some q)
    ⟨.limitStart (s.leg n).config.escalation, .leg n, (s.leg n).phase.activeTag, s.periodLow⟩ q

/-- A change of a leg that keeps its phase and its settings, and then its LIMIT_START. -/
theorem State.actsOn_limited (s : State) (n : Leg) {f : LegUnit → LegUnit} (hphase : ∀ u, (f u).phase = u.phase)
    (hconfig : ∀ u, (f u).config = u.config) :
    s.ActsOn ((s.changeLeg n f).postLimitStart n) n (s.limitCopies n) := by
  refine ((s.actsOn_changeLeg n f).trans ((s.changeLeg n f).actsOn_postLeg n _ _)).raisesAs ?_
  funext q
  have hleg : (s.changeLeg n f).leg n = (f (s.leg n)).settle s.carrier.counter := by simp
  have hp : ((s.changeLeg n f).leg n).phase = (s.leg n).phase := by rw [hleg]; exact hphase _
  have hc : ((s.changeLeg n f).leg n).config = (s.leg n).config := by rw [hleg]; exact hconfig _
  rw [hp, hc]
  rfl

theorem State.actsOn_setCut (s : State) (n : Leg) : s.ActsOn (s.setCut n) n
    fun q => if (s.leg n).limited = false ∧ (s.leg n).runCount = 0 then s.limitCopies n q else [] := by
  unfold State.setCut
  dsimp only
  by_cases h : (s.leg n).limited = false ∧ (s.leg n).runCount = 0
  · rw [if_pos h]
    simp only [if_pos h]
    exact s.actsOn_limited n (fun _ => rfl) (fun _ => rfl)
  · rw [if_neg h]
    simp only [if_neg h]
    exact s.actsOn_changeLeg n _

/-! ### Rearms (R122) -/

/-- REARMED of a leg whose rearm completes (R122). -/
def LegUnit.rearmNotice (u : LegUnit) (n : Leg) (first : Cause) (period : Half) : Notice :=
  ⟨.rearmed first u.tripCount, .leg n, none, period⟩

/-- What the completion of a pending rearm raises (R122). -/
def State.rearmCopies (s : State) (n : Leg) (q : Port) : List Notice :=
  match (s.leg n).phase with
  | .tripped rec =>
    if rec.rearm then s.toPresent (s.hearsTrips n) ((s.leg n).rearmNotice n rec.first s.periodLow) q else []
  | .idle | .running _ | .holding _ => []

theorem State.actsOn_completeIfPending (s : State) (n : Leg) :
    s.ActsOn (s.completeIfPending n) n (s.rearmCopies n) := by
  unfold State.completeIfPending State.rearmCopies
  cases hp : (s.leg n).phase with
  | idle | running _ | holding _ => exact State.ActsOn.refl s n
  | tripped rec =>
    cases hr : rec.rearm with
    | false =>
      simp only [LegPhase.rearmPending, hr, Bool.false_eq_true, if_false]
      exact State.ActsOn.refl s n
    | true =>
      simp only [LegPhase.rearmPending, hr, if_true]
      rw [State.completeRearm_tripped hp]
      refine ((s.actsOn_changeLeg n _).trans (State.actsOn_post _ n (State.port_nodup_filter _)
        (by simp [Notice.aboutLeg]))).raisesAs ?_
      funext q
      simp [State.toPresent, List.mem_filter, port_mem_all, State.hearsTrips, LegUnit.rearmNotice]

/-! ### Something happens to each leg in turn -/

/-- What the changes of a leg by itself depend on: the leg, its lease, what it has raised, the ports, the Carrier Timer
and the trip inputs. -/
def State.legView (s : State) (n : Leg) : LegUnit × Lease × (Port → List Notice) × PerPort PortEngine × Carrier × TripUnit :=
  (s.leg n, s.lease (.leg n), s.legCopies n, s.ports, s.carrier, s.trip)

theorem State.legView_iff {s t : State} {n : Leg} : t.legView n = s.legView n ↔ t.leg n = s.leg n
    ∧ t.lease (.leg n) = s.lease (.leg n) ∧ (∀ q, t.legCopies n q = s.legCopies n q) ∧ t.ports = s.ports
    ∧ t.carrier = s.carrier ∧ t.trip = s.trip := by
  simp only [State.legView, Prod.mk.injEq, funext_iff]

theorem State.ActsOn.legView {s t : State} {n k : Leg} {raised : Port → List Notice} (h : s.ActsOn t k raised)
    (hk : k ≠ n) : t.legView n = s.legView n := by
  refine State.legView_iff.mpr ⟨h.leg n hk.symm, h.lease _ (by simpa using hk.symm), fun q => ?_, h.ports, h.carrier,
    h.trip⟩
  rw [h.copies, if_neg hk.symm, List.append_nil]

/-- Something happens to each leg in turn: to leg `n` it happens in a state in which the leg stands as at the start, and
what comes of it stays to the end. -/
theorem foldl_actsOn {f : State → Leg → State} {raised : State → Leg → Port → List Notice}
    (h : ∀ (s : State) (k : Leg), s.ActsOn (f s k) k (raised s k)) (s : State) :
    (∀ n, ∃ s', s'.legView n = s.legView n ∧ (Leg.all.foldl f s).legView n = (f s' n).legView n)
      ∧ (s.FromLegs → (Leg.all.foldl f s).FromLegs) ∧ (∀ r, (∀ n, r ≠ .leg n) → (Leg.all.foldl f s).lease r = s.lease r)
      ∧ (Leg.all.foldl f s).ports = s.ports ∧ (Leg.all.foldl f s).carrier = s.carrier
      ∧ (Leg.all.foldl f s).trip = s.trip := by
  refine ⟨fun n => foldl_view_at (fun s k hk => State.ActsOn.legView (h s k) hk) (leg_mem_all n) (by decide) s, fun hs => ?_,
    fun r hr => ?_, foldl_frame State.ports f (fun s k => State.ActsOn.ports (h s k)) _ _,
    foldl_frame State.carrier f (fun s k => State.ActsOn.carrier (h s k)) _ _, foldl_frame State.trip f (fun s k => State.ActsOn.trip (h s k)) _ _⟩
  · exact List.foldlRecOn Leg.all f (motive := State.FromLegs) hs fun t ht k _ => State.ActsOn.fromLegs (h t k) ht
  · exact foldl_frame (fun t => t.lease r) f (fun s k => State.ActsOn.lease (h s k) r (hr k)) _ _

end Sys2Proof.Machine
end

section
/-! PROOFS. Causes that reach every leg: TRIP1_ACTIVE, DISARM, TRIP0_ACTIVE, and the release of reset (chapters 7 and
11). -/

namespace Sys2Proof.Machine

open Sys2Proof

-- One theorem at a time, as in the tests: proofs that wait for the kernel would each hold a thread.
set_option Elab.async false

/-! ### A cause on every leg (R111 to R115) -/

theorem LegUnit.caused_of_not_tripped {u : LegUnit} (h : u.phase.isTripped = false) (c : Cause) (period : Dword)
    (counter : Nat) : u.caused c period counter = u.trippedBy c period counter := by
  unfold LegUnit.caused
  cases hp : u.phase with
  | tripped rec =>
    rw [hp] at h
    cases h
  | idle | running _ | holding _ => rfl

/-- What a leg raises depends on the leg, its lease, the ports and the Carrier Timer alone. -/
structure State.AlikeAt (s s' : State) (n : Leg) : Prop where
  leg : s'.leg n = s.leg n
  lease : s'.lease (.leg n) = s.lease (.leg n)
  ports : s'.ports = s.ports
  carrier : s'.carrier = s.carrier

section
variable {s s' : State} {n : Leg}

theorem State.alikeAt_of_legView (h : s'.legView n = s.legView n) : s.AlikeAt s' n :=
  have ⟨hleg, hlease, _, hports, hcarrier, _⟩ := State.legView_iff.mp h
  ⟨hleg, hlease, hports, hcarrier⟩

theorem State.AlikeAt.port (h : s.AlikeAt s' n) (q : Port) : s'.port q = s.port q := State.port_congr h.ports q

theorem State.AlikeAt.periodLow (h : s.AlikeAt s' n) : s'.periodLow = s.periodLow := by
  rw [State.periodLow, h.carrier, State.periodLow]

theorem State.AlikeAt.toPresent (h : s.AlikeAt s' n) (who : Port → Bool) (x : Notice) (q : Port) :
    s'.toPresent who x q = s.toPresent who x q := by
  rw [State.toPresent, h.port, State.toPresent]

theorem State.AlikeAt.leaseReported (h : s.AlikeAt s' n) : s'.leaseReported n = s.leaseReported n := by
  rw [State.leaseReported_eq, h.lease, State.leaseReported_eq]

theorem State.AlikeAt.hearsTripOf (h : s.AlikeAt s' n) : s'.hearsTripOf n = s.hearsTripOf n := by
  funext q
  rw [State.hearsTripOf, h.leaseReported, h.port, State.hearsTripOf]

theorem State.AlikeAt.reportCopies (h : s.AlikeAt s' n) : s'.reportCopies n = s.reportCopies n := by
  funext q
  unfold State.reportCopies State.grantCopies
  rw [h.lease, h.periodLow]
  simp only [h.toPresent]

theorem State.AlikeAt.tripCopies (h : s.AlikeAt s' n) (c : Cause) : s'.tripCopies n c = s.tripCopies n c := by
  funext q
  rw [State.tripCopies, h.reportCopies, h.hearsTripOf, h.leg, h.periodLow, h.toPresent, State.tripCopies]

theorem State.AlikeAt.causeCopies (h : s.AlikeAt s' n) (c : Cause) : s'.causeCopies n c = s.causeCopies n c := by
  funext q
  rw [State.causeCopies, h.leg, h.tripCopies, State.causeCopies]

theorem State.AlikeAt.limitCopies (h : s.AlikeAt s' n) : s'.limitCopies n = s.limitCopies n := by
  funext q
  rw [State.limitCopies, h.lease, h.leg, h.periodLow, h.toPresent, State.limitCopies]

theorem State.AlikeAt.rearmCopies (h : s.AlikeAt s' n) : s'.rearmCopies n = s.rearmCopies n := by
  have hhears : s'.hearsTrips n = s.hearsTrips n := by
    funext q
    rw [State.hearsTrips, h.lease, h.port, State.hearsTrips]
  funext q
  unfold State.rearmCopies
  rw [h.leg, hhears, h.periodLow]
  simp only [h.toPresent]

end

/-- A cause on all four legs: each of them, with its lease and what it raises. -/
theorem State.causeOnAll_leg (s : State) (c : Cause) (n : Leg) :
    (s.causeOnAll c).leg n = (s.leg n).caused c s.carrier.period s.carrier.counter
      ∧ (s.causeOnAll c).lease (.leg n)
        = (if (s.leg n).phase.isTripped = false then s.leaseReported n else s.lease (.leg n))
      ∧ ∀ q, (s.causeOnAll c).legCopies n q = s.legCopies n q ++ s.causeCopies n c q := by
  obtain ⟨s', hs', hview⟩ := (foldl_actsOn (fun s k => s.actsOn_causeArises k c) s).1 n
  obtain ⟨hleg, hlease, hcopies, hports, hcarrier, -⟩ := State.legView_iff.mp hs'
  have halike := State.alikeAt_of_legView hs'
  obtain ⟨hleg', hlease', hcopies', -⟩ := State.legView_iff.mp hview
  refine ⟨?_, ?_, fun q => ?_⟩
  · exact hleg'.trans (by rw [State.causeArises_leg, if_pos rfl, hleg, hcarrier])
  · refine hlease'.trans ?_
    rw [State.causeArises_lease, hlease, hleg, State.leaseReported_eq]
    simp only [true_and]
  · refine (hcopies' q).trans ?_
    rw [(s'.actsOn_causeArises n c).copies, if_pos rfl, hcopies, halike.causeCopies]

theorem State.causeOnAll_fromLegs {s : State} (h : s.FromLegs) (c : Cause) : (s.causeOnAll c).FromLegs :=
  (foldl_actsOn (fun s k => s.actsOn_causeArises k c) s).2.1 h

theorem State.causeOnAll_frame (s : State) (c : Cause) : (s.causeOnAll c).ports = s.ports
    ∧ (s.causeOnAll c).carrier = s.carrier ∧ (s.causeOnAll c).trip = s.trip ∧ (s.causeOnAll c).chans = s.chans
    ∧ (s.causeOnAll c).rst = s.rst ∧ (s.causeOnAll c).leaseClock = s.leaseClock
    ∧ ∀ r, (∀ n, r ≠ .leg n) → (s.causeOnAll c).lease r = s.lease r := by
  obtain ⟨-, -, hlease, hports, hcarrier, htrip⟩ := foldl_actsOn (fun s k => s.actsOn_causeArises k c) s
  exact ⟨hports, hcarrier, htrip, foldl_frame State.chans _ (fun s k => State.causeArises_chans ..) _ _,
    foldl_frame State.rst _ (fun s k => State.causeArises_rst ..) _ _,
    foldl_frame State.leaseClock _ (fun s k => State.causeArises_leaseClock ..) _ _, hlease⟩

/-- A HOLDING leg that trips leaves the holding-leg set of its mark; no wait count changes (R53). -/
theorem State.causeArises_mark (s : State) (k : Leg) (c : Cause) (m : Mark) :
    ((s.causeArises k c).mark m).wait = (s.mark m).wait
      ∧ ∀ n, ((s.causeArises k c).mark m).holding.get n
        = if n = k ∧ (s.leg k).phase.isHolding = true then false else (s.mark m).holding.get n := by
  cases ht : (s.leg k).phase.isTripped with
  | true =>
    obtain ⟨rec, hrec⟩ := (LegPhase.isTripped_iff _).mp ht
    rw [State.causeArises_tripped _ _ _ rec hrec, hrec]
    exact ⟨rfl, fun n => by simp [LegPhase.isHolding]⟩
  | false =>
    rw [State.causeArises_latches _ _ _ ht, State.latchTrip_mark]
    cases hh : (s.leg k).phase.isHolding with
    | true => simp [State.unhold, PerLeg.get_set]
    | false => simp

theorem State.causeOnAll_mark (s : State) (c : Cause) (m : Mark) :
    ((s.causeOnAll c).mark m).wait = (s.mark m).wait
      ∧ ∀ n, ((s.causeOnAll c).mark m).holding.get n
        = if (s.leg n).phase.isHolding = true then false else (s.mark m).holding.get n := by
  refine ⟨foldl_frame (fun t => (t.mark m).wait) _ (fun s k => (s.causeArises_mark k c m).1) _ _, fun n => ?_⟩
  obtain ⟨s', hs', hfold⟩ := foldl_view_at (view := fun t => (t.leg n, (t.mark m).holding.get n))
    (f := fun s k => s.causeArises k c) (a := n) (fun t k hk => by
      rw [State.causeArises_leg, if_neg hk.symm, (t.causeArises_mark k c m).2, if_neg fun h => hk h.1.symm])
    (leg_mem_all n) (by decide) s
  obtain ⟨hleg, hholding⟩ := Prod.mk.inj hs'
  refine (Prod.mk.inj hfold).2.trans ?_
  rw [(s'.causeArises_mark n c m).2, hleg, hholding]
  simp only [true_and]

/-! ### The notices of a trip -/

theorem State.toPresent_length (s : State) (who : Port → Bool) (x : Notice) (q : Port) :
    (s.toPresent who x q).length ≤ 1 := by
  unfold State.toPresent
  split <;> simp

theorem State.reportCopies_length (s : State) (n : Leg) (q : Port) : (s.reportCopies n q).length ≤ 1 := by
  unfold State.reportCopies State.grantCopies
  split
  · split
    · simp
    · exact State.toPresent_length ..
  · simp

theorem State.tripCopies_length (s : State) (n : Leg) (c : Cause) (q : Port) : (s.tripCopies n c q).length ≤ 2 := by
  have h1 := s.reportCopies_length n q
  have h2 := s.toPresent_length (s.hearsTripOf n) ((s.leg n).tripNotice n c s.periodLow) q
  rw [State.tripCopies, List.length_append]
  omega

theorem State.causeCopies_length (s : State) (n : Leg) (c : Cause) (q : Port) : (s.causeCopies n c q).length ≤ 2 := by
  unfold State.causeCopies
  split
  · simp
  · exact State.tripCopies_length ..

/-- A port that the report tells of a grant hears the trip as its new holder. -/
theorem State.reportCopies_of_not_hears {s : State} {n : Leg} {q : Port} (h : s.hearsTripOf n q = false) :
    s.reportCopies n q = [] := by
  unfold State.reportCopies State.grantCopies
  split
  · next hrel =>
    split
    · rfl
    · next w ws hw =>
      have hne : (q == w.port) = false := by
        refine Bool.eq_false_iff.mpr fun hq => ?_
        have hholder : (s.leaseReported n).holder? = some w.port := by
          simp [State.leaseReported, hrel, Lease.passedOn, hw, Lease.grantedTo, Lease.holder?]
        simp [State.hearsTripOf, hholder, beq_iff_eq.mp hq] at h
      simp [State.toPresent, hne]
  · rfl

theorem State.tripCopies_of_not_hears {s : State} {n : Leg} {q : Port} (h : s.hearsTripOf n q = false) (c : Cause) :
    s.tripCopies n c q = [] := by
  simp [State.tripCopies, State.reportCopies_of_not_hears h, State.toPresent, h]

/-- TRIPPED reaches each port that hears it, is present and admits it, where there is room (R115, R168). -/
theorem tripNotice_mem {s t : State} {n : Leg} {c : Cause} {q : Port} {ns : List Notice}
    (hport : t.port q = { s.port q with notices := (s.port q).notices ++ ns })
    (hns : ns.filter (·.aboutLeg n) = if (s.port q).presence.level then
      (s.tripCopies n c q).filter fun x => (s.port q).mask.admits x.body else [])
    (hhears : s.hearsTripOf n q = true) (hpresent : (s.port q).presence.level = true)
    (hmask : (s.port q).mask.trip = true) : (s.leg n).tripNotice n c s.periodLow ∈ (t.port q).notices := by
  have hmem : (s.leg n).tripNotice n c s.periodLow ∈ ns.filter (·.aboutLeg n) := by
    rw [hns, if_pos hpresent, List.mem_filter]
    exact ⟨List.mem_append_right _ (by simp [State.toPresent, hhears, hpresent]), hmask⟩
  rw [hport]
  exact List.mem_append_right _ (List.mem_of_mem_filter hmem)

/-! ### TRIP1 and ARM (R111) -/

/-- The state after an input has been a cause on every leg, delivered: all that O43 says of it but for the trip
inputs. -/
theorem State.causeOnAll_reaches {s : State} (hquiet : s.Quiet) (unit : TripUnit) (c : Cause) (n : Leg) (q : Port) :
    (((s.setTrip unit).causeOnAll c).deliver.port q).notices.filter (·.aboutLeg n)
        = (s.port q).notices.filter (·.aboutLeg n) ∨ (s.leg n).phase.isTripped = false ∧ s.hearsTripOf n q = true := by
  have hcopies := ((s.setTrip unit).causeOnAll_leg c n).2.2 q
  have hfrom := State.causeOnAll_fromLegs (State.fromLegs_of_quiet (s := s.setTrip unit) hquiet) c
  rw [State.legCopies_quiet (s := s.setTrip unit) hquiet, List.nil_append] at hcopies
  have hports := ((s.setTrip unit).causeOnAll_frame c).1
  have hsilent : (s.setTrip unit).causeCopies n c q = [] →
      (((s.setTrip unit).causeOnAll c).deliver.port q).notices.filter (·.aboutLeg n)
        = (s.port q).notices.filter (·.aboutLeg n) := fun h => by
    rw [State.deliver_aboutLeg_silent hfrom (hcopies.trans h), State.port_congr hports]
    rfl
  cases ht : (s.leg n).phase.isTripped with
  | true => exact .inl (hsilent (if_pos ht))
  | false =>
    cases hh : s.hearsTripOf n q with
    | true => exact .inr ⟨rfl, rfl⟩
    | false =>
      exact .inl (hsilent ((if_neg (by simp [ht])).trans (State.tripCopies_of_not_hears (s := s.setTrip unit) hh c)))

theorem State.causeOnAll_delivers {s : State} (hquiet : s.Quiet) (unit : TripUnit) (c : Cause) {q : Port}
    (hroom : (s.port q).notices.length ≤ 8) :
    ∃ ns, ((s.setTrip unit).causeOnAll c).deliver.port q = { s.port q with notices := (s.port q).notices ++ ns }
      ∧ ∀ n, (s.leg n).phase.isTripped = false → ns.filter (·.aboutLeg n) = if (s.port q).presence.level then
          (s.tripCopies n c q).filter fun x => (s.port q).mask.admits x.body else [] := by
  have hfrom := State.causeOnAll_fromLegs (State.fromLegs_of_quiet (s := s.setTrip unit) hquiet) c
  have hport : ((s.setTrip unit).causeOnAll c).port q = s.port q :=
    State.port_congr (s := s) ((s.setTrip unit).causeOnAll_frame c).1 q
  have hcopies : ∀ n, ((s.setTrip unit).causeOnAll c).legCopies n q = s.causeCopies n c q := fun n => by
    rw [((s.setTrip unit).causeOnAll_leg c n).2.2 q, State.legCopies_quiet (s := s.setTrip unit) hquiet]
    rfl
  obtain ⟨ns, hns, -, habout⟩ := State.deliver_fromLegs hfrom (q := q) (b := 2)
    (fun n => by rw [hcopies]; exact s.causeCopies_length n c q) (by rw [hport]; omega)
  rw [hport] at hns
  refine ⟨ns, hns, fun n hn => ?_⟩
  rw [habout, hport, hcopies, State.causeCopies, hn]
  rfl

/-- TRIPPED as the statements write it. -/
theorem LegUnit.tripNotice_eq (u : LegUnit) (n : Leg) (c : Cause) (period : Half) : u.tripNotice n c period
    = ⟨.tripped c (min 255 (u.tripCount + 1)) u.queue.length, .leg n, u.phase.activeTag, period⟩ := rfl

/-- Settles O43: a cause reaches the four legs one after the other, and none of them touches another. -/
theorem tripReachesEveryLeg : Obligations.TripReachesEveryLeg := by
  intro i c s hs hway
  obtain ⟨unit, hexec, htrip1, hdisarm⟩ : ∃ unit, exec i s = .next ((s.setTrip unit).causeOnAll c).deliver
      ∧ (i = .trip1Active → unit = { s.trip with trip1 := ⟨true, true, 0⟩ })
      ∧ (i = .disarm → unit = { s.trip with arm := ⟨false, false, 0⟩ }) := by
    rcases hway with ⟨rfl, rfl, hlevel⟩ | ⟨rfl, rfl, hlevel⟩
    · refine ⟨_, ?_, fun _ => rfl, nofun⟩
      show execTrip1Active s = _
      simp only [execTrip1Active, State.event_awake hs.1, hlevel]
      rfl
    · refine ⟨_, ?_, nofun, fun _ => rfl⟩
      show execDisarm s = _
      simp only [execDisarm, State.event_awake hs.1, hlevel]
      rfl
  obtain ⟨-, hcarrier, htrip, hchans, hrst, hclock, hlease⟩ := (s.setTrip unit).causeOnAll_frame c
  have hmark := (s.setTrip unit).causeOnAll_mark c
  refine ⟨_, hexec, fun h => ?_, fun h => ?_, fun n hn => ?_, fun n m h hh => ?_, fun m => ?_, fun n q => ?_, ?_, ?_, ?_,
    ?_, ?_, fun d => ?_⟩
  · rw [State.deliver_trip, htrip, htrip1 h]
    rfl
  · rw [State.deliver_trip, htrip, hdisarm h]
    rfl
  · obtain ⟨hleg, hleased, -⟩ := (s.setTrip unit).causeOnAll_leg c n
    have hcaused : ((s.setTrip unit).causeOnAll c).deliver.leg n
        = (s.leg n).trippedBy c s.carrier.period s.carrier.counter := by
      rw [State.deliver_leg, hleg]
      exact LegUnit.caused_of_not_tripped hn ..
    have hspec := (s.leg n).trippedBy_spec c s.carrier.period s.carrier.counter
    obtain ⟨-, -, -, -, -, -, -, hoff⟩ := id hspec
    rw [hcaused]
    refine ⟨hspec, by rw [State.gateHigh, hcaused, hoff, Bool.and_false], ?_⟩
    rw [State.deliver_lease, hleased]
    exact if_pos hn
  · rw [State.deliver_mark, (hmark m).2, if_pos]
    exact (LegPhase.isHolding_iff _).mpr ⟨h, hh⟩
  · rw [State.deliver_mark, (hmark m).1]
    rfl
  · refine ⟨fun hn hhears hpresent hmask hroom => ?_, fun hnot => ?_, fun w ws hn hrel hw hq hpresent hmask hlmask hroom => ?_⟩
    · obtain ⟨ns, hport, habout⟩ := State.causeOnAll_delivers hs.2 unit c hroom
      exact tripNotice_mem hport (habout n hn) hhears hpresent hmask
    · refine (State.causeOnAll_reaches hs.2 unit c n q).resolve_right fun h => ?_
      rcases hnot with h' | h'
      · rw [h.1] at h'
        cases h'
      · rw [h.2] at h'
        cases h'
    · obtain ⟨ns, hport, habout⟩ := State.causeOnAll_delivers hs.2 unit c hroom
      have hholder : (s.leaseReported n).holder? = some q := by
        simp [State.leaseReported, hrel, Lease.passedOn, hw, Lease.grantedTo, Lease.holder?, hq]
      have hcopies : s.tripCopies n c q = [⟨.leaseGranted (s.lease (.leg n)).genAfter w.interval, .resource (.leg n), none,
          s.periodLow⟩, (s.leg n).tripNotice n c s.periodLow] := by
        simp [State.tripCopies, State.reportCopies, State.grantCopies, hrel, hw, State.toPresent, hq, hpresent,
          State.hearsTripOf, hholder]
      have hadmits : ([⟨.leaseGranted (s.lease (.leg n)).genAfter w.interval, .resource (.leg n), none,
          s.periodLow⟩, (s.leg n).tripNotice n c s.periodLow] : List Notice).filter
            (fun x => (s.port q).mask.admits x.body) = [⟨.leaseGranted (s.lease (.leg n)).genAfter w.interval,
              .resource (.leg n), none, s.periodLow⟩, (s.leg n).tripNotice n c s.periodLow] :=
        List.filter_eq_self.mpr fun x hx => by
          rcases List.mem_cons.mp hx with rfl | hx
          · exact hlmask
          · rw [List.mem_singleton.mp hx]
            exact hmask
      have hns := habout n hn
      rw [if_pos hpresent, hcopies, hadmits] at hns
      rw [hport]
      exact (List.filter_append ..).trans (congrArg _ hns)
  · rw [State.deliver_carrier, hcarrier]
    rfl
  · rw [State.deliver_chans, hchans]
    rfl
  · rw [State.deliver_rst, hrst]
    rfl
  · rw [State.deliver_leaseClock, hclock]
    rfl
  · exact (State.deliver_lease ..).trans (hlease _ fun _ => nofun)
  · exact (State.deliver_lease ..).trans (hlease _ fun _ => nofun)

/-! ### TRIP0 (R111, R117 to R119) -/

/-- TRIP0 accepted active is a trip cause of a leg under LATCH, and of one that an escalation tripped (R111). -/
def LegUnit.latchesTrip0 (u : LegUnit) : Bool :=
  decide (u.config.response = .latch) || match u.phase with
    | .tripped rec => decide (rec.first = .escalated)
    | .idle | .running _ | .holding _ => false

theorem State.trip0Reaches_eq (s : State) (n : Leg) : s.trip0Reaches n
    = if (s.leg n).latchesTrip0 then s.causeArises n .trip0 else if (s.leg n).phase.driving then s.setCut n else s := by
  unfold LegUnit.latchesTrip0
  cases hp : (s.leg n).phase <;> cases hr : (s.leg n).config.response <;>
    simp [State.trip0Reaches, hp, hr, LegPhase.driving]

/-- What TRIP0 accepted active raises of a leg (R115, R119). -/
def State.trip0Copies (s : State) (n : Leg) (q : Port) : List Notice :=
  if (s.leg n).latchesTrip0 then s.causeCopies n .trip0 q
  else if (s.leg n).phase.driving = true ∧ (s.leg n).limited = false ∧ (s.leg n).runCount = 0 then s.limitCopies n q
  else []

theorem State.actsOn_trip0Reaches (s : State) (n : Leg) : s.ActsOn (s.trip0Reaches n) n (s.trip0Copies n) := by
  rw [State.trip0Reaches_eq]
  unfold State.trip0Copies
  cases (s.leg n).latchesTrip0 with
  | true => exact s.actsOn_causeArises n .trip0
  | false =>
    cases (s.leg n).phase.driving with
    | true => simpa using s.actsOn_setCut n
    | false => simpa using State.ActsOn.refl s n

theorem State.limitCopies_length (s : State) (n : Leg) (q : Port) : (s.limitCopies n q).length ≤ 1 :=
  s.toPresent_length ..

theorem State.trip0Copies_length (s : State) (n : Leg) (q : Port) : (s.trip0Copies n q).length ≤ 2 := by
  unfold State.trip0Copies
  split
  · exact State.causeCopies_length ..
  · split
    · exact (s.limitCopies_length n q).trans (by decide)
    · simp

/-- A leg after TRIP0 has been accepted active. -/
def LegUnit.trip0Reached (u : LegUnit) (period : Dword) (counter : Nat) : LegUnit :=
  if u.latchesTrip0 then u.caused .trip0 period counter
  else if u.phase.driving then { u with limited := true, stage := { u.stage with cycleCut := true } }.settle counter
  else u

theorem State.trip0Reaches_leg (s : State) (n : Leg) :
    (s.trip0Reaches n).leg n = (s.leg n).trip0Reached s.carrier.period s.carrier.counter := by
  rw [State.trip0Reaches_eq, LegUnit.trip0Reached]
  split
  · rw [State.causeArises_leg, if_pos rfl]
  · split
    · rw [State.setCut_leg, if_pos rfl]
    · rfl

theorem State.trip0Reaches_lease (s : State) (n : Leg) : (s.trip0Reaches n).lease (.leg n)
    = if (s.leg n).latchesTrip0 = true ∧ (s.leg n).phase.isTripped = false then s.leaseReported n
      else s.lease (.leg n) := by
  rw [State.trip0Reaches_eq]
  cases (s.leg n).latchesTrip0 with
  | true =>
    rw [if_pos rfl, State.causeArises_lease, State.leaseReported_eq]
    simp only [true_and]
  | false =>
    cases (s.leg n).phase.driving <;> simp

/-- TRIP0 accepted active: each leg, with its lease and what it raises. -/
theorem State.trip0Rises_leg {s : State} (hquiet : s.Quiet) (n : Leg) :
    s.trip0Rises.leg n = (s.leg n).trip0Reached s.carrier.period s.carrier.counter
      ∧ s.trip0Rises.lease (.leg n)
        = (if (s.leg n).latchesTrip0 = true ∧ (s.leg n).phase.isTripped = false then s.leaseReported n
          else s.lease (.leg n))
      ∧ ∀ q, s.trip0Rises.legCopies n q = s.trip0Copies n q := by
  obtain ⟨s', hs', hview⟩ :=
    (foldl_actsOn State.actsOn_trip0Reaches (s.setTrip { s.trip with trip0 := .settled true })).1 n
  obtain ⟨hleg, hlease, hcopies, hports, hcarrier, -⟩ := State.legView_iff.mp hs'
  have halike : s.AlikeAt s' n := ⟨hleg, hlease, hports, hcarrier⟩
  obtain ⟨hleg', hlease', hcopies', -⟩ := State.legView_iff.mp hview
  refine ⟨?_, ?_, fun q => ?_⟩
  · exact hleg'.trans (by rw [State.trip0Reaches_leg, halike.leg, halike.carrier])
  · exact hlease'.trans (by rw [State.trip0Reaches_lease, halike.leg, halike.lease, halike.leaseReported])
  · refine (hcopies' q).trans ?_
    rw [(s'.actsOn_trip0Reaches n).copies, if_pos rfl, hcopies,
      State.legCopies_quiet (s := s.setTrip { s.trip with trip0 := .settled true }) hquiet, List.nil_append]
    unfold State.trip0Copies
    rw [halike.leg, halike.causeCopies, halike.limitCopies]

theorem State.trip0Rises_delivers {s : State} (hquiet : s.Quiet) {q : Port} (hroom : (s.port q).notices.length ≤ 8) :
    ∃ ns, s.trip0Rises.deliver.port q = { s.port q with notices := (s.port q).notices ++ ns }
      ∧ ∀ n, ns.filter (·.aboutLeg n) = if (s.port q).presence.level then
          (s.trip0Copies n q).filter fun x => (s.port q).mask.admits x.body else [] := by
  obtain ⟨-, hfromLegs, -, hports, -⟩ :=
    foldl_actsOn State.actsOn_trip0Reaches (s.setTrip { s.trip with trip0 := .settled true })
  have hfrom : s.trip0Rises.FromLegs := hfromLegs (State.fromLegs_of_quiet hquiet)
  have hport : s.trip0Rises.port q = s.port q := State.port_congr (s := s) hports q
  obtain ⟨ns, hns, -, habout⟩ := State.deliver_fromLegs hfrom (q := q) (b := 2)
    (fun n => by rw [(State.trip0Rises_leg hquiet n).2.2]; exact s.trip0Copies_length n q) (by rw [hport]; omega)
  rw [hport] at hns
  exact ⟨ns, hns, fun n => by rw [habout, hport, (State.trip0Rises_leg hquiet n).2.2]⟩

/-- The cycle cut turns the high side off (R61). -/
theorem LegUnit.settle_cut_high {u : LegUnit} (hcut : u.stage.cycleCut = true) (counter : Nat) :
    (u.settle counter).stage.high.on = false := by
  have hdemand : (u.demandsAt counter).1 = false := by
    unfold LegUnit.demandsAt
    rw [hcut]
    cases u.output with
    | pattern p => cases p <;> rfl
    | drive d => cases d with
      | modulate duty sides => cases sides <;> simp [Drive.demands]
      | fixedHigh | fixedLow | float => rfl
  exact SideState.on_of_no_demand hdemand

/-- Settles O45. -/
theorem trip0LatchesOrCuts : Obligations.Trip0LatchesOrCuts := by
  intro s hs hlevel
  obtain ⟨-, -, -, -, hcarrier, htrip⟩ :=
    foldl_actsOn State.actsOn_trip0Reaches (s.setTrip { s.trip with trip0 := .settled true })
  have hexec : exec .trip0Active s = .next s.trip0Rises.deliver := by
    show execTrip0Active s = _
    simp only [execTrip0Active, State.event_awake hs.1, hlevel]
    rfl
  refine ⟨_, hexec, (State.deliver_trip _).trans htrip, (State.deliver_carrier _).trans hcarrier,
    (State.deliver_chans _).trans (foldl_frame State.chans _ State.trip0Reaches_chans _ _),
    (State.deliver_rst _).trans (foldl_frame State.rst _ State.trip0Reaches_rst _ _), fun n => ?_⟩
  obtain ⟨hleg, hlease, -⟩ := State.trip0Rises_leg hs.2 n
  rw [State.deliver_leg, State.deliver_lease, hleg, hlease]
  have hgate : (s.trip0Rises.deliver.leg n).stage.high.on = false → s.trip0Rises.deliver.gateHigh n = false := fun h => by
    rw [State.gateHigh, h, Bool.and_false]
  rw [State.deliver_leg, hleg] at hgate
  refine ⟨fun hresponse hn => ?_, fun hresponse hdriving => ?_, fun hresponse hphase => ?_,
    fun rec hresponse hphase hfirst => ?_⟩
  · have hlatches : (s.leg n).latchesTrip0 = true := by simp [LegUnit.latchesTrip0, hresponse]
    have hspec := (s.leg n).trippedBy_spec .trip0 s.carrier.period s.carrier.counter
    have hreached : (s.leg n).trip0Reached s.carrier.period s.carrier.counter
        = (s.leg n).trippedBy .trip0 s.carrier.period s.carrier.counter :=
      (if_pos hlatches).trans (LegUnit.caused_of_not_tripped hn ..)
    rw [hreached] at hgate ⊢
    obtain ⟨-, -, -, -, -, -, -, hoff⟩ := id hspec
    refine ⟨hspec, hgate hoff, if_pos ⟨hlatches, hn⟩, fun q hhears hpresent hmask hroom => ?_⟩
    obtain ⟨ns, hport, habout⟩ := State.trip0Rises_delivers hs.2 hroom
    have hns := habout n
    rw [State.trip0Copies, if_pos hlatches, State.causeCopies, hn] at hns
    exact tripNotice_mem hport hns hhears hpresent hmask
  · have hlatches : (s.leg n).latchesTrip0 = false := by
      cases hp : (s.leg n).phase with
      | tripped rec =>
        rw [hp] at hdriving
        cases hdriving
      | idle | running _ | holding _ => simp [LegUnit.latchesTrip0, hresponse, hp]
    have hreached : (s.leg n).trip0Reached s.carrier.period s.carrier.counter
        = { s.leg n with limited := true, stage := { (s.leg n).stage with cycleCut := true } }.settle
            s.carrier.counter := by
      rw [LegUnit.trip0Reached, hlatches, if_neg Bool.false_ne_true, if_pos hdriving]
    rw [hreached] at hgate ⊢
    have hoff := LegUnit.settle_cut_high (u := { s.leg n with
      limited := true, stage := { (s.leg n).stage with cycleCut := true } }) rfl s.carrier.counter
    refine ⟨rfl, hgate hoff, if_neg (by simp [hlatches]),
      fun q hholder hlimited hrun hpresent hmask hroom => ?_⟩
    obtain ⟨ns, hport, habout⟩ := State.trip0Rises_delivers hs.2 hroom
    have hns := habout n
    rw [if_pos hpresent, State.trip0Copies, hlatches, if_neg Bool.false_ne_true, if_pos ⟨hdriving, hlimited, hrun⟩] at hns
    rw [hport]
    refine List.mem_append_right _ (List.mem_of_mem_filter (p := (·.aboutLeg n)) (hns ▸ List.mem_filter.mpr ⟨?_, hmask⟩))
    simp [State.limitCopies, State.toPresent, hholder, hpresent]
  · rw [LegUnit.trip0Reached, LegUnit.latchesTrip0, hresponse, hphase]
    rfl
  · rw [LegUnit.trip0Reached, LegUnit.latchesTrip0, hresponse, hphase]
    simp [hfirst, LegPhase.driving]

end Sys2Proof.Machine
end

section
/-! PROOFS. The release of reset, and the rearms that STOP completes (chapters 2, 7 and 11). -/

namespace Sys2Proof.Machine

open Sys2Proof

-- One theorem at a time, as in the tests: proofs that wait for the kernel would each hold a thread.
set_option Elab.async false

/-! ### The release of reset with no cause (R127, R176) -/

theorem ResetUnit.ends_iff (r : ResetUnit) :
    r.ends = true ↔ r.inReset = true ∧ r.rstLow = 0 ∧ r.porHold = 0 ∧ 59 ≤ r.stretch := by
  simp [ResetUnit.ends, ResetUnit.held, stretchSamples, and_assoc]

theorem exec_resetRelease {pins : Pins} {s : State} (h : s.rst.ends = true) :
    exec (.resetRelease pins) s = .next (s.release pins) :=
  congrArg Host.Outcome.next (if_pos h)

/-- The trip causes that the Trip Unit finds on the pins at the release, in the order in which it takes them (R127). -/
def releaseCauses (pins : Pins) : List Cause :=
  (if pins.arm then [] else [.disarm]) ++ (if pins.trip1 then [.trip1] else []) ++ (if pins.trip0 then [.trip0] else [])

theorem State.evaluateAtRelease_eq {t : State} {pins : Pins} (harm : t.trip.arm.level = pins.arm)
    (htrip1 : t.trip.trip1.level = pins.trip1) (htrip0 : t.trip.trip0.level = pins.trip0) :
    t.evaluateAtRelease = (releaseCauses pins).foldl State.causeOnAll t := by
  rw [State.evaluateAtRelease, releaseCauses, harm, htrip1, htrip0]
  cases pins.arm <;> cases pins.trip1 <;> cases pins.trip0 <;> simp

theorem State.release_eq (s : State) (pins : Pins) :
    s.release pins = ((releaseCauses pins).foldl State.causeOnAll (s.released pins)).deliver :=
  congrArg State.deliver (State.evaluateAtRelease_eq rfl rfl rfl)

/-- Settles O23: with no cause, the release is the table of release values itself. -/
theorem resetReleaseValues : Obligations.ResetReleaseValues := by
  intro pins s
  refine ⟨fun h => ?_, fun hin hrst hpor hstretch harm htrip0 htrip1 => ?_⟩
  · have hnot : ¬ s.rst.ends = true := fun hends => by
      obtain ⟨hin, hrst, hpor, hstretch⟩ := (ResetUnit.ends_iff _).mp hends
      rcases h with h | h | h | h
      · rw [hin] at h
        cases h
      · omega
      · omega
      · omega
    exact congrArg Host.Outcome.next (if_neg hnot)
  · have hcauses : (releaseCauses pins) = [] := by rw [releaseCauses, harm, htrip0, htrip1]; rfl
    have hrelease : s.release pins = s.released pins := by
      rw [State.release_eq, hcauses]
      exact State.deliver_quiet _ rfl
    refine ⟨_, exec_resetRelease ((ResetUnit.ends_iff _).mpr ⟨hin, hrst, hpor, hstretch⟩), ?_⟩
    rw [hrelease]
    refine ⟨rfl, fun p => ?_, PerResource.get_all _, rfl, rfl, rfl, rfl, rfl, rfl, rfl, rfl, rfl, rfl, rfl,
      fun n => by cases n <;> rfl, fun m => by cases m <;> rfl, ?_, fun c => ?_⟩
    · cases p <;> rfl
    · rw [State.released, harm, htrip0, htrip1]
      rfl
    · cases c <;> exact ⟨rfl, rfl, rfl, rfl, rfl, rfl, rfl, rfl, rfl, rfl, rfl, rfl, rfl, rfl, rfl, rfl,
        fun p => by cases p <;> rfl⟩

/-! ### The release of reset with a cause (R127) -/

/-- Causes on legs that are all TRIPPED join their records, and raise nothing (R114). -/
theorem State.causes_of_tripped (cs : List Cause) {s : State} (h : ∀ n, (s.leg n).phase.isTripped = true) (n : Leg) :
    (cs.foldl State.causeOnAll s).leg n = cs.foldl (fun u c => u.caused c s.carrier.period s.carrier.counter) (s.leg n)
      ∧ (cs.foldl State.causeOnAll s).lease (.leg n) = s.lease (.leg n)
      ∧ ∀ q, (cs.foldl State.causeOnAll s).legCopies n q = s.legCopies n q := by
  induction cs generalizing s with
  | nil => exact ⟨rfl, rfl, fun _ => rfl⟩
  | cons c cs ih =>
    have hstep := s.causeOnAll_leg c
    have htripped : ∀ k, ((s.causeOnAll c).leg k).phase.isTripped = true := fun k => by
      rw [(hstep k).1, LegUnit.caused]
      cases hp : (s.leg k).phase <;> rfl
    obtain ⟨hleg, hlease, hcopies⟩ := ih htripped
    obtain ⟨hleg', hlease', hcopies'⟩ := hstep n
    have hcarrier := (s.causeOnAll_frame c).2.1
    refine ⟨?_, ?_, fun q => ?_⟩
    · rw [List.foldl_cons, hleg, hleg', hcarrier]
      rfl
    · rw [List.foldl_cons, hlease, hlease', h n]
      rfl
    · rw [List.foldl_cons, hcopies, hcopies', State.causeCopies, if_pos (h n), List.append_nil]

theorem State.causes_frame (cs : List Cause) (s : State) : (cs.foldl State.causeOnAll s).ports = s.ports
    ∧ (cs.foldl State.causeOnAll s).rst = s.rst ∧ (s.FromLegs → (cs.foldl State.causeOnAll s).FromLegs)
    ∧ ∀ r, (∀ n, r ≠ .leg n) → (cs.foldl State.causeOnAll s).lease r = s.lease r := by
  refine ⟨foldl_frame State.ports _ (fun s c => (s.causeOnAll_frame c).1) _ _,
    foldl_frame State.rst _ (fun s c => (s.causeOnAll_frame c).2.2.2.2.1) _ _, fun h => ?_, fun r hr => ?_⟩
  · exact List.foldlRecOn cs _ (motive := State.FromLegs) h fun t ht c _ => State.causeOnAll_fromLegs ht c
  · exact foldl_frame (fun t => t.lease r) _ (fun s c => (s.causeOnAll_frame c).2.2.2.2.2.2 r hr) _ _

theorem State.released_leg (s : State) (pins : Pins) (n : Leg) : (s.released pins).leg n = LegUnit.reset := by
  cases n <;> rfl

theorem State.released_lease (s : State) (pins : Pins) (r : Resource) : (s.released pins).lease r = Lease.reset :=
  PerResource.get_all _ r

/-- The number of notices, leg by leg. -/
theorem length_of_aboutLegs {ns : List Notice} (h : ∀ x ∈ ns, ∃ n, x.aboutLeg n = true) {b : Nat}
    (hb : ∀ n, (ns.filter (·.aboutLeg n)).length = b) : ns.length = 4 * b := by
  have hsum : ns.length = (ns.filter (·.aboutLeg .l0)).length + (ns.filter (·.aboutLeg .l1)).length
      + (ns.filter (·.aboutLeg .l2)).length + (ns.filter (·.aboutLeg .l3)).length := by
    clear hb
    induction ns with
    | nil => rfl
    | cons x ns ih =>
      have ih := ih fun y hy => h y (List.mem_cons_of_mem x hy)
      obtain ⟨n, hn⟩ := h x List.mem_cons_self
      have hother : ∀ k, k ≠ n → x.aboutLeg k = false := fun k hk =>
        Bool.eq_false_iff.mpr fun hx => hk (Notice.aboutLeg_unique hx hn)
      cases n <;> simp [hn, hother] <;> omega
  rw [hsum, hb, hb, hb, hb]
  omega

/-- Settles O24: the first cause trips every leg, and the others join the records. -/
theorem resetReleaseTrips : Obligations.ResetReleaseTrips := by
  intro pins s hin hrst hpor hstretch hcause
  set c : Cause := if pins.arm = false then .disarm else if pins.trip1 then .trip1 else .trip0 with hc
  obtain ⟨rest, hcauses⟩ : ∃ rest, (releaseCauses pins) = c :: rest := by
    rw [hc, releaseCauses]
    cases harm : pins.arm <;> cases htrip1 : pins.trip1 <;> cases htrip0 : pins.trip0 <;>
      simp [harm, htrip1, htrip0] at hcause ⊢
  set r := s.released pins
  have hfirst := r.causeOnAll_leg c
  have htripped : ∀ n, ((r.causeOnAll c).leg n).phase.isTripped = true := fun n => by
    rw [(hfirst n).1, s.released_leg]
    rfl
  have hrest := State.causes_of_tripped rest htripped
  obtain ⟨hports, hreset, hfrom, hlease⟩ := State.causes_frame (releaseCauses pins) r
  set t := (releaseCauses pins).foldl State.causeOnAll r with ht
  have ht' : t = rest.foldl State.causeOnAll (r.causeOnAll c) := by rw [ht, hcauses, List.foldl_cons]
  have hcarrier := (r.causeOnAll_frame c).2.1
  have hleg : ∀ n, t.leg n = (releaseCauses pins).foldl (fun u c => u.caused c 0 0) LegUnit.reset := fun n => by
    rw [ht', (hrest n).1, (hfirst n).1, s.released_leg, hcarrier, hcauses]
    rfl
  have hcopies : ∀ n q, t.legCopies n q = r.tripCopies n c q := fun n q => by
    rw [ht', (hrest n).2.2, (hfirst n).2.2, State.legCopies_quiet (s := r) rfl, State.causeCopies, s.released_leg]
    rfl
  have hport : ∀ q, t.port q = r.port q := State.port_congr hports
  have htrip : ∀ n q, r.tripCopies n c q
      = if (pins.ports.get q).role = true ∧ (pins.ports.get q).pres = true then
          [⟨.tripped c 1 0, .leg n, none, 0⟩] else [] := fun n q => by
    have hreport : r.reportCopies n q = [] := by
      rw [State.reportCopies, s.released_lease]
      rfl
    have hhears : r.hearsTripOf n q = (pins.ports.get q).role := by
      have hrole : (r.port q).role = if (pins.ports.get q).role then .supervisor else .control := by cases q <;> rfl
      rw [State.hearsTripOf, State.leaseReported_eq, s.released_lease, hrole]
      cases (pins.ports.get q).role <;> rfl
    have hpresence : (r.port q).presence.level = (pins.ports.get q).pres := by cases q <;> rfl
    rw [State.tripCopies, hreport, List.nil_append, State.toPresent, hhears, hpresence, s.released_leg]
    simp only [Bool.and_eq_true]
    rfl
  have hdelivered : ∀ q, ∃ ns, (t.deliver.port q).notices = ns ∧ (∀ x ∈ ns, ∃ n, x.aboutLeg n = true)
      ∧ ∀ n, ns.filter (·.aboutLeg n) = if (pins.ports.get q).role = true ∧ (pins.ports.get q).pres = true then
          [⟨.tripped c 1 0, .leg n, none, 0⟩] else [] := fun q => by
    have hnotices : (r.port q).notices = [] := by cases q <;> rfl
    obtain ⟨ns, hns, hlegs, habout⟩ := State.deliver_fromLegs (hfrom (State.fromLegs_of_quiet rfl)) (q := q) (b := 2)
      (fun n => by rw [hcopies]; exact r.tripCopies_length n c q) (by rw [hport, hnotices]; decide)
    rw [hport] at hns
    refine ⟨ns, by rw [hns, hnotices]; rfl, hlegs, fun n => ?_⟩
    have hpresence : (r.port q).presence.level = (pins.ports.get q).pres := by cases q <;> rfl
    have hmask : (r.port q).mask = Classes.all := by cases q <;> rfl
    rw [habout, hport, hcopies, htrip, hpresence, hmask]
    cases (pins.ports.get q).role <;> cases (pins.ports.get q).pres <;> rfl
  refine ⟨_, exec_resetRelease ((ResetUnit.ends_iff _).mpr ⟨hin, hrst, hpor, hstretch⟩), ?_⟩
  rw [State.release_eq]
  refine ⟨fun n => ?_, fun x => ?_, fun p => ?_, fun p n hrole hpres => ?_⟩
  · rw [State.gateHigh, State.gateLow, State.deliver_leg, hleg, hc, releaseCauses]
    cases harm : pins.arm <;> cases htrip1 : pins.trip1 <;> cases htrip0 : pins.trip0 <;>
      simp [harm, htrip1, htrip0] at hcause <;> exact ⟨rfl, rfl, rfl, rfl, rfl, Bool.and_false _, Bool.and_false _⟩
  · rw [State.deliver_lease]
    cases x with
    | leg n =>
      show t.lease (.leg n) = _
      rw [ht', (hrest n).2.1, (hfirst n).2.1, State.leaseReported_eq, s.released_lease]
      exact ite_self _
    | carrier => exact (hlease .carrier fun _ => nofun).trans (s.released_lease ..)
    | chan d => exact (hlease (.chan d) fun _ => nofun).trans (s.released_lease ..)
  · obtain ⟨ns, hns, hlegs, habout⟩ := hdelivered p
    rw [hns, length_of_aboutLegs hlegs (b := if (pins.ports.get p).role = true ∧ (pins.ports.get p).pres = true then 1 else 0)
      (fun n => by rw [habout]; split <;> rfl)]
    split <;> rfl
  · obtain ⟨ns, hns, -, habout⟩ := hdelivered p
    have hmem := habout n
    rw [if_pos ⟨hrole, hpres⟩] at hmem
    rw [hns]
    refine List.mem_of_mem_filter (p := (·.aboutLeg n)) ?_
    rw [hmem]
    exact List.mem_singleton_self _

/-! ### STOP (R37, R124) -/

/-- A port that admits none of the copies to it stays as it is (R168). -/
theorem PortEngine.foldl_receiveCopy_refused {e : PortEngine} {ns : List Notice}
    (h : ∀ x ∈ ns, e.mask.admits x.body = false) : ns.foldl PortEngine.receiveCopy e = e := by
  induction ns with
  | nil => rfl
  | cons x ns ih =>
    have hsame : e.receiveCopy x = e := by
      unfold PortEngine.receiveCopy
      rw [if_pos (h x List.mem_cons_self), ite_self]
    rw [List.foldl_cons, hsame, ih fun y hy => h y (List.mem_cons_of_mem x hy)]

theorem State.deliver_fromLegs_refused {s : State} (hfrom : s.FromLegs) {q : Port}
    (h : ∀ n, ∀ x ∈ s.legCopies n q, (s.port q).mask.admits x.body = false) : s.deliver.port q = s.port q := by
  obtain ⟨os, hperm, -, hport⟩ := s.deliver_in_order q
  rw [hport]
  refine PortEngine.foldl_receiveCopy_refused fun x hx => ?_
  obtain ⟨o, ho, rfl⟩ := List.mem_map.mp hx
  obtain ⟨ho', hq⟩ := List.mem_filter.mp (hperm.mem_iff.mp ho)
  obtain ⟨n, hn, -⟩ := hfrom o ho'
  refine h n _ (List.mem_map_of_mem (List.mem_filter.mpr ⟨ho', ?_⟩))
  exact decide_eq_true ⟨hn, of_decide_eq_true hq⟩

theorem State.rearmCopies_eq (s : State) (n : Leg) (q : Port) {rec : TripRecord} (hphase : (s.leg n).phase = .tripped rec) :
    s.rearmCopies n q = if (rec.rearm && s.hearsTrips n q) = true ∧ (s.port q).presence.level = true then
      [(s.leg n).rearmNotice n rec.first s.periodLow] else [] := by
  rw [State.rearmCopies, hphase]
  cases hr : rec.rearm <;> simp [State.toPresent, hr]

theorem State.mem_rearmCopies {s : State} {n : Leg} {q : Port} {x : Notice} (h : x ∈ s.rearmCopies n q) :
    ((s.leg n).phase.rearmPending && s.hearsTrips n q) = true ∧ (s.port q).presence.level = true ∧ x.subject = .leg n
      ∧ ∀ m : Classes, m.admits x.body = m.trip := by
  cases hp : (s.leg n).phase with
  | idle | running _ | holding _ =>
    rw [State.rearmCopies, hp] at h
    cases h
  | tripped rec =>
    rw [s.rearmCopies_eq n q hp] at h
    split at h
    · next hc =>
      rw [List.mem_singleton.mp h]
      exact ⟨hc.1, hc.2, rfl, fun _ => rfl⟩
    · cases h

theorem State.rearmCopies_length (s : State) (n : Leg) (q : Port) : (s.rearmCopies n q).length ≤ 1 := by
  unfold State.rearmCopies
  split
  · split
    · exact State.toPresent_length ..
    · simp
  all_goals simp

/-- Pending rearms that all complete, delivered: each leg, and what a port takes (R122, R124). -/
theorem State.rearmsComplete {s : State} (hquiet : s.Quiet) :
    (∀ n, (Leg.all.foldl State.completeIfPending s).leg n
        = if (s.leg n).phase.rearmPending then (s.leg n).rearmed s.carrier.counter else s.leg n)
      ∧ (Leg.all.foldl State.completeIfPending s).FromLegs
      ∧ (∀ n q, (Leg.all.foldl State.completeIfPending s).legCopies n q = s.rearmCopies n q)
      ∧ (Leg.all.foldl State.completeIfPending s).ports = s.ports := by
  obtain ⟨hviews, hfrom, -, hports, -⟩ := foldl_actsOn State.actsOn_completeIfPending s
  refine ⟨fun n => ?_, hfrom (State.fromLegs_of_quiet hquiet), fun n q => ?_, hports⟩ <;>
    obtain ⟨s', hs', hview⟩ := hviews n
  · obtain ⟨hleg', -⟩ := State.legView_iff.mp hview
    have halike := State.alikeAt_of_legView hs'
    rw [hleg', State.completeIfPending_leg, halike.leg, halike.carrier]
    simp only [true_and]
    rfl
  · obtain ⟨-, -, hcopies', -⟩ := State.legView_iff.mp hview
    obtain ⟨-, -, hcopies, -⟩ := State.legView_iff.mp hs'
    rw [hcopies', (s'.actsOn_completeIfPending n).copies, if_pos rfl, hcopies, State.legCopies_quiet hquiet,
      (State.alikeAt_of_legView hs').rearmCopies, List.nil_append]

/-- Where no rearm is pending, none completes. -/
theorem State.noRearmCompletes {s : State} (h : ∀ n, (s.leg n).phase.rearmPending = false) :
    Leg.all.foldl State.completeIfPending s = s :=
  List.foldlRecOn Leg.all _ (motive := fun t => t = s) rfl fun t ht n _ => by
    rw [ht, State.completeIfPending, h n]
    rfl

/-- What a port takes of REARMED notices, where it has room for one of each leg. -/
theorem State.rearms_reach {s t : State} (hfrom : t.FromLegs) (hcopies : ∀ n q, t.legCopies n q = s.rearmCopies n q)
    (hports : t.ports = s.ports) {q : Port} (hpresent : (s.port q).presence.level = true)
    (hmask : (s.port q).mask.trip = true) (hroom : (s.port q).notices.length ≤ 12) :
    ∃ ns, t.deliver.port q = { s.port q with notices := (s.port q).notices ++ ns }
      ∧ (∀ x ∈ ns, ∃ n, x.subject = .leg n) ∧ ∀ n, ns.filter (fun x => x.subject = .leg n) = s.rearmCopies n q := by
  have hport := State.port_congr hports q
  obtain ⟨ns, hns, hlegs, habout⟩ := State.deliver_fromLegs hfrom (q := q) (b := 1)
    (fun n => by rw [hcopies]; exact s.rearmCopies_length n q) (by rw [hport]; omega)
  rw [hport] at hns
  have habout' : ∀ n, ns.filter (·.aboutLeg n) = s.rearmCopies n q := fun n => by
    rw [habout, hport, if_pos hpresent, hcopies]
    exact List.filter_eq_self.mpr fun x hx => (State.mem_rearmCopies hx).2.2.2 _ ▸ hmask
  have hsubject : ∀ x ∈ ns, ∃ n, x.subject = .leg n := fun x hx => by
    obtain ⟨n, hn⟩ := hlegs x hx
    have hmem : x ∈ s.rearmCopies n q := habout' n ▸ List.mem_filter.mpr ⟨hx, hn⟩
    exact ⟨n, (State.mem_rearmCopies hmem).2.2.1⟩
  refine ⟨ns, hns, hsubject, fun n => ?_⟩
  rw [← habout']
  refine List.filter_congr fun x hx => ?_
  obtain ⟨k, hk⟩ := hsubject x hx
  simp [Notice.aboutLeg, hk]

/-- Settles O49. -/
theorem stopHaltsCarrier : Obligations.StopHaltsCarrier := by
  intro p seq g s hready hholds halted rearms
  have hquiet : s.Quiet := hready.2.2.2.2
  refine ⟨fun hrun => ?_, fun hrun hdriving => ?_, fun hrun hrest => ?_⟩
  · have ha : doStop p g s = ⟨s, .ok, []⟩ := by rw [doStop, onCarrier_of_holds hholds, hrun]
    exact exec_answered (i := .stop p seq g) hready rfl nofun ha hquiet
  · have ha : doStop p g s = s.refuse .busy [] := by
      rw [doStop, onCarrier_of_holds hholds, hrun]
      exact if_pos (State.anyDriving_iff.mpr hdriving)
    exact exec_refused (i := .stop p seq g) hready rfl nofun ha
  have hidle : ¬ s.anyDriving = true := fun h => by
    obtain ⟨n, hn⟩ := State.anyDriving_iff.mp h
    rw [hrest n] at hn
    cases hn
  have ha : doStop p g s = ⟨Leg.all.foldl State.completeIfPending (s.setCarrier halted), .ok, []⟩ := by
    rw [doStop, onCarrier_of_holds hholds, hrun]
    exact if_neg hidle
  refine ⟨fun hnone => ?_, ?_⟩
  · rw [State.noRearmCompletes (s := s.setCarrier halted) fun n => by
      cases hp : (s.leg n).phase with
      | tripped rec => exact (congrArg LegPhase.rearmPending hp).trans (hnone n rec hp)
      | idle | running _ | holding _ => exact congrArg LegPhase.rearmPending hp] at ha
    exact exec_answered (i := .stop p seq g) hready rfl nofun ha hquiet
  · obtain ⟨hlegs, hfrom, hcopies, hports⟩ := State.rearmsComplete (s := s.setCarrier halted) hquiet
    set t := Leg.all.foldl State.completeIfPending (s.setCarrier halted) with ht
    have hexec : exec (.stop p seq g) s = .next (respond p ⟨0x33, seq, be16 g⟩ ⟨t, .ok, []⟩) := by
      refine (exec_command (i := .stop p seq g) rfl nofun s).trans ?_
      rw [State.submit_ready hready rfl]
      exact congrArg (fun a => Host.Outcome.next (respond p _ a)) ha
    have hnotices : ∀ q, ((respond p ⟨0x33, seq, be16 g⟩ ⟨t, .ok, []⟩).port q).notices = (t.deliver.port q).notices
        ∧ ((respond p ⟨0x33, seq, be16 g⟩ ⟨t, .ok, []⟩).port q).lost = (t.deliver.port q).lost := fun q => by
      rw [respond, State.updPort_port]
      split <;> exact ⟨rfl, rfl⟩
    refine ⟨_, hexec, ?_, fun n => ?_, ?_, ?_, ?_, ?_, ?_, ?_, ?_, ?_, fun q => ⟨fun h => ?_, fun hpresent hmask hroom => ?_⟩⟩
    · exact (State.deliver_carrier _).trans (foldl_frame State.carrier _ State.completeIfPending_carrier _ _)
    · exact (State.deliver_leg ..).trans (hlegs n)
    · exact (State.deliver_leases _).trans (foldl_frame State.leases _ State.completeIfPending_leases _ _)
    · exact (State.deliver_chans _).trans (foldl_frame State.chans _ State.completeIfPending_chans _ _)
    · exact (State.deliver_sync _).trans (foldl_frame State.sync _ State.completeIfPending_sync _ _)
    · exact (State.deliver_trip _).trans (foldl_frame State.trip _ State.completeIfPending_trip _ _)
    · exact (State.deliver_rst _).trans (foldl_frame State.rst _ State.completeIfPending_rst _ _)
    · exact (State.deliver_leaseClock _).trans (foldl_frame State.leaseClock _ State.completeIfPending_leaseClock _ _)
    · exact (State.deliver_pending _).trans (foldl_frame State.pending _ State.completeIfPending_pending _ _)
    · exact respond_answeredIn fun q => State.port_congr hports q
    · rw [(hnotices q).1, (hnotices q).2]
      have hsame : t.deliver.port q = t.port q := State.deliver_fromLegs_refused hfrom fun n x hx => by
        rw [hcopies] at hx
        obtain ⟨hrearm, hpresent, -, hclass⟩ := State.mem_rearmCopies hx
        rw [State.port_congr hports, hclass]
        rcases h with h | h | h
        · have hn := h n
          exact absurd (hrearm.symm.trans hn) (by decide)
        · exact absurd (hpresent.symm.trans h) (by decide)
        · exact h
      rw [hsame, State.port_congr hports]
      exact ⟨rfl, rfl⟩
    · obtain ⟨ns, hport, hsubject, habout⟩ := State.rearms_reach (s := s.setCarrier halted) hfrom hcopies hports
        hpresent hmask hroom
      rw [(hnotices q).1, (hnotices q).2, hport]
      have hother : ∀ x : Subject, (∀ n, x ≠ .leg n) → ((s.port q).notices ++ ns).filter (fun y => y.subject = x)
          = (s.port q).notices.filter fun y => y.subject = x := fun x hx => by
        have hnone : ns.filter (fun y => decide (y.subject = x)) = [] := List.filter_eq_nil_iff.mpr fun y hy => by
          obtain ⟨n, hn⟩ := hsubject y hy
          simpa [hn] using (hx n).symm
        rw [List.filter_append, hnone, List.append_nil]
      refine ⟨rfl, hother _ fun _ => nofun, fun c => hother _ fun _ => nofun, fun r => hother _ fun _ => nofun,
        fun n => ⟨fun hnot => ?_, fun rec hphase hrearm => ?_⟩⟩
      · have hnone : (s.setCarrier halted).rearmCopies n q = [] := List.eq_nil_iff_forall_not_mem.mpr fun x hx =>
          absurd ((State.mem_rearmCopies hx).1.symm.trans hnot) (by decide)
        exact (List.filter_append ..).trans ((congrArg _ ((habout n).trans hnone)).trans (List.append_nil _))
      · have hcopy := State.rearmCopies_eq (s.setCarrier halted) n q hphase
        have hpending : (rec.rearm && s.hearsTrips n q) = true := by
          have hpend : (s.leg n).phase.rearmPending = rec.rearm := by rw [hphase]; rfl
          rw [← hpend]
          exact hrearm
        rw [if_pos ⟨hpending, hpresent⟩] at hcopy
        exact (List.filter_append ..).trans (congrArg _ ((habout n).trans hcopy))

end Sys2Proof.Machine
end

section
/-! PROOFS. A presence fall: what becomes of the port, of its leases and of the plans of its legs (chapter 6). -/

namespace Sys2Proof.Machine

open Sys2Proof

-- One theorem at a time, as in the tests: proofs that wait for the kernel would each hold a thread.
set_option Elab.async false

/-- A HOLDING leg whose queue is emptied leaves the holding-leg set of its mark; no wait count changes (R51). -/
theorem State.flushQueue_holding (s : State) (k : Leg) (m : Mark) :
    ((s.flushQueue k).mark m).wait = (s.mark m).wait
      ∧ ∀ n, ((s.flushQueue k).mark m).holding.get n
        = ((s.mark m).holding.get n
          && !decide (k = n ∧ (s.leg n).phase.isHolding = true ∧ (s.leg n).queue ≠ [])) := by
  rw [State.flushQueue_mark]
  by_cases h : (s.leg k).phase.isHolding = true ∧ (s.leg k).queue ≠ []
  · rw [if_pos h]
    refine ⟨by simp [State.unhold], fun n => ?_⟩
    by_cases hk : k = n
    · subst hk
      simp [State.unhold, h]
    · simp [State.unhold, PerLeg.get_set, hk, Ne.symm hk]
  · rw [if_neg h]
    refine ⟨rfl, fun n => ?_⟩
    have hnot : ¬ (k = n ∧ (s.leg n).phase.isHolding = true ∧ (s.leg n).queue ≠ []) := by
      rintro ⟨rfl, hn⟩
      exact h hn
    simp [hnot]

theorem State.endLease_mark (s : State) (r : Resource) (m : Mark) :
    ((s.endLease r).mark m).wait = (s.mark m).wait
      ∧ ∀ n, ((s.endLease r).mark m).holding.get n
        = ((s.mark m).holding.get n
          && !decide (r = .leg n ∧ (s.leg n).phase.isHolding = true ∧ (s.leg n).queue ≠ [])) := by
  cases r with
  | carrier | chan c => simp [State.endLease]
  | leg k =>
    rw [State.endLease, State.flushAndCut_mark]
    have hflush := (s.updLease (.leg k) fun l => { l with phase := .releasing }).flushQueue_holding k m
    simp only [State.updLease_leg, State.updLease_mark] at hflush
    exact ⟨hflush.1, fun n => (hflush.2 n).trans
      (congrArg _ (congrArg _ (decide_eq_decide.mpr (by rw [Resource.leg.injEq]))))⟩

theorem State.endIfHeld_mark (s : State) (p : Port) (r : Resource) (m : Mark) :
    ((s.endIfHeld p r).mark m).wait = (s.mark m).wait
      ∧ ∀ n, ((s.endIfHeld p r).mark m).holding.get n
        = ((s.mark m).holding.get n && !decide ((s.lease r).holder? = some p
          ∧ r = .leg n ∧ (s.leg n).phase.isHolding = true ∧ (s.leg n).queue ≠ [])) := by
  unfold State.endIfHeld
  split
  · next h => simpa [h] using s.endLease_mark r m
  · next h => simp [h]

theorem State.endIfHeld_lease (s : State) (p : Port) (r q : Resource) :
    (s.endIfHeld p r).lease q = if q = r ∧ (s.lease r).holder? = some p then
        (if s.resourceAtRest r then (s.lease r).passedOn else { s.lease r with phase := .releasing })
      else s.lease q := by
  unfold State.endIfHeld
  split
  · next h =>
    rw [State.endLease_lease]
    by_cases hq : q = r
    · subst hq
      simp [h]
    · simp [hq]
  · next h => simp [h]

theorem State.endIfHeld_leg (s : State) (p : Port) (r : Resource) (k : Leg) :
    (s.endIfHeld p r).leg k
      = if r = .leg k ∧ (s.lease r).holder? = some p then (s.leg k).planGone else s.leg k := by
  unfold State.endIfHeld
  split
  · next h => rw [State.endLease_leg]; simp [h]
  · next h => simp [h]

theorem Lease.dropWaiter_holder (l : Lease) (p : Port) : (l.dropWaiter p).holder? = l.holder? := rfl

/-- The part as it stands before the leases of a port that falls end: its waiter entries and subscriptions gone. -/
def State.abandonedBy (s : State) (p : Port) : State :=
  ((s.updPort p PortEngine.fall).unsubscribe p).dropWaiters p

theorem State.abandonedBy_leg (s : State) (p : Port) (n : Leg) : (s.abandonedBy p).leg n = s.leg n :=
  foldl_frame (fun t => t.leg n) _ (fun t r => by simp) _ _

theorem State.abandonedBy_mark (s : State) (p : Port) (m : Mark) : (s.abandonedBy p).mark m = s.mark m :=
  foldl_frame (fun t => t.mark m) _ (fun t r => by simp) _ _

theorem State.abandonedBy_lease (s : State) (p : Port) (r : Resource) :
    (s.abandonedBy p).lease r = (s.lease r).dropWaiter p :=
  State.dropWaiters_lease ..

/-- A lease that the port held ends as by a RELEASE; any other loses the port's waiter entry at most (R102). -/
theorem State.presenceFalls_record (s : State) (p : Port) (r : Resource) :
    (s.presenceFalls p).lease r = if (s.lease r).holder? = some p then
        (if s.resourceAtRest r then ((s.lease r).dropWaiter p).passedOn
          else { (s.lease r).dropWaiter p with phase := .releasing })
      else (s.lease r).dropWaiter p := by
  obtain ⟨s', hs', hfold⟩ := foldl_view_at (view := fun t : State => (t.lease r, t.resourceAtRest r))
    (f := fun t k => t.endIfHeld p k) (a := r) (fun t k hk => by
      refine Prod.ext ?_ ?_
      · rw [State.endIfHeld_lease, if_neg fun h => hk h.1.symm]
      · cases r with
        | leg n => exact congrArg LegUnit.atRest ((t.endIfHeld_leg p k n).trans (if_neg fun h => hk h.1))
        | carrier | chan c => rfl)
    (resource_mem_all r) (by decide) (s.abandonedBy p)
  obtain ⟨hlease, hrest⟩ := Prod.mk.inj hs'
  have hrest' : s'.resourceAtRest r = s.resourceAtRest r := hrest.trans (by
    cases r with
    | leg n => exact congrArg LegUnit.atRest (s.abandonedBy_leg p n)
    | carrier | chan c => rfl)
  refine (Prod.mk.inj hfold).1.trans ?_
  rw [State.endIfHeld_lease, hlease, hrest', State.abandonedBy_lease, Lease.dropWaiter_holder]
  simp only [true_and]

/-- A leg whose lease the port held loses its plan; no other leg changes (R20, R103). -/
theorem State.presenceFalls_leg (s : State) (p : Port) (n : Leg) :
    (s.presenceFalls p).leg n = if (s.lease (.leg n)).holder? = some p then (s.leg n).planGone else s.leg n := by
  obtain ⟨s', hs', hfold⟩ := foldl_view_at (view := fun t : State => (t.lease (.leg n), t.leg n))
    (f := fun t k => t.endIfHeld p k) (a := .leg n) (fun t k hk => by
      rw [State.endIfHeld_lease, if_neg fun h => hk h.1.symm, State.endIfHeld_leg, if_neg fun h => hk h.1])
    (resource_mem_all _) (by decide) (s.abandonedBy p)
  obtain ⟨hlease, hleg⟩ := Prod.mk.inj hs'
  refine (Prod.mk.inj hfold).2.trans ?_
  rw [State.endIfHeld_leg, hlease, hleg, State.abandonedBy_lease, State.abandonedBy_leg, Lease.dropWaiter_holder]
  simp only [true_and]

/-- A HOLDING leg whose plan is taken leaves the holding-leg set of its mark; no wait count changes (R51, R52). -/
theorem State.presenceFalls_mark (s : State) (p : Port) (m : Mark) :
    ((s.presenceFalls p).mark m).wait = (s.mark m).wait
      ∧ ∀ n, ((s.presenceFalls p).mark m).holding.get n
        = ((s.mark m).holding.get n && !decide ((s.lease (.leg n)).holder? = some p
          ∧ (s.leg n).phase.isHolding = true ∧ (s.leg n).queue ≠ [])) := by
  refine ⟨(foldl_frame (fun t => (t.mark m).wait) _ (fun t r => (t.endIfHeld_mark p r m).1) _ _).trans
    (congrArg MarkState.wait (s.abandonedBy_mark p m)), fun n => ?_⟩
  obtain ⟨s', hs', hfold⟩ := foldl_view_at
    (view := fun t : State => (t.lease (.leg n), t.leg n, (t.mark m).holding.get n))
    (f := fun t k => t.endIfHeld p k) (a := .leg n) (fun t k hk => by
      rw [State.endIfHeld_lease, if_neg fun h => hk h.1.symm, State.endIfHeld_leg, if_neg fun h => hk h.1,
        (t.endIfHeld_mark p k m).2, decide_eq_false fun h => hk h.2.1, Bool.not_false, Bool.and_true])
    (resource_mem_all _) (by decide) (s.abandonedBy p)
  simp only [Prod.mk.injEq] at hs' hfold
  obtain ⟨hlease, hleg, hholding⟩ := hs'
  refine hfold.2.2.trans ?_
  rw [(s'.endIfHeld_mark p _ m).2, hlease, hleg, hholding, State.abandonedBy_lease, State.abandonedBy_leg,
    State.abandonedBy_mark, Lease.dropWaiter_holder]
  simp only [true_and]

/-- A port that is absent takes no notice (R168). -/
theorem State.deliver_port_absent {s : State} {p : Port} (h : (s.port p).presence.level = false) :
    s.deliver.port p = s.port p := by
  obtain ⟨os, -, -, hport⟩ := s.deliver_in_order p
  rw [hport, PortEngine.foldl_receiveCopy_absent h]

/-- Settles O21: each lease that the port held ends by itself, after its waiter entries are gone. -/
theorem presenceFallLeavesNothing : Obligations.PresenceFallLeavesNothing := by
  intro p s hs hpresent
  have hexec : exec (.presenceFall p) s = .next (s.presenceFalls p).deliver := by
    refine congrArg Host.Outcome.next ((State.event_awake hs.1 _).trans ?_)
    rw [if_pos hpresent]
  refine ⟨_, hexec, ?_, fun q hq => ?_, fun r => ?_, fun n => ?_, fun c => ?_, fun m => ?_, ?_, ?_, ?_, ?_, ?_⟩
  · have hport : (s.presenceFalls p).port p = (s.port p).fall := by rw [State.presenceFalls_port, if_pos rfl]
    rw [State.deliver_port_absent (by rw [hport]; rfl), hport]
    rfl
  · have hsame := (s.presenceFalls p).deliver_sameButNotices q
    rwa [State.presenceFalls_port, if_neg hq] at hsame
  · dsimp only
    rw [State.deliver_lease, State.presenceFalls_record]
    split
    · exact ⟨fun h => if_pos h, fun h => if_neg (by rw [h]; decide)⟩
    · rfl
  · rw [State.deliver_leg, State.presenceFalls_leg, State.planTaken_leg, if_pos rfl]
  · rw [State.deliver_chan, State.presenceFalls_chan]
    rfl
  · rw [State.deliver_mark]
    obtain ⟨hwait, hholding⟩ := s.presenceFalls_mark p m
    refine ⟨hwait, fun n => ?_⟩
    have hiff : (s.leg n).phase.isHolding = true ↔ ∃ h, (s.leg n).phase = .holding h := by
      cases (s.leg n).phase <;> simp [LegPhase.isHolding]
    rw [hholding, ← hiff, Bool.and_eq_true, Bool.not_eq_true', decide_eq_false_iff_not]
  · rw [State.deliver_carrier, State.presenceFalls_carrier]
  · rw [State.deliver_trip, State.presenceFalls_trip]
  · rw [State.deliver_leaseClock, State.presenceFalls_leaseClock]
  · rw [State.deliver_rst, State.presenceFalls_rst]
  · rw [State.deliver_pending, State.presenceFalls_pending]

end Sys2Proof.Machine
end

section
/-! PROOFS. When a period boundary comes (chapters 2 and 4; log entries 4 and 5). -/

namespace Sys2Proof.Machine

open Sys2Proof

-- One theorem at a time, as in the tests: proofs that wait for the kernel would each hold a thread.
set_option Elab.async false

/-! ### The ticks and samples to the next boundary (R27 to R30) -/

/-- A tick that is no boundary leaves one tick fewer to it. -/
theorem Carrier.count_ticksLeft {t : Carrier} (h : t.boundaryDue = false) : t.count.ticksLeft + 1 = t.ticksLeft := by
  unfold Carrier.boundaryDue at h
  cases hm : t.mode with
  | edge =>
    simp only [hm, decide_eq_false_iff_not] at h
    simp only [Carrier.count, Carrier.ticksLeft, hm]
    omega
  | center =>
    cases hs : t.slope with
    | rising =>
      simp only [hm, hs, decide_eq_false_iff_not] at h
      simp only [Carrier.count, Carrier.ticksLeft, hm, hs]
      omega
    | falling =>
      by_cases hzero : t.counter = 0
      · by_cases hlead : t.leadIn = true ∧ t.dwell < t.active
        · obtain ⟨hlead', hdwell⟩ := id hlead
          simp only [Carrier.count, Carrier.ticksLeft, hm, hs, hzero, hlead', hdwell, ne_eq, not_true, if_false, if_true,
            true_and]
          omega
        · have hnone : (if t.leadIn = true then t.active - t.dwell else 0) = 0 := by
            split
            · next hl => exact Nat.sub_eq_zero_of_le (Nat.le_of_not_lt fun h => hlead ⟨hl, h⟩)
            · rfl
          simp only [Carrier.count, Carrier.ticksLeft, hm, hs, hzero, hlead, ne_eq, not_true, if_false, hnone]
          omega
      · simp only [Carrier.count, Carrier.ticksLeft, hm, hs, hzero, ne_eq, not_false_eq_true, if_true]
        omega

theorem Carrier.count_prescale (t : Carrier) : t.count.prescale = t.prescale := by
  unfold Carrier.count
  split <;> (try split_ifs) <;> rfl

/-- A sample that does not bring the boundary brings it one sample nearer. -/
theorem State.sample_toBoundary {s : State} (hrst : s.rst.inReset = false) (hrun : s.carrier.run = .running)
    (hnot : ¬ s.BoundaryNow) : s.sample.carrier.toBoundary + 1 = s.carrier.toBoundary := by
  have hpass : s.carrier.pass
      = { s.carrier with divider := s.carrier.divider.pass (2 ^ s.carrier.prescale.val) } := by
    simp only [Carrier.pass, hrun]
    rfl
  rw [(State.sample_awake hrst).1, State.liveSample_carrier, hpass]
  by_cases hdue : s.carrier.divider.due = true
  · rw [if_pos ⟨hrun, hdue⟩]
    have hbound : s.carrier.boundaryDue = false :=
      Bool.eq_false_iff.mpr fun hb => hnot (State.boundaryNow_of_due hrun hdue hb)
    have hticks := Carrier.count_ticksLeft hbound
    have hticked : Carrier.ticked { s.carrier with divider := s.carrier.divider.pass (2 ^ s.carrier.prescale.val) }
        = { s.carrier.count with divider := s.carrier.divider.pass (2 ^ s.carrier.prescale.val) } := by
      rw [Carrier.ticked_divider]
      have hcount : s.carrier.ticked = s.carrier.count := by
        simp only [Carrier.ticked, hrun]
        exact if_neg (by rw [hbound]; decide)
      rw [hcount]
    have hleft : s.carrier.divider.left = 0 := (Divider.due_iff _).mp hdue
    have hreload := ((s.carrier.divider.pass_cases (2 ^ s.carrier.prescale.val)).2.1) ((Divider.due_eq _).mp hdue)
    rw [hticked, hreload]
    have hpos : 0 < 2 ^ s.carrier.prescale.val := Nat.two_pow_pos _
    show (⟨2 ^ s.carrier.prescale.val, false⟩ : Divider).left
      + s.carrier.count.ticksLeft * prescaleSamples s.carrier.count.prescale + 1
        = s.carrier.divider.left + s.carrier.ticksLeft * prescaleSamples s.carrier.prescale
    rw [Carrier.count_prescale, hleft, ← hticks, Nat.add_mul, Nat.one_mul]
    simp only [Divider.left, prescaleSamples, Bool.false_eq_true, if_false]
    omega
  · rw [if_neg fun h => hdue h.2]
    have hleft := Divider.pass_left s.carrier.divider (2 ^ s.carrier.prescale.val) (by simpa using hdue)
    show (s.carrier.divider.pass (2 ^ s.carrier.prescale.val)).left
      + s.carrier.ticksLeft * prescaleSamples s.carrier.prescale + 1
        = s.carrier.divider.left + s.carrier.ticksLeft * prescaleSamples s.carrier.prescale
    omega

/-! ### Rows that name what comes about at a boundary (log entries 4 and 5) -/

theorem State.atBoundary_running {s : State} (hrun : s.carrier.run = .running) (act : State → Option State) :
    s.atBoundary act = ((act (s.samples s.carrier.toBoundary).carrierTickGiven).elim s State.deliver) := by
  simp only [State.atBoundary, hrun]
  cases act (s.samples s.carrier.toBoundary).carrierTickGiven <;> rfl

theorem State.atBoundary_stopped {s : State} (hstop : s.carrier.run = .stopped) (act : State → Option State) :
    s.atBoundary act = s := by
  simp only [State.atBoundary, hstop]

/-- The sample before that of the boundary passes first. -/
theorem letsSamplePass_atBoundary {i : Instr} {act : State → Option State} {s : State}
    (hexec : ∀ t : State, t.Awake → t.carrier.run = .running → exec i t = .next (t.atBoundary act))
    (hact : ∀ t t', act t = some t' → t'.carrier.divider = t.carrier.divider) (hs : s.Awake)
    (hrun : s.carrier.run = .running) (hnot : ¬ s.BoundaryNow) : LetsSamplePass i s := by
  obtain ⟨hlive, hawake, -⟩ := State.sample_awake hs.1
  have hrun' : s.sample.carrier.run = .running := by rw [hlive, State.liveSample_run]; exact hrun
  have hsame : s.samples s.carrier.toBoundary = s.sample.samples s.sample.carrier.toBoundary := by
    rw [← State.sample_toBoundary hs.1 hrun hnot, State.samples_succ]
  have hnow := hexec s hs hrun
  have hthen := hexec s.sample hawake hrun'
  rw [State.atBoundary_running hrun, hsame] at hnow
  rw [State.atBoundary_running hrun'] at hthen
  cases ha : act (s.sample.samples s.sample.carrier.toBoundary).carrierTickGiven with
  | none =>
    rw [ha] at hnow hthen
    exact ⟨fun h => absurd hthen h, fun _ => hnow⟩
  | some t =>
    rw [ha] at hnow hthen
    refine letsSamplePass_of_eq (hnow.trans hthen.symm) fun h => ?_
    have hst : t.deliver = s.sample := Host.Outcome.next.inj (hthen.symm.trans h)
    have hfresh : s.sample.carrier.divider.fresh = false := by
      rw [hlive, State.liveSample_divider hrun]
      exact Divider.pass_fresh ..
    rw [← hst, State.deliver_carrier, hact _ _ ha] at hfresh
    have hfalse : true = false := hfresh
    cases hfalse

theorem State.boundaryWith_divider (s : State) (first : PerLeg Bool) :
    (s.boundaryWith first).carrier.divider = s.carrier.divider :=
  (congrArg Carrier.divider (s.boundaryWith_carrier first) :)

theorem State.boundary_divider (s : State) : s.boundary.carrier.divider = s.carrier.divider :=
  (congrArg Carrier.divider s.boundary_carrier :)

theorem State.escalationBoundary_divider (s : State) (n : Leg) :
    (s.escalationBoundary n).carrier.divider = s.carrier.divider := by
  unfold State.escalationBoundary
  split
  · exact State.boundaryWith_divider ..
  · exact State.boundary_divider _

section
variable {s : State}

theorem exec_periodBoundary_awake (hs : s.Awake) :
    exec .periodBoundary s = .next (s.atBoundary fun t => some t.boundary) :=
  congrArg Host.Outcome.next (State.event_awake hs.1 _)

theorem exec_segmentLengthExpiry_awake (hs : s.Awake) (n : Leg) : exec (.segmentLengthExpiry n) s
    = .next (s.atBoundary fun t => if t.lengthDue n then some t.boundary else none) :=
  congrArg Host.Outcome.next (State.event_awake hs.1 _)

theorem exec_syncBreak_awake (hs : s.Awake) (m : Mark) : exec (.syncBreak m) s
    = .next (s.atBoundary fun t => if t.breaksAt m then some t.boundary else none) :=
  congrArg Host.Outcome.next (State.event_awake hs.1 _)

theorem exec_escalation_awake (hs : s.Awake) (n : Leg) : exec (.escalation n) s
    = .next (s.atBoundary fun t => if (t.leg n).escalates then some (t.escalationBoundary n) else none) :=
  congrArg Host.Outcome.next (State.event_awake hs.1 _)

theorem exec_rearmCompletion_running (hs : s.Awake) (hrun : s.carrier.run = .running) (n : Leg) :
    exec (.rearmCompletion n) s
      = .next (s.atBoundary fun t => if (t.leg n).phase.rearmPending then some t.boundary else none) := by
  refine congrArg Host.Outcome.next ((State.event_awake hs.1 _).trans ?_)
  rw [hrun]

theorem exec_rearmCompletion_stopped (hs : s.Awake) (hstop : s.carrier.run = .stopped) (n : Leg) :
    exec (.rearmCompletion n) s
      = .next (if (s.leg n).phase.rearmPending then (s.completeRearm n).deliver else s) := by
  refine congrArg Host.Outcome.next ((State.event_awake hs.1 _).trans ?_)
  rw [hstop]

/-- PERIOD_BOUNDARY at the sample that brings it. -/
theorem exec_periodBoundary_now (hs : s.Awake) (hnow : s.BoundaryNow) :
    exec .periodBoundary s = .next s.carrierTickGiven.boundary.deliver := by
  rw [exec_periodBoundary_awake hs, State.atBoundary_now hnow]

end

/-- A boundary, or nothing, keeps the divider of the carrier as it finds it. -/
theorem divider_of_boundary_if {c : Bool} {f : State → State} (hf : ∀ t, (f t).carrier.divider = t.carrier.divider)
    {t t' : State} (h : (if c then some (f t) else none) = some t') : t'.carrier.divider = t.carrier.divider := by
  cases c with
  | true => exact Option.some.inj h ▸ hf t
  | false => cases h

section
variable {s : State} (hs : s.Awake) (hrun : s.carrier.run = .running) (hnot : ¬ s.BoundaryNow)
include hs hrun hnot

theorem periodBoundary_letsSamplePass : LetsSamplePass .periodBoundary s :=
  letsSamplePass_atBoundary (fun _ ht _ => exec_periodBoundary_awake ht)
    (fun t _ h => Option.some.inj h ▸ t.boundary_divider) hs hrun hnot

theorem segmentLengthExpiry_letsSamplePass (n : Leg) : LetsSamplePass (.segmentLengthExpiry n) s :=
  letsSamplePass_atBoundary (fun _ ht _ => exec_segmentLengthExpiry_awake ht n)
    (fun _ _ => divider_of_boundary_if State.boundary_divider) hs hrun hnot

theorem syncBreak_letsSamplePass (m : Mark) : LetsSamplePass (.syncBreak m) s :=
  letsSamplePass_atBoundary (fun _ ht _ => exec_syncBreak_awake ht m)
    (fun _ _ => divider_of_boundary_if State.boundary_divider) hs hrun hnot

theorem escalation_letsSamplePass (n : Leg) : LetsSamplePass (.escalation n) s :=
  letsSamplePass_atBoundary (fun _ ht _ => exec_escalation_awake ht n)
    (fun _ _ => divider_of_boundary_if fun t => t.escalationBoundary_divider n) hs hrun hnot

theorem rearmCompletion_letsSamplePass (n : Leg) : LetsSamplePass (.rearmCompletion n) s :=
  letsSamplePass_atBoundary (fun _ ht hr => exec_rearmCompletion_running ht hr n)
    (fun _ _ => divider_of_boundary_if State.boundary_divider) hs hrun hnot

end

end Sys2Proof.Machine
end

section
/-! PROOFS. What a leg raises to the ports at a period boundary: when the Leg Unit takes it, and when the Trip Unit
closes the period (chapters 1, 3 and 7). -/

namespace Sys2Proof.Machine

open Sys2Proof

-- One theorem at a time, as in the tests: proofs that wait for the kernel would each hold a thread.
set_option Elab.async false

/-! ### Notices to the holder, and reports, whatever becomes of the leg -/

/-- A notice of a leg to the holder of its lease (R12). -/
def State.toHolder (s : State) (n : Leg) (body : NoticeBody) (tag : Option Byte) (q : Port) : List Notice :=
  s.toPresent (fun q => (s.lease (.leg n)).holder? == some q) ⟨body, .leg n, tag, s.periodLow⟩ q

section
variable {s s' : State} {n : Leg} (hlease : s'.lease (.leg n) = s.lease (.leg n)) (hports : s'.ports = s.ports)
  (hcarrier : s'.carrier = s.carrier)
include hlease hports hcarrier

theorem State.alikeAt_setLeg : (s.setLeg n (s'.leg n)).AlikeAt s' n :=
  ⟨by simp, by simpa using hlease, hports, hcarrier⟩

theorem State.reportCopies_congr : s'.reportCopies n = s.reportCopies n :=
  (State.alikeAt_setLeg hlease hports hcarrier).reportCopies

theorem State.toHolder_congr (body : NoticeBody) (tag : Option Byte) : s'.toHolder n body tag = s.toHolder n body tag := by
  have halike := State.alikeAt_setLeg hlease hports hcarrier
  funext q
  rw [State.toHolder, halike.toPresent, halike.periodLow, hlease]
  rfl

end

theorem State.AlikeAt.toHolder {s s' : State} {n : Leg} (h : s.AlikeAt s' n) (body : NoticeBody) (tag : Option Byte) :
    s'.toHolder n body tag = s.toHolder n body tag :=
  State.toHolder_congr h.lease h.ports h.carrier body tag

theorem State.toHolder_eq {s : State} {n : Leg} {q : Port} (hholder : (s.lease (.leg n)).holder? = some q)
    (hpresent : (s.port q).presence.level = true) (body : NoticeBody) (tag : Option Byte) :
    s.toHolder n body tag q = [⟨body, .leg n, tag, s.periodLow⟩] := by
  simp [State.toHolder, State.toPresent, hholder, hpresent]

theorem State.toHolder_other {s : State} {n : Leg} {q : Port} (hholder : (s.lease (.leg n)).holder? ≠ some q)
    (body : NoticeBody) (tag : Option Byte) : s.toHolder n body tag q = [] := by
  simp [State.toHolder, State.toPresent, hholder]

theorem State.toHolder_length (s : State) (n : Leg) (body : NoticeBody) (tag : Option Byte) (q : Port) :
    (s.toHolder n body tag q).length ≤ 1 := State.toPresent_length ..

theorem State.mem_toHolder {s : State} {n : Leg} {body : NoticeBody} {tag : Option Byte} {q : Port} {x : Notice}
    (h : x ∈ s.toHolder n body tag q) : x = ⟨body, .leg n, tag, s.periodLow⟩ := by
  unfold State.toHolder State.toPresent at h
  split at h
  · exact List.mem_singleton.mp h
  · cases h

/-- A lease that is not RELEASING does not pass on by a report (R98). -/
theorem State.reportCopies_quiet {s : State} {n : Leg} (h : (s.lease (.leg n)).phase ≠ .releasing) (q : Port) :
    s.reportCopies n q = [] := if_neg h

theorem Lease.phase_of_holder {l : Lease} {q : Port} (h : l.holder? = some q) : l.phase ≠ .releasing := fun hp => by
  simp [Lease.holder?, hp] at h

theorem Lease.holder_of_releasing {l : Lease} (h : l.phase = .releasing) : l.holder? = none := by
  simp [Lease.holder?, h]

/-- What a report raises is LEASE_GRANTED (R100). -/
theorem State.mem_reportCopies {s : State} {n : Leg} {q : Port} {x : Notice} (h : x ∈ s.reportCopies n q) :
    ∃ gen interval, x.body = .leaseGranted gen interval := by
  unfold State.reportCopies State.grantCopies State.toPresent at h
  split at h
  · split at h
    · cases h
    · split at h
      · exact ⟨_, _, by rw [List.mem_singleton.mp h]⟩
      · cases h
  · cases h

/-! ### The Leg Unit takes a boundary (R8, R9, R49) -/

/-- What a leg raises that goes IDLE at a boundary: its report, if it comes from RUNNING or HOLDING (R21). -/
def State.idleCopies (s : State) (n : Leg) (q : Port) : List Notice :=
  if reportsIdle (s.leg n).phase then s.reportCopies n q else []

theorem State.actsOn_goIdle (s : State) (n : Leg) : s.ActsOn (s.goIdle n) n (s.idleCopies n) := by
  unfold State.goIdle State.idleCopies
  dsimp only
  cases reportsIdle (s.leg n).phase with
  | false => exact s.actsOn_changeLeg n _
  | true => exact (s.actsOn_changeLeg n _).trans ((s.changeLeg n _).actsOn_legReport n)

/-- What the head of the queue raises for a leg that has no active segment going on (R5, R9, R49). -/
def State.followCopies (s : State) (n : Leg) (ended : Option (Active × EndReason)) (answer : Option SyncAnswer)
    (q : Port) : List Notice :=
  match (s.leg n).queue with
  | [] =>
    match ended with
    | some (a, reason) =>
      (if a.seg.final = true ∨ reason = .lease then [] else s.toHolder n (.underrun a.seg.gen) (some a.seg.tag) q)
        ++ s.idleCopies n q
    | none => s.idleCopies n q
  | head :: rest =>
    match head.sync, answer with
    | none, _ | some _, some .advance =>
      if asksStart head.notify then s.toHolder n (.segmentStart head.gen rest.length) (some head.tag) q else []
    | some f, some .brk =>
      s.toHolder n (.syncBroken f.mark head.gen (s.leg n).queue.length) (some head.tag) q ++ s.idleCopies n q
    | some _, some .hold | some _, none => []

theorem State.actsOn_activate (s : State) (n : Leg) (head : Segment) (rest : List Segment) :
    s.ActsOn (s.activate n head rest) n fun q =>
      if asksStart head.notify then s.toHolder n (.segmentStart head.gen rest.length) (some head.tag) q else [] := by
  unfold State.activate
  dsimp only
  cases asksStart head.notify with
  | false => exact s.actsOn_changeLeg n _
  | true => exact (s.actsOn_changeLeg n _).trans ((s.changeLeg n _).actsOn_postLeg n _ _)

theorem State.actsOn_breakLeg (s : State) (n : Leg) (head : Segment) (f : SyncField) :
    s.ActsOn (s.breakLeg n head f) n fun q =>
      s.toHolder n (.syncBroken f.mark head.gen (s.leg n).queue.length) (some head.tag) q ++ s.idleCopies n q := by
  refine (((s.actsOn_updLeg n _).trans (State.actsOn_postLeg _ n _ _)).trans (State.actsOn_goIdle _ n)).raisesAs ?_
  funext q
  rw [List.nil_append, State.idleCopies, State.idleCopies]
  simp only [State.postLeg, State.post_leg, State.updLeg_leg, if_true]
  rfl

theorem State.actsOn_follow (s : State) (n : Leg) (ended : Option (Active × EndReason)) (answer : Option SyncAnswer) :
    s.ActsOn (s.follow n ended answer) n (s.followCopies n ended answer) := by
  unfold State.followCopies
  cases hq : (s.leg n).queue with
  | nil =>
    cases ended with
    | none =>
      simp only [State.follow, hq]
      cases hr : reportsIdle (s.leg n).phase with
      | true => exact s.actsOn_goIdle n
      | false => exact (State.ActsOn.refl s n).raisesAs (by funext q; rw [State.idleCopies, hr]; rfl)
    | some e =>
      obtain ⟨a, reason⟩ := e
      simp only [State.follow, hq]
      by_cases hquiet : a.seg.final = true ∨ reason = .lease
      · simp only [hquiet, if_true, List.nil_append]
        exact s.actsOn_goIdle n
      · simp only [hquiet, if_false]
        exact (s.actsOn_postLeg n _ _).trans (State.actsOn_goIdle _ n)
  | cons head rest =>
    cases hsync : head.sync with
    | none =>
      simp only [State.follow, hq, hsync]
      exact s.actsOn_activate n head rest
    | some f =>
      rcases answer with _ | _ | _ | _ <;> simp only [State.follow, hq, hsync]
      · exact State.ActsOn.refl s n
      · exact s.actsOn_activate n head rest
      · exact s.actsOn_changeLeg n _
      · exact (s.actsOn_breakLeg n head f).raisesAs (by rw [hq])

/-- What a leg raises that takes a boundary (R8, R9, R49). -/
def State.takeCopies (s : State) (n : Leg) (answer : Option SyncAnswer) (q : Port) : List Notice :=
  match (s.leg n).phase with
  | .tripped _ => []
  | .running a =>
    match a.age.endReason (s.leg n).queue.length with
    | none => []
    | some reason =>
      (if asksEnd a.seg.notify then
          s.toHolder n (.segmentEnd a.seg.gen reason a.age.elapsed) (some a.seg.tag) q else [])
        ++ s.followCopies n (some (a.age, reason)) answer q
  | .idle | .holding _ => s.followCopies n none answer q

/-- What the head raises depends on the leg by its queue, and by whether it reports. -/
theorem State.followCopies_congr {s s' : State} {n : Leg} (hqueue : (s'.leg n).queue = (s.leg n).queue)
    (hreports : reportsIdle (s'.leg n).phase = reportsIdle (s.leg n).phase)
    (hlease : s'.lease (.leg n) = s.lease (.leg n)) (hports : s'.ports = s.ports) (hcarrier : s'.carrier = s.carrier)
    (ended : Option (Active × EndReason)) (answer : Option SyncAnswer) :
    s'.followCopies n ended answer = s.followCopies n ended answer := by
  funext q
  unfold State.followCopies State.idleCopies
  rw [hqueue, hreports, State.reportCopies_congr hlease hports hcarrier]
  simp only [State.toHolder_congr hlease hports hcarrier]

theorem State.AlikeAt.takeCopies {s s' : State} {n : Leg} (h : s.AlikeAt s' n) (answer : Option SyncAnswer) :
    s'.takeCopies n answer = s.takeCopies n answer := by
  funext q
  unfold State.takeCopies
  rw [h.leg]
  simp only [h.toHolder, State.followCopies_congr (congrArg LegUnit.queue h.leg)
    (congrArg (fun u : LegUnit => reportsIdle u.phase) h.leg) h.lease h.ports h.carrier]

theorem State.actsOn_postEnd (s : State) (n : Leg) (a : Active) (reason : EndReason) :
    s.ActsOn (s.postEnd n a reason) n fun q =>
      if asksEnd a.seg.notify then s.toHolder n (.segmentEnd a.seg.gen reason a.elapsed) (some a.seg.tag) q else [] := by
  unfold State.postEnd
  cases asksEnd a.seg.notify with
  | false => exact State.ActsOn.refl s n
  | true => exact s.actsOn_postLeg n _ _

theorem State.actsOn_takeBoundary (s : State) (n : Leg) (answer : Option SyncAnswer) :
    s.ActsOn (s.takeBoundary n answer) n (s.takeCopies n answer) := by
  unfold State.takeBoundary State.takeCopies
  cases hp : (s.leg n).phase with
  | tripped rec => exact State.ActsOn.refl s n
  | idle | holding _ => exact s.actsOn_follow n none answer
  | running a =>
    dsimp only
    have haged := s.actsOn_updLeg n fun u => { u with phase := .running a.age }
    set s' := s.updLeg n fun u => { u with phase := .running a.age } with hs'
    have hqueue : (s'.leg n).queue = (s.leg n).queue := by simp [hs']
    have hreports : reportsIdle (s'.leg n).phase = reportsIdle (s.leg n).phase := by simp [hs', hp, reportsIdle]
    cases hend : a.age.endReason (s.leg n).queue.length with
    | none => exact haged
    | some reason =>
      refine ((haged.trans (s'.actsOn_postEnd n a.age reason)).trans (State.actsOn_follow _ n _ answer)).raisesAs ?_
      funext q
      rw [State.followCopies_congr (s := s) (s' := s'.postEnd n a.age reason) (by simp [hqueue]) (by simp [hreports])
        (by simp [hs']) (by simp [hs']) (by simp [hs'])]
      rfl

/-! ### The Trip Unit closes the period (R115, R119, R122) -/

/-- What the close of a period raises of a leg (R115, R119, R122). -/
def State.closeCopies (s : State) (n : Leg) (before : LegUnit) (q : Port) : List Notice :=
  match (s.leg n).phase with
  | .tripped _ => s.rearmCopies n q
  | .idle => []
  | .running _ | .holding _ =>
    if before.escalates then s.tripCopies n .escalated q
    else if (s.leg n).cutAfter before s.trip.trip0.level = true ∧ before.limited = false ∧ before.closedRun = 0 then
      s.limitCopies n q
    else []

theorem State.AlikeAt.closeCopies {s s' : State} {n : Leg} (h : s.AlikeAt s' n) (htrip : s'.trip = s.trip)
    (before : LegUnit) : s'.closeCopies n before = s.closeCopies n before := by
  funext q
  unfold State.closeCopies
  rw [h.leg, htrip, h.rearmCopies, h.tripCopies, h.limitCopies]

theorem State.actsOn_escalate (s : State) (n : Leg) (run : Nat) :
    s.ActsOn (s.escalate n run) n (s.causeCopies n .escalated) := by
  refine ((s.actsOn_updLeg n _).trans (State.actsOn_causeArises _ n .escalated)).raisesAs ?_
  funext q
  have hreport : (s.updLeg n fun u => { u with runCount := run }).reportCopies n = s.reportCopies n := rfl
  have hhears : (s.updLeg n fun u => { u with runCount := run }).hearsTripOf n = s.hearsTripOf n := rfl
  rw [State.causeCopies, State.tripCopies, hreport, hhears]
  simp only [State.updLeg_leg, if_true]
  rfl

theorem State.actsOn_closePeriod (s : State) (n : Leg) (before : LegUnit) :
    s.ActsOn (s.closePeriod n before) n (s.closeCopies n before) := by
  unfold State.closePeriod State.closeCopies
  dsimp only
  cases hp : (s.leg n).phase with
  | tripped rec => exact s.actsOn_completeIfPending n
  | idle => exact s.actsOn_changeLeg n _
  | running _ | holding _ =>
    dsimp only
    cases he : before.escalates with
    | true =>
      refine (s.actsOn_escalate n before.closedRun).raisesAs ?_
      funext q
      rw [State.causeCopies, hp]
      rfl
    | false =>
      simp only [Bool.false_eq_true, if_false]
      split
      · next hlimit =>
        refine State.ActsOn.raisesAs (State.actsOn_limited s n ?_ ?_) ?_
        · exact fun _ => rfl
        · exact fun _ => rfl
        · funext q
          exact (if_pos hlimit).symm
      · next hlimit =>
        refine (s.actsOn_changeLeg n _).raisesAs ?_
        funext q
        exact (if_neg hlimit).symm

end Sys2Proof.Machine
end

section
/-! PROOFS. A period boundary leg by leg: the escalations taken first, the Leg Units, and the Trip Unit (chapters 1, 3
and 7). -/

namespace Sys2Proof.Machine

open Sys2Proof

-- One theorem at a time, as in the tests: proofs that wait for the kernel would each hold a thread.
set_option Elab.async false

/-! ### The stages of a boundary -/

/-- The part at a boundary after the escalations that are taken before the legs take it (R120). -/
def State.beforeLegs (s : State) (first : PerLeg Bool) : State := (s.setCarrier s.carrier.boundary).escalateEarly first

/-- What the legs offer at a boundary (R45). -/
def State.offers (s : State) : PerLeg (Option SyncField) := .ofFn fun n => (s.leg n).offer

/-- The part after the legs have taken a boundary with the Sync Unit's answers (R45). -/
def State.afterLegs (s : State) : State := s.legsTake (.ofFn fun n => s.syncAnswer s.offers n)

theorem State.boundaryWith_eq (s : State) (first : PerLeg Bool) : s.boundaryWith first
    = (((s.beforeLegs first).afterLegs.syncBoundary (s.beforeLegs first).offers).tripUnitTakes s.legs).settleAll := rfl

/-- What happens to each leg in turn raises, of each, what it raises at the start. -/
theorem foldl_actsOn_copies {f : State → Leg → State} {raised : State → Leg → Port → List Notice}
    (h : ∀ (s : State) (k : Leg), s.ActsOn (f s k) k (raised s k))
    (halike : ∀ {s s' : State} {k : Leg}, s.AlikeAt s' k → s'.trip = s.trip → raised s' k = raised s k) (s : State)
    (n : Leg) (q : Port) : (Leg.all.foldl f s).legCopies n q = s.legCopies n q ++ raised s n q := by
  obtain ⟨s', hs', hview⟩ := (foldl_actsOn h s).1 n
  obtain ⟨-, -, hcopies, -, -, htrip⟩ := State.legView_iff.mp hs'
  obtain ⟨-, -, hcopies', -⟩ := State.legView_iff.mp hview
  rw [hcopies', State.ActsOn.copies (h s' n), if_pos rfl, hcopies, halike (State.alikeAt_of_legView hs') htrip]

section
variable (s : State) (first : PerLeg Bool)

/-- What an escalation that is taken first raises (R115, R120). -/
def State.earlyCopies (n : Leg) (q : Port) : List Notice :=
  if first.get n then (s.setCarrier s.carrier.boundary).causeCopies n .escalated q else []

theorem State.actsOn_early (k : Leg) :
    s.ActsOn (if first.get k then s.escalate k (s.leg k).closedRun else s) k fun q =>
      if first.get k then s.causeCopies k .escalated q else [] := by
  cases first.get k with
  | true => exact s.actsOn_escalate k _
  | false => exact State.ActsOn.refl s k

theorem State.beforeLegs_frame : (s.beforeLegs first).ports = s.ports
    ∧ (s.beforeLegs first).carrier = s.carrier.boundary ∧ (s.beforeLegs first).trip = s.trip
    ∧ (s.FromLegs → (s.beforeLegs first).FromLegs)
    ∧ ∀ r, (∀ n, r ≠ .leg n) → (s.beforeLegs first).lease r = s.lease r := by
  obtain ⟨-, hfrom, hlease, hports, hcarrier, htrip⟩ :=
    foldl_actsOn (fun s k => s.actsOn_early first k) (s.setCarrier s.carrier.boundary)
  exact ⟨hports, hcarrier, htrip, hfrom, hlease⟩

theorem State.beforeLegs_copies (n : Leg) (q : Port) :
    (s.beforeLegs first).legCopies n q = s.legCopies n q ++ s.earlyCopies first n q :=
  foldl_actsOn_copies (fun s k => s.actsOn_early first k)
    (fun halike _ => by
      funext q
      rw [halike.causeCopies]) (s.setCarrier s.carrier.boundary) n q

theorem State.beforeLegs_leg (n : Leg) : (s.beforeLegs first).leg n
    = if first.get n then (s.leg n).escalated (s.leg n).closedRun s.carrier.boundary.period s.carrier.boundary.counter
      else s.leg n := by
  obtain ⟨s', hs', hview⟩ := (foldl_actsOn (fun s k => s.actsOn_early first k) (s.setCarrier s.carrier.boundary)).1 n
  obtain ⟨hleg, -, -, -, hcarrier, -⟩ := State.legView_iff.mp hs'
  obtain ⟨hleg', -⟩ := State.legView_iff.mp hview
  refine hleg'.trans ?_
  split
  · rw [State.escalate_leg, if_pos rfl, hleg, hcarrier]
    rfl
  · exact hleg

theorem State.beforeLegs_lease (n : Leg) : (s.beforeLegs first).lease (.leg n)
    = if first.get n = true ∧ (s.leg n).phase.isTripped = false then (s.lease (.leg n)).reported
      else s.lease (.leg n) := by
  obtain ⟨s', hs', hview⟩ := (foldl_actsOn (fun s k => s.actsOn_early first k) (s.setCarrier s.carrier.boundary)).1 n
  obtain ⟨hleg, hlease, -⟩ := State.legView_iff.mp hs'
  obtain ⟨-, hlease', -⟩ := State.legView_iff.mp hview
  refine hlease'.trans ?_
  cases first.get n with
  | true =>
    simp only [if_true, true_and]
    rw [State.escalate_lease, hlease, hleg]
    simp only [true_and]
    rfl
  | false => simpa using hlease

end

section
variable (s : State)

theorem State.afterLegs_frame : s.afterLegs.ports = s.ports ∧ s.afterLegs.carrier = s.carrier
    ∧ s.afterLegs.trip = s.trip ∧ (s.FromLegs → s.afterLegs.FromLegs)
    ∧ ∀ r, (∀ n, r ≠ .leg n) → s.afterLegs.lease r = s.lease r := by
  obtain ⟨-, hfrom, hlease, hports, hcarrier, htrip⟩ := foldl_actsOn (fun t k => t.actsOn_takeBoundary k
    ((PerLeg.ofFn fun n => s.syncAnswer s.offers n).get k)) s
  exact ⟨hports, hcarrier, htrip, hfrom, hlease⟩

theorem State.afterLegs_leg (n : Leg) :
    s.afterLegs.leg n = (s.leg n).taken (s.syncAnswer s.offers n) s.carrier.counter := by
  rw [State.afterLegs, State.legsTake_leg, PerLeg.get_ofFn]

theorem State.afterLegs_copies (n : Leg) (q : Port) :
    s.afterLegs.legCopies n q = s.legCopies n q ++ s.takeCopies n (s.syncAnswer s.offers n) q := by
  refine (foldl_actsOn_copies (fun t k => t.actsOn_takeBoundary k
    ((PerLeg.ofFn fun n => s.syncAnswer s.offers n).get k)) (fun halike _ => halike.takeCopies _) s n q).trans ?_
  rw [PerLeg.get_ofFn]

theorem State.afterLegs_lease (n : Leg) : s.afterLegs.lease (.leg n)
    = if (s.leg n).reports (s.afterLegs.leg n) then (s.lease (.leg n)).reported else s.lease (.leg n) := by
  obtain ⟨s', hs', hview⟩ := (foldl_actsOn (fun t k => t.actsOn_takeBoundary k
    ((PerLeg.ofFn fun n => s.syncAnswer s.offers n).get k)) s).1 n
  obtain ⟨hleg, hlease, -, -, hcarrier, -⟩ := State.legView_iff.mp hs'
  obtain ⟨-, hlease', -⟩ := State.legView_iff.mp hview
  refine hlease'.trans ?_
  rw [State.takeBoundary_lease, hlease, hleg, hcarrier, PerLeg.get_ofFn, State.afterLegs_leg]
  simp only [true_and]

end

section
variable (s : State) (first : PerLeg Bool)

/-- The state in which the Trip Unit finds the part at a boundary: the legs, their leases and what they have raised. -/
theorem State.boundaryWith_closes : ∃ x : State, (s.boundaryWith first).outbox = (x.tripUnitTakes s.legs).outbox
    ∧ (∀ n, (s.boundaryWith first).leg n = ((x.tripUnitTakes s.legs).leg n).settle s.carrier.boundary.counter)
    ∧ (∀ r, (s.boundaryWith first).lease r = (x.tripUnitTakes s.legs).lease r)
    ∧ ∀ n, x.legView n = (s.beforeLegs first).afterLegs.legView n := by
  refine ⟨(s.beforeLegs first).afterLegs.syncBoundary (s.beforeLegs first).offers, rfl, fun n => ?_, fun _ => rfl,
    fun n => rfl⟩
  rw [State.boundaryWith_eq, State.settleAll_leg]
  refine congrArg (LegUnit.settle _) (congrArg Carrier.counter ?_)
  obtain ⟨-, -, -, -, hcarrier, -⟩ := foldl_actsOn (fun t k => t.actsOn_closePeriod k (s.legs.get k))
    ((s.beforeLegs first).afterLegs.syncBoundary (s.beforeLegs first).offers)
  exact hcarrier.trans (((s.beforeLegs first).afterLegs_frame).2.1.trans (s.beforeLegs_frame first).2.1)

theorem State.boundaryWith_leg (n : Leg) : (s.boundaryWith first).leg n
    = (((s.beforeLegs first).afterLegs.leg n).closed (s.leg n) s.trip.trip0.level s.carrier.boundary.period
        s.carrier.boundary.counter).settle s.carrier.boundary.counter := by
  obtain ⟨x, -, hlegs, -, hx⟩ := s.boundaryWith_closes first
  obtain ⟨s', hs', hview⟩ := (foldl_actsOn (fun t k => t.actsOn_closePeriod k (s.legs.get k)) x).1 n
  obtain ⟨hleg, -, -, -, hcarrier, htrip⟩ := State.legView_iff.mp (hs'.trans (hx n))
  obtain ⟨hleg', -⟩ := State.legView_iff.mp hview
  obtain ⟨-, hcarrier1, htrip1, -⟩ := s.beforeLegs_frame first
  obtain ⟨-, hcarrier2, htrip2, -⟩ := (s.beforeLegs first).afterLegs_frame
  rw [hlegs]
  refine congrArg (LegUnit.settle · _) (hleg'.trans ?_)
  rw [State.closePeriod_leg, if_pos rfl, hleg, hcarrier, htrip, hcarrier2, hcarrier1, htrip2, htrip1]
  rfl

theorem State.boundaryWith_lease (n : Leg) : (s.boundaryWith first).lease (.leg n)
    = if ((s.beforeLegs first).afterLegs.leg n).phase.driving = true ∧ (s.leg n).escalates = true then
        ((s.beforeLegs first).afterLegs.lease (.leg n)).reported
      else (s.beforeLegs first).afterLegs.lease (.leg n) := by
  obtain ⟨x, -, -, hleases, hx⟩ := s.boundaryWith_closes first
  obtain ⟨s', hs', hview⟩ := (foldl_actsOn (fun t k => t.actsOn_closePeriod k (s.legs.get k)) x).1 n
  obtain ⟨hleg, hlease, -⟩ := State.legView_iff.mp (hs'.trans (hx n))
  obtain ⟨-, hlease', -⟩ := State.legView_iff.mp hview
  rw [hleases]
  refine hlease'.trans ?_
  rw [State.closePeriod_lease, hleg, hlease]
  simp only [true_and]
  rfl

theorem State.boundaryWith_lease_other {r : Resource} (hr : ∀ n, r ≠ .leg n) :
    (s.boundaryWith first).lease r = s.lease r := by
  have hclosed := (foldl_actsOn (fun t k => t.actsOn_closePeriod k (s.legs.get k))
    ((s.beforeLegs first).afterLegs.syncBoundary (s.beforeLegs first).offers)).2.2.1 r hr
  exact hclosed.trans ((((s.beforeLegs first).afterLegs_frame).2.2.2.2 r hr).trans
    ((s.beforeLegs_frame first).2.2.2.2 r hr))

/-- What a boundary raises of a leg: an escalation that is taken first, what the Leg Unit raises, and what the close of
the period does. -/
theorem State.boundaryWith_copies {s : State} (hquiet : s.Quiet) (first : PerLeg Bool) (n : Leg) (q : Port) :
    (s.boundaryWith first).legCopies n q = s.earlyCopies first n q
      ++ (s.beforeLegs first).takeCopies n ((s.beforeLegs first).syncAnswer (s.beforeLegs first).offers n) q
      ++ (s.beforeLegs first).afterLegs.closeCopies n (s.leg n) q := by
  obtain ⟨x, houtbox, -, -, hx⟩ := s.boundaryWith_closes first
  obtain ⟨-, -, hcopies, -, -, htrip⟩ := State.legView_iff.mp (hx n)
  rw [State.legCopies_congr houtbox]
  refine (foldl_actsOn_copies (fun t k => t.actsOn_closePeriod k (s.legs.get k))
    (fun halike htrip => halike.closeCopies htrip _) x n q).trans ?_
  rw [hcopies, (State.alikeAt_of_legView (hx n)).closeCopies htrip, State.afterLegs_copies, State.beforeLegs_copies,
    State.legCopies_quiet hquiet, List.nil_append]
  rfl

theorem State.boundaryWith_fromLegs {s : State} (hquiet : s.Quiet) (first : PerLeg Bool) :
    (s.boundaryWith first).FromLegs := by
  have hafter := (s.beforeLegs first).afterLegs_frame.2.2.2.1
    ((s.beforeLegs_frame first).2.2.2.1 (State.fromLegs_of_quiet hquiet))
  exact (foldl_actsOn (fun t k => t.actsOn_closePeriod k (s.legs.get k))
    ((s.beforeLegs first).afterLegs.syncBoundary (s.beforeLegs first).offers)).2.1 hafter

end

/-! ### How many notices a leg raises at a boundary -/

theorem State.idleCopies_length (s : State) (n : Leg) (q : Port) :
    (s.idleCopies n q).length ≤ (s.reportCopies n q).length := by
  unfold State.idleCopies
  split <;> simp

theorem State.followCopies_length (s : State) (n : Leg) (ended : Option (Active × EndReason))
    (answer : Option SyncAnswer) (q : Port) :
    (s.followCopies n ended answer q).length
      ≤ (if (s.lease (.leg n)).holder? = some q then 1 else 0) + (s.reportCopies n q).length := by
  have hholder : ∀ body tag, (s.toHolder n body tag q).length
      ≤ if (s.lease (.leg n)).holder? = some q then 1 else 0 := fun body tag => by
    split
    · exact s.toHolder_length ..
    · next h => rw [State.toHolder_other h]; exact Nat.zero_le _
  have hidle := s.idleCopies_length n q
  unfold State.followCopies
  split
  · split
    · next a reason =>
      have hunderrun := hholder (.underrun a.seg.gen) (some a.seg.tag)
      rw [List.length_append]
      split
      · rw [List.length_nil]
        omega
      · omega
    · omega
  · split
    iterate 2
      split
      · exact (hholder _ _).trans (Nat.le_add_right ..)
      · exact Nat.zero_le _
    · next f _ head _ _ =>
      rw [List.length_append]
      exact Nat.add_le_add (hholder _ _) hidle
    all_goals exact Nat.zero_le _

/-- A HELD lease is not RELEASING: its holder hears of the segments, and nobody of a grant. -/
theorem State.holder_or_report (s : State) (n : Leg) (q : Port) :
    2 * (if (s.lease (.leg n)).holder? = some q then 1 else 0) + (s.reportCopies n q).length
      ≤ (if (s.lease (.leg n)).phase = .releasing then 1 else 2) := by
  by_cases h : (s.lease (.leg n)).phase = .releasing
  · rw [Lease.holder_of_releasing h, if_neg (by simp), if_pos h]
    simpa using s.reportCopies_length n q
  · rw [State.reportCopies_quiet h, if_neg h]
    split <;> simp

theorem State.takeCopies_length (s : State) (n : Leg) (answer : Option SyncAnswer) (q : Port) :
    (s.takeCopies n answer q).length ≤ if (s.lease (.leg n)).phase = .releasing then 1 else 2 := by
  have hboth := s.holder_or_report n q
  have hfollow := fun ended => s.followCopies_length n ended answer q
  unfold State.takeCopies
  split
  · exact Nat.zero_le _
  · next a _ =>
    split
    · exact Nat.zero_le _
    · next reason _ =>
      have hend : (if asksEnd a.seg.notify then
          s.toHolder n (.segmentEnd a.seg.gen reason a.age.elapsed) (some a.seg.tag) q else []).length
            ≤ if (s.lease (.leg n)).holder? = some q then 1 else 0 := by
        split
        · split
          · exact s.toHolder_length ..
          · next h => rw [State.toHolder_other h]; exact Nat.zero_le _
        · exact Nat.zero_le _
      have hrest := hfollow (some (a.age, reason))
      rw [List.length_append]
      omega
  all_goals
    have hrest := hfollow none
    omega

theorem State.closeCopies_length (s : State) (n : Leg) (before : LegUnit) (q : Port) :
    (s.closeCopies n before q).length ≤ 1 + (s.reportCopies n q).length := by
  unfold State.closeCopies
  split
  · exact (s.rearmCopies_length n q).trans (Nat.le_add_right ..)
  · exact Nat.zero_le _
  all_goals
    split
    · have hnotice := s.toPresent_length (s.hearsTripOf n) ((s.leg n).tripNotice n .escalated s.periodLow) q
      rw [State.tripCopies, List.length_append]
      omega
    · split
      · exact (State.limitCopies_length ..).trans (Nat.le_add_right ..)
      · exact Nat.zero_le _

theorem State.takeCopies_tripped {s : State} {n : Leg} (h : (s.leg n).phase.isTripped = true)
    (answer : Option SyncAnswer) (q : Port) : s.takeCopies n answer q = [] := by
  obtain ⟨rec, hrec⟩ := (LegPhase.isTripped_iff _).mp h
  unfold State.takeCopies
  rw [hrec]

theorem State.closeCopies_tripped_length {s : State} {n : Leg} (h : (s.leg n).phase.isTripped = true) (before : LegUnit)
    (q : Port) : (s.closeCopies n before q).length ≤ 1 := by
  obtain ⟨rec, hrec⟩ := (LegPhase.isTripped_iff _).mp h
  unfold State.closeCopies
  rw [hrec]
  exact s.rearmCopies_length n q

theorem LegUnit.escalated_tripped (u : LegUnit) (run : Nat) (period : Dword) (counter : Nat) :
    (u.escalated run period counter).phase.isTripped = true := by
  unfold LegUnit.escalated LegUnit.caused
  split <;> rfl

theorem LegUnit.taken_tripped {u : LegUnit} (h : u.phase.isTripped = true) (answer : Option SyncAnswer) (counter : Nat) :
    u.taken answer counter = u := by
  obtain ⟨rec, hrec⟩ := (LegPhase.isTripped_iff _).mp h
  unfold LegUnit.taken
  rw [hrec]

theorem State.boundaryWith_copies_length {s : State} (hquiet : s.Quiet) (first : PerLeg Bool) (n : Leg) (q : Port) :
    ((s.boundaryWith first).legCopies n q).length ≤ 3 := by
  rw [State.boundaryWith_copies hquiet, List.length_append, List.length_append, State.earlyCopies]
  set s1 := s.beforeLegs first with hs1
  have hleg := s.beforeLegs_leg first n
  cases hf : first.get n with
  | true =>
    rw [if_pos hf, ← hs1] at hleg
    have htripped : (s1.leg n).phase.isTripped = true := hleg ▸ LegUnit.escalated_tripped ..
    have hafter : (s1.afterLegs.leg n).phase.isTripped = true := by
      rw [State.afterLegs_leg, LegUnit.taken_tripped htripped]
      exact htripped
    have hearly := (s.setCarrier s.carrier.boundary).causeCopies_length n .escalated q
    have hclose := State.closeCopies_tripped_length hafter (s.leg n) q
    rw [State.takeCopies_tripped htripped]
    simp only [if_true, List.length_nil]
    omega
  | false =>
    have htake := s1.takeCopies_length n (s1.syncAnswer s1.offers n) q
    have hclose := s1.afterLegs.closeCopies_length n (s.leg n) q
    have hreport := s1.afterLegs.reportCopies_length n q
    simp only [Bool.false_eq_true, if_false, List.length_nil]
    by_cases hr : (s1.lease (.leg n)).phase = .releasing
    · rw [if_pos hr] at htake
      omega
    · have hlease : s1.afterLegs.lease (.leg n) = s1.lease (.leg n) := by
        rw [State.afterLegs_lease, Lease.reported, if_neg hr, ite_self]
      rw [if_neg hr] at htake
      rw [State.reportCopies_quiet (s := s1.afterLegs) (by rw [hlease]; exact hr)] at hclose
      rw [List.length_nil] at hclose
      omega

end Sys2Proof.Machine
end

section
/-! PROOFS. What a boundary makes of a leg that does not escalate (chapter 1), and the row PERIOD_BOUNDARY at the sample
that brings the boundary. -/

namespace Sys2Proof.Machine

open Sys2Proof

-- One theorem at a time, as in the tests: proofs that wait for the kernel would each hold a thread.
set_option Elab.async false

/-! ### The end test (R7, R8) -/

theorem Active.endReason_none {a : Active} {k : Nat} (h : ¬ a.Ends k) : a.age.endReason k = none :=
  Option.not_isSome_iff_eq_none.mp (mt (a.endReason_isSome k).mp h)

theorem Active.endReason_some {a : Active} {k : Nat} (h : a.Ends k) : ∃ reason, a.age.endReason k = some reason :=
  Option.isSome_iff_exists.mp ((a.endReason_isSome k).mpr h)

/-- A leg offers a sync field exactly when it is ready for it (R44, R45). -/
theorem LegUnit.offer_eq_some (u : LegUnit) (f : SyncField) : u.offer = some f ↔ u.ReadyFor f := by
  unfold LegUnit.offer LegUnit.ReadyFor LegUnit.Free
  cases hp : u.phase with
  | tripped _ => simp
  | idle | holding _ => simp
  | running a =>
    dsimp only
    rw [← a.endReason_isSome u.queue.length]
    split
    · next h => simp [h]
    · next h => simp [h]

/-! ### A leg that takes a boundary (R7, R9 to R11, R46 to R49) -/

theorem LegUnit.taken_goesOn {u : LegUnit} {a : Active} (hp : u.phase = .running a) (h : ¬ a.Ends u.queue.length)
    (answer : Option SyncAnswer) (counter : Nat) : u.taken answer counter = { u with phase := .running a.age } := by
  unfold LegUnit.taken
  rw [hp]
  dsimp only
  rw [Active.endReason_none h]

/-- The leg as what follows finds it: with the active segment that ended there, aged. -/
def LegUnit.agedAt (u : LegUnit) : LegUnit :=
  match u.phase with
  | .running a => { u with phase := .running a.age }
  | .idle | .holding _ | .tripped _ => u

theorem LegUnit.agedAt_frame (u : LegUnit) : u.agedAt.queue = u.queue ∧ u.agedAt.config = u.config
    ∧ u.agedAt.tripCount = u.tripCount ∧ u.agedAt.stage = u.stage ∧ reportsIdle u.agedAt.phase = reportsIdle u.phase
    ∧ heldAfter u.agedAt.phase = heldAfter u.phase ∧ (u.agedAt.phase = .idle ↔ u.phase = .idle) := by
  unfold LegUnit.agedAt
  cases hp : u.phase <;> simp [hp, reportsIdle, heldAfter, Active.age]

theorem LegUnit.taken_free {u : LegUnit} (h : u.Free) (answer : Option SyncAnswer) (counter : Nat) :
    u.taken answer counter = u.agedAt.followed answer counter := by
  unfold LegUnit.taken LegUnit.agedAt
  cases hp : u.phase with
  | tripped _ => exact absurd h (by simp [LegUnit.Free, hp])
  | idle | holding _ => rfl
  | running a =>
    have hends : a.Ends u.queue.length := by simpa [LegUnit.Free, hp] using h
    obtain ⟨reason, hreason⟩ := Active.endReason_some hends
    simp only [hreason]

theorem LegUnit.followed_advances {u : LegUnit} {head : Segment} {rest : List Segment} (hq : u.queue = head :: rest)
    {answer : Option SyncAnswer} (h : head.sync = none ∨ answer = some .advance) (counter : Nat) :
    u.followed answer counter
      = { u with phase := .running ⟨head, 0, false, .none⟩, queue := rest }.settle counter := by
  unfold LegUnit.followed
  rw [hq]
  rcases h with hsync | rfl
  · simp only [hsync]
  · cases hsync : head.sync <;> simp only [hsync]

theorem LegUnit.followed_holds {u : LegUnit} {head : Segment} {rest : List Segment} (hq : u.queue = head :: rest)
    {f : SyncField} (hsync : head.sync = some f) (counter : Nat) :
    u.followed (some .hold) counter = { u with phase := .holding (heldAfter u.phase) }.settle counter := by
  unfold LegUnit.followed
  rw [hq]
  simp only [hsync]

theorem LegUnit.followed_breaks {u : LegUnit} {head : Segment} {rest : List Segment} (hq : u.queue = head :: rest)
    {f : SyncField} (hsync : head.sync = some f) (counter : Nat) :
    u.followed (some .brk) counter = { u with queue := [] }.toIdle.settle counter := by
  unfold LegUnit.followed
  rw [hq]
  simp only [hsync]

theorem LegUnit.followed_empty {u : LegUnit} (hq : u.queue = []) (answer : Option SyncAnswer) (counter : Nat) :
    u.followed answer counter = if reportsIdle u.phase then u.toIdle.settle counter else u := by
  unfold LegUnit.followed
  rw [hq]

/-- What follows leaves the settings and the trip count of a leg, trips none, and cuts none that drives (R9 to R11). -/
theorem LegUnit.followed_frame (u : LegUnit) (answer : Option SyncAnswer) (counter : Nat) :
    (u.followed answer counter).config = u.config ∧ (u.followed answer counter).tripCount = u.tripCount
      ∧ (u.phase.isTripped = false → (u.followed answer counter).phase.isTripped = false)
      ∧ ((u.followed answer counter).phase.driving = true →
          (u.followed answer counter).stage.cycleCut = u.stage.cycleCut) := by
  unfold LegUnit.followed
  split
  · split
    · exact ⟨rfl, rfl, fun _ => rfl, nofun⟩
    · exact ⟨rfl, rfl, id, fun _ => rfl⟩
  · split
    · exact ⟨rfl, rfl, fun _ => rfl, fun _ => rfl⟩
    · exact ⟨rfl, rfl, fun _ => rfl, fun _ => rfl⟩
    · exact ⟨rfl, rfl, fun _ => rfl, fun _ => rfl⟩
    · exact ⟨rfl, rfl, fun _ => rfl, nofun⟩
    · exact ⟨rfl, rfl, id, fun _ => rfl⟩

/-- What a boundary leaves of a leg that takes it. -/
theorem LegUnit.taken_frame (u : LegUnit) (answer : Option SyncAnswer) (counter : Nat) :
    (u.taken answer counter).config = u.config ∧ (u.taken answer counter).tripCount = u.tripCount
      ∧ (u.phase.isTripped = false → (u.taken answer counter).phase.isTripped = false)
      ∧ ((u.taken answer counter).phase.driving = true →
          (u.taken answer counter).stage.cycleCut = u.stage.cycleCut) := by
  unfold LegUnit.taken
  cases hp : u.phase with
  | tripped rec => exact ⟨rfl, rfl, nofun, fun _ => rfl⟩
  | idle | holding _ =>
    have hframe := u.followed_frame answer counter
    rw [hp] at hframe
    exact hframe
  | running a =>
    dsimp only
    split
    · exact ⟨rfl, rfl, fun _ => rfl, fun _ => rfl⟩
    · exact LegUnit.followed_frame { u with phase := .running a.age } answer counter

/-! ### A leg whose period closes without an escalation (R117, R118, R122) -/

theorem LegUnit.settle_settle (u : LegUnit) (c : Nat) : (u.settle c).settle c = u.settle c := by
  have hdemands : (u.settle c).demandsAt c = u.demandsAt c := rfl
  have hreference : (u.settle c).referenceAt c = u.referenceAt c := rfl
  rw [LegUnit.settle, hdemands, hreference]
  rfl

/-- The close of a period leaves the plan of a leg alone, and completes a pending rearm (R122). -/
theorem LegUnit.closed_calm {before : LegUnit} (h : before.escalates = false) (u : LegUnit) (trip0 : Bool)
    (period : Dword) (counter : Nat) : (u.closed before trip0 period counter).queue = u.queue
      ∧ (u.closed before trip0 period counter).config = u.config
      ∧ (u.closed before trip0 period counter).tripCount = u.tripCount
      ∧ (u.closed before trip0 period counter).phase = if u.phase.rearmPending then .idle else u.phase := by
  unfold LegUnit.closed
  cases hp : u.phase with
  | tripped rec =>
    dsimp only [LegPhase.rearmPending]
    split
    · next hr => exact ⟨rfl, rfl, rfl, (if_pos hr).symm⟩
    · next hr => exact ⟨rfl, rfl, rfl, hp.trans (if_neg hr).symm⟩
  | idle => exact ⟨rfl, rfl, rfl, rfl⟩
  | running _ | holding _ =>
    simp only [h]
    exact ⟨rfl, rfl, rfl, rfl⟩

/-! ### PERIOD_BOUNDARY at its sample -/

/-- The part at the tick that is a boundary, with its next open choices taken (R27; log entry 7). -/
def State.atTick (s : State) : State := s.carrierTickGiven.setChoices (s.choices + 4)

/-- The legs whose escalation the boundary takes first (R120). -/
def State.firstOf (s : State) : PerLeg Bool := .ofFn s.carrierTickGiven.escalateFirst

/-- The part after the boundary that the sample in progress brings. -/
def State.afterBoundary (s : State) : State := (s.atTick.boundaryWith s.firstOf).deliver

theorem exec_periodBoundary_eq {s : State} (hs : s.Awake) (hnow : s.BoundaryNow) :
    exec .periodBoundary s = .next s.afterBoundary := exec_periodBoundary_now hs hnow

/-- Only a leg that escalates does so first. -/
theorem State.firstOf_get {s : State} {n : Leg} (h : (s.leg n).escalates = false) : s.firstOf.get n = false := by
  rw [State.firstOf, PerLeg.get_ofFn, State.escalateFirst, show s.carrierTickGiven.leg n = s.leg n from rfl, h]
  rfl

/-- The Carrier Timer after the boundary. -/
def State.nextCarrier (s : State) : Carrier := s.atTick.carrier.boundary

/-- The part as the legs find it at the boundary. -/
def State.legsFind (s : State) : State := s.atTick.beforeLegs s.firstOf

section
variable {s : State} {n : Leg}

theorem State.legsFind_calm (h : (s.leg n).escalates = false) :
    s.legsFind.leg n = s.leg n ∧ s.legsFind.lease (.leg n) = s.lease (.leg n) := by
  have hfirst := State.firstOf_get h
  refine ⟨(s.atTick.beforeLegs_leg s.firstOf n).trans ?_, (s.atTick.beforeLegs_lease s.firstOf n).trans ?_⟩
  · rw [if_neg (by rw [hfirst]; decide)]
    rfl
  · rw [if_neg fun hf => by simp [hfirst] at hf]
    rfl

theorem State.legsFind_frame : s.legsFind.ports = s.ports ∧ s.legsFind.carrier = s.nextCarrier
    ∧ s.legsFind.trip = s.trip := by
  obtain ⟨hports, hcarrier, htrip, -⟩ := s.atTick.beforeLegs_frame s.firstOf
  exact ⟨hports, hcarrier, htrip⟩

/-- The answer of the Sync Unit to a leg at the boundary (R45). -/
def State.answerTo (s : State) (n : Leg) : Option SyncAnswer := s.legsFind.syncAnswer s.legsFind.offers n

/-- A leg that does not escalate, after the Leg Unit has taken the boundary. -/
theorem State.afterLegs_calm (h : (s.leg n).escalates = false) :
    s.legsFind.afterLegs.leg n = (s.leg n).taken (s.answerTo n) s.nextCarrier.counter := by
  rw [State.afterLegs_leg, (State.legsFind_calm h).1, State.legsFind_frame.2.1]
  rfl

/-- A leg that does not escalate, after the boundary. -/
theorem State.afterBoundary_leg (h : (s.leg n).escalates = false) : s.afterBoundary.leg n
    = (((s.leg n).taken (s.answerTo n) s.nextCarrier.counter).closed (s.leg n) s.trip.trip0.level s.nextCarrier.period
        s.nextCarrier.counter).settle s.nextCarrier.counter := by
  rw [State.afterBoundary, State.deliver_leg, State.boundaryWith_leg]
  show ((s.legsFind.afterLegs.leg n).closed _ _ _ _).settle _ = _
  rw [State.afterLegs_calm h]
  rfl

/-- The plan of a leg that does not escalate, after the boundary. -/
theorem State.afterBoundary_plan (h : (s.leg n).escalates = false) :
    (s.afterBoundary.leg n).queue = ((s.leg n).taken (s.answerTo n) s.nextCarrier.counter).queue
      ∧ (s.afterBoundary.leg n).config = (s.leg n).config ∧ (s.afterBoundary.leg n).tripCount = (s.leg n).tripCount
      ∧ (s.afterBoundary.leg n).phase
        = if ((s.leg n).taken (s.answerTo n) s.nextCarrier.counter).phase.rearmPending then .idle
          else ((s.leg n).taken (s.answerTo n) s.nextCarrier.counter).phase := by
  rw [State.afterBoundary_leg h]
  obtain ⟨hconfig, htrips, -, -⟩ := (s.leg n).taken_frame (s.answerTo n) s.nextCarrier.counter
  obtain ⟨hqueue', hconfig', htrips', hphase'⟩ := LegUnit.closed_calm h
    ((s.leg n).taken (s.answerTo n) s.nextCarrier.counter) s.trip.trip0.level s.nextCarrier.period s.nextCarrier.counter
  exact ⟨hqueue', hconfig'.trans hconfig, htrips'.trans htrips, hphase'⟩

end

end Sys2Proof.Machine
end

section
/-! PROOFS. A leg at a boundary (chapter 1), and rearms (chapter 7). -/

namespace Sys2Proof.Machine

open Sys2Proof

-- One theorem at a time, as in the tests: proofs that wait for the kernel would each hold a thread.
set_option Elab.async false

/-! ### The plan of a leg at a boundary (R7, R9 to R11, R46 to R49) -/

section
variable {u : LegUnit} (h : u.Free)
include h

theorem LegUnit.isTripped_of_free : u.phase.isTripped = false := by
  cases hp : u.phase with
  | tripped _ => exact absurd h (by simp [LegUnit.Free, hp])
  | idle | running _ | holding _ => rfl

/-- With an empty queue the leg is IDLE (R9 to R11). -/
theorem LegUnit.taken_empty (hq : u.queue = []) (answer : Option SyncAnswer) (counter : Nat) :
    (u.taken answer counter).phase = .idle ∧ (u.taken answer counter).queue = [] := by
  obtain ⟨hqueue, -, -, -, hreports, -, hidle⟩ := u.agedAt_frame
  rw [LegUnit.taken_free h, LegUnit.followed_empty (hqueue.trans hq), hreports]
  have htripped := LegUnit.isTripped_of_free h
  split
  · exact ⟨rfl, hqueue.trans hq⟩
  · next hr =>
    refine ⟨hidle.mpr ?_, hqueue.trans hq⟩
    cases hp : u.phase <;> simp_all [reportsIdle, LegPhase.isTripped]

section
variable {head : Segment} {rest : List Segment} (hq : u.queue = head :: rest)
include hq

/-- A head with no sync field, or one that is let advance, becomes active (R5, R46). -/
theorem LegUnit.taken_advances {answer : Option SyncAnswer} (ha : head.sync = none ∨ answer = some .advance)
    (counter : Nat) : (u.taken answer counter).phase = .running ⟨head, 0, false, .none⟩
      ∧ (u.taken answer counter).queue = rest := by
  rw [LegUnit.taken_free h, LegUnit.followed_advances (u.agedAt_frame.1.trans hq) ha]
  exact ⟨rfl, rfl⟩

/-- A leg that is told to hold keeps its output, or drives its idle pattern (R47). -/
theorem LegUnit.taken_holds {f : SyncField} (hsync : head.sync = some f) (counter : Nat) :
    (u.taken (some .hold) counter).phase = .holding (heldAfter u.phase)
      ∧ (u.taken (some .hold) counter).queue = u.queue := by
  obtain ⟨hqueue, -, -, -, -, hheld, -⟩ := u.agedAt_frame
  rw [LegUnit.taken_free h, LegUnit.followed_holds (hqueue.trans hq) hsync]
  exact ⟨congrArg LegPhase.holding hheld, hqueue⟩

/-- A plan that breaks leaves its leg IDLE with an empty queue (R49). -/
theorem LegUnit.taken_breaks {f : SyncField} (hsync : head.sync = some f) (counter : Nat) :
    (u.taken (some .brk) counter).phase = .idle ∧ (u.taken (some .brk) counter).queue = [] := by
  rw [LegUnit.taken_free h, LegUnit.followed_breaks (u.agedAt_frame.1.trans hq) hsync]
  exact ⟨rfl, rfl⟩

end

end

/-- SEGMENT_LENGTH_EXPIRY at the sample that brings it. -/
theorem exec_segmentLengthExpiry_now {s : State} (hs : s.Awake) (hnow : s.BoundaryNow) {n : Leg}
    (hdue : s.lengthDue n = true) : exec (.segmentLengthExpiry n) s = .next s.afterBoundary := by
  rw [exec_segmentLengthExpiry_awake hs, State.atBoundary_now hnow,
    if_pos (show s.carrierTickGiven.lengthDue n = true from hdue)]
  rfl

/-- Settles O38: a leg that does not escalate takes the boundary by itself, and the close of the period leaves its plan. -/
theorem boundaryOfLeg : Obligations.BoundaryOfLeg := by
  intro n i s hs hnow hcalm hi
  have hexec : exec i s = .next s.afterBoundary := by
    rcases hi with rfl | ⟨rfl, a, len, hphase, hlength, hlen⟩
    · exact exec_periodBoundary_eq hs hnow
    · refine exec_segmentLengthExpiry_now hs hnow ?_
      unfold State.lengthDue
      rw [hphase]
      dsimp only
      rw [hlength]
      exact decide_eq_true hlen
  obtain ⟨hqueue, hconfig, htrips, hphase⟩ := State.afterBoundary_plan hcalm
  refine ⟨_, hexec, hconfig, htrips, fun a hp hends => ?_, fun hfree hq => ?_, fun head rest hfree hq hsync => ?_,
    fun rec hp => ?_⟩
  · have htaken := LegUnit.taken_goesOn hp hends (s.answerTo n) s.nextCarrier.counter
    rw [htaken] at hqueue hphase
    exact ⟨hphase, hqueue⟩
  · obtain ⟨hp, hq'⟩ := LegUnit.taken_empty hfree hq (s.answerTo n) s.nextCarrier.counter
    rw [hp] at hphase
    exact ⟨hphase, hqueue.trans hq'⟩
  · obtain ⟨hp, hq'⟩ := LegUnit.taken_advances hfree hq (.inl hsync : head.sync = none ∨ s.answerTo n = some .advance)
      s.nextCarrier.counter
    rw [hp] at hphase
    exact ⟨hphase, hqueue.trans hq'⟩
  · have htaken := LegUnit.taken_tripped (by rw [hp]; rfl) (s.answerTo n) s.nextCarrier.counter
    rw [htaken] at hqueue hphase
    rw [hp] at hphase
    exact ⟨hqueue, hphase⟩

/-! ### What a port takes of a boundary (R168) -/

theorem State.atTick_quiet {s : State} (h : s.Quiet) : s.atTick.Quiet := h

/-- What a leg that does not escalate raises at the boundary. -/
def State.boundaryCopies (s : State) (n : Leg) (q : Port) : List Notice :=
  s.legsFind.takeCopies n (s.answerTo n) q ++ s.legsFind.afterLegs.closeCopies n (s.leg n) q

theorem State.boundary_copies_calm {s : State} (hquiet : s.Quiet) {n : Leg} (h : (s.leg n).escalates = false) (q : Port) :
    (s.atTick.boundaryWith s.firstOf).legCopies n q = s.boundaryCopies n q := by
  rw [State.boundaryWith_copies (State.atTick_quiet hquiet), State.earlyCopies, State.firstOf_get h]
  rfl

theorem State.boundaryWith_takes {s : State} (hquiet : s.Quiet) (first : PerLeg Bool) {q : Port}
    (hpresent : (s.port q).presence.level = true) (hroom : (s.port q).notices.length ≤ 4) :
    ∃ ns, (s.boundaryWith first).deliver.port q = { s.port q with notices := (s.port q).notices ++ ns }
      ∧ ∀ n, ns.filter (·.aboutLeg n)
        = ((s.boundaryWith first).legCopies n q).filter fun x => (s.port q).mask.admits x.body := by
  have hport : (s.boundaryWith first).port q = s.port q := State.boundaryWith_port ..
  obtain ⟨ns, hns, -, habout⟩ := State.deliver_fromLegs (State.boundaryWith_fromLegs hquiet first) (q := q)
    (fun n => State.boundaryWith_copies_length hquiet first n q) (by rw [hport]; omega)
  rw [hport] at hns
  refine ⟨ns, hns, fun n => ?_⟩
  rw [habout, hport, if_pos hpresent]

/-- A notice that a leg raises at a boundary reaches a port that admits it. -/
theorem State.boundaryWith_mem {s : State} (hquiet : s.Quiet) {first : PerLeg Bool} {q : Port} {n : Leg} {x : Notice}
    (hpresent : (s.port q).presence.level = true) (hroom : (s.port q).notices.length ≤ 4)
    (hx : x ∈ (s.boundaryWith first).legCopies n q) (hadmits : (s.port q).mask.admits x.body = true) :
    x ∈ ((s.boundaryWith first).deliver.port q).notices := by
  obtain ⟨ns, hport, habout⟩ := State.boundaryWith_takes hquiet first hpresent hroom
  rw [hport]
  refine List.mem_append_right _ (List.mem_of_mem_filter (p := (·.aboutLeg n)) ?_)
  rw [habout]
  exact List.mem_filter.mpr ⟨hx, hadmits⟩

theorem State.afterBoundary_port {s : State} (hquiet : s.Quiet) {q : Port} (hpresent : (s.port q).presence.level = true)
    (hroom : (s.port q).notices.length ≤ 4) :
    ∃ ns, s.afterBoundary.port q = { s.port q with notices := (s.port q).notices ++ ns }
      ∧ ∀ n, (s.leg n).escalates = false →
        ns.filter (·.aboutLeg n) = (s.boundaryCopies n q).filter fun x => (s.port q).mask.admits x.body := by
  obtain ⟨ns, hport, habout⟩ := State.boundaryWith_takes (State.atTick_quiet hquiet) s.firstOf hpresent hroom
  exact ⟨ns, hport, fun n h => (habout n).trans (by rw [State.boundary_copies_calm hquiet h]; rfl)⟩

theorem State.afterBoundary_mem {s : State} (hquiet : s.Quiet) {q : Port} (hpresent : (s.port q).presence.level = true)
    (hroom : (s.port q).notices.length ≤ 4) {n : Leg} (h : (s.leg n).escalates = false) {x : Notice}
    (hx : x ∈ s.boundaryCopies n q) (hadmits : (s.port q).mask.admits x.body = true) :
    x ∈ (s.afterBoundary.port q).notices :=
  State.boundaryWith_mem (s := s.atTick) hquiet hpresent hroom (State.boundary_copies_calm hquiet h q ▸ hx) hadmits

/-! ### REARM (R121, R122, R124) -/

theorem State.blocking_eq {s : State} {n : Leg} {rec : TripRecord} (h : (s.leg n).phase = .tripped rec) : s.blocking n
    = ⟨s.trip.trip0.level && (decide ((s.leg n).config.response = .latch) || decide (rec.first = .escalated)),
        s.trip.trip1.level, !s.trip.arm.level, false⟩ := by
  unfold State.blocking
  rw [h]

theorem Causes.ne_empty_iff (b0 b1 b2 : Bool) :
    (⟨b0, b1, b2, false⟩ : Causes) ≠ .empty ↔ (b0 || b1 || b2) = true := by
  cases b0 <;> cases b1 <;> cases b2 <;> decide

theorem Causes.mask_of_inputs (b0 b1 b2 : Bool) : (⟨b0, b1, b2, false⟩ : Causes).mask
    = BitVec.ofNat 8 ((if b0 then 1 else 0) + (if b1 then 2 else 0) + if b2 then 4 else 0) := by
  cases b0 <;> cases b1 <;> cases b2 <;> decide

/-- A rearm that completes, written as the statements do. -/
theorem State.completeRearm_eq {s : State} {n : Leg} {rec : TripRecord} (h : (s.leg n).phase = .tripped rec) :
    s.completeRearm n = (s.setLeg n ((s.leg n).rearmed s.carrier.counter)).post (.resource (.leg n))
      (Port.all.filter (s.hearsTrips n)) ⟨.rearmed rec.first (s.leg n).tripCount, .leg n, none, s.periodLow⟩ :=
  State.completeRearm_tripped h

theorem LegUnit.escalates_tripped {u : LegUnit} (h : u.phase.isTripped = true) : u.escalates = false := by
  obtain ⟨rec, hrec⟩ := (LegPhase.isTripped_iff _).mp h
  simp [LegUnit.escalates, hrec, LegPhase.driving]

/-- Settles O36: a TRIPPED leg takes no part in a boundary until the close of the period completes its rearm. -/
theorem rearmReturnsLeg : Obligations.RearmReturnsLeg := by
  intro p seq b g n s hn u answer completed
  refine ⟨fun hready hholds => ⟨fun hnot => ?_, fun rec hrec => ?_⟩, fun rec hs hrec hpending => ?_⟩
  · have ha : doRearm p b g s = s.refuse .busy [] := (onLeg_of_holds hn hholds).trans (if_pos hnot)
    exact exec_refused (i := .rearm p seq b g) hready rfl nofun ha
  · intro b0 b1 b2
    have hquiet : s.Quiet := hready.2.2.2.2
    have hact : doRearm p b g s = if s.blocking n ≠ .empty then s.refuse .tripActive [(s.blocking n).mask]
        else match s.carrier.run with
          | .running => ⟨s.updLeg n LegUnit.setRearm, .ok, item1 0⟩
          | .stopped => ⟨s.completeRearm n, .ok, item1 1⟩ :=
      (onLeg_of_holds hn hholds).trans (if_neg (by rw [show (s.leg n).phase = _ from hrec]; nofun))
    have hblocking := State.blocking_eq hrec
    have hempty : (s.blocking n ≠ .empty) ↔ (b0 || b1 || b2) = true := hblocking ▸ Causes.ne_empty_iff b0 b1 b2
    refine ⟨fun hb => ?_, fun hb hrun => ?_, fun hb hstop => ?_⟩
    · rw [if_pos (hempty.mpr hb), hblocking, Causes.mask_of_inputs] at hact
      exact exec_refused (i := .rearm p seq b g) hready rfl nofun hact
    · rw [if_neg (by rw [hempty, hb]; decide), hrun] at hact
      have hset : s.updLeg n LegUnit.setRearm = s.setLeg n { u with phase := .tripped { rec with rearm := true } } := by
        refine congrArg (s.setLeg n) ?_
        rw [LegUnit.setRearm, show (s.leg n).phase = _ from hrec]
      rw [hset] at hact
      exact exec_answered (i := .rearm p seq b g) hready rfl nofun hact hquiet
    · rw [if_neg (by rw [hempty, hb]; decide), hstop, State.completeRearm_eq hrec] at hact
      exact exec_told_all (i := .rearm p seq b g) hready rfl nofun hact hquiet
  · have hpend : (s.leg n).phase.rearmPending = true := by rw [show (s.leg n).phase = _ from hrec]; exact hpending
    refine ⟨fun hstop => ?_, fun hrun hnot => rearmCompletion_letsSamplePass hs hrun hnot n, fun hnow => ?_⟩
    · rw [exec_rearmCompletion_stopped hs hstop, if_pos hpend, State.completeRearm_eq hrec]
      obtain ⟨k, hk⟩ := State.deliver_told_all (s := s.setLeg n (u.rearmed s.carrier.counter)) hs.2 (.resource (.leg n))
        (s.hearsTrips n) ⟨.rearmed rec.first u.tripCount, .leg n, none, s.periodLow⟩
      exact ⟨k, congrArg Host.Outcome.next hk⟩
    · have htripped : (s.leg n).phase.isTripped = true := by rw [show (s.leg n).phase = _ from hrec]; rfl
      have hcalm : (s.leg n).escalates = false := LegUnit.escalates_tripped htripped
      have htaken := LegUnit.taken_tripped htripped (s.answerTo n) s.nextCarrier.counter
      refine ⟨s.afterBoundary, ?_, exec_periodBoundary_eq hs hnow, ?_, fun q hhears hpresent hmask hroom => ?_⟩
      · rw [exec_rearmCompletion_running hs hnow.1, State.atBoundary_now hnow,
          if_pos (show (s.carrierTickGiven.leg n).phase.rearmPending = true from hpend)]
        rfl
      · have hcarrier : s.afterBoundary.carrier = s.nextCarrier := by
          rw [State.afterBoundary, State.deliver_carrier, State.boundaryWith_carrier]
          rfl
        rw [State.afterBoundary_leg hcalm, htaken, hcarrier]
        have hclosed : (s.leg n).closed (s.leg n) s.trip.trip0.level s.nextCarrier.period s.nextCarrier.counter
            = (s.leg n).rearmed s.nextCarrier.counter := by
          unfold LegUnit.closed
          rw [show (s.leg n).phase = _ from hrec]
          exact if_pos hpending
        rw [hclosed]
        exact LegUnit.settle_settle ..
      · refine State.afterBoundary_mem hs.2 hpresent hroom hcalm (List.mem_append_right _ ?_) hmask
        have hleg : s.legsFind.afterLegs.leg n = s.leg n := (State.afterLegs_calm hcalm).trans htaken
        obtain ⟨hports, hcarrier, -⟩ := s.legsFind_frame
        obtain ⟨hports', hcarrier', -⟩ := s.legsFind.afterLegs_frame
        have hlease : s.legsFind.afterLegs.lease (.leg n) = s.lease (.leg n) := by
          rw [State.afterLegs_lease, (State.legsFind_calm hcalm).2, LegUnit.reports, (State.legsFind_calm hcalm).1,
            show (s.leg n).phase = _ from hrec]
          rfl
        have hphase : (s.legsFind.afterLegs.leg n).phase = .tripped rec := by rw [hleg]; exact hrec
        unfold State.closeCopies
        rw [hphase]
        rw [State.rearmCopies_eq _ n q hphase, State.hearsTrips, hlease, State.port_congr (hports'.trans hports), hpending,
          Bool.true_and, if_pos ⟨hhears, hpresent⟩, hleg, State.periodLow, hcarrier', hcarrier]
        exact List.mem_singleton_self _

end Sys2Proof.Machine
end

section
/-! PROOFS. The Carrier Timer and the Trip Unit at a boundary (chapters 2 and 7). -/

namespace Sys2Proof.Machine

open Sys2Proof

-- One theorem at a time, as in the tests: proofs that wait for the kernel would each hold a thread.
set_option Elab.async false

/-! ### The close of a period (R117, R118) -/

theorem LegUnit.closed_idle {u : LegUnit} (h : u.phase = .idle) (before : LegUnit) (trip0 : Bool) (period : Dword)
    (counter : Nat) : u.closed before trip0 period counter = u.toIdle.settle counter := by
  unfold LegUnit.closed
  rw [h]

theorem LegUnit.closed_driving {u before : LegUnit} (h : u.phase.driving = true) (hcalm : before.escalates = false)
    (trip0 : Bool) (period : Dword) (counter : Nat) : u.closed before trip0 period counter
      = { u with
          limited := u.cutAfter before trip0, runCount := before.closedRun
          stage := { u.stage with cycleCut := u.cutAfter before trip0 } }.settle counter := by
  unfold LegUnit.closed
  cases hp : u.phase with
  | idle | tripped _ =>
    rw [hp] at h
    cases h
  | running _ | holding _ => simp only [hcalm, Bool.false_eq_true, if_false]

theorem LegPhase.idle_of_rest {f : LegPhase} (hdriving : f.driving = false) (htripped : f.isTripped = false) : f = .idle := by
  cases f with
  | idle => rfl
  | running _ | holding _ => cases hdriving
  | tripped _ => cases htripped

theorem LegPhase.rearmPending_of_not_tripped {f : LegPhase} (h : f.isTripped = false) : f.rearmPending = false := by
  cases f with
  | tripped _ => cases h
  | idle | running _ | holding _ => rfl

/-! ### Leases at a boundary (R98) -/

theorem Lease.reported_of_not_releasing {l : Lease} (h : l.phase ≠ .releasing) : l.reported = l := if_neg h

/-- A lease that is not RELEASING stays as it is at a boundary. -/
theorem State.afterBoundary_lease {s : State} {r : Resource} (h : (s.lease r).phase ≠ .releasing) :
    s.afterBoundary.lease r = s.lease r := by
  rw [State.afterBoundary, State.deliver_lease]
  cases r with
  | carrier => exact s.atTick.boundaryWith_lease_other s.firstOf fun _ => nofun
  | chan c => exact s.atTick.boundaryWith_lease_other s.firstOf fun _ => nofun
  | leg n =>
    have hbefore : s.legsFind.lease (.leg n) = s.lease (.leg n) := by
      refine (s.atTick.beforeLegs_lease s.firstOf n).trans ?_
      rw [Lease.reported_of_not_releasing (l := s.atTick.lease (.leg n)) h, ite_self]
      rfl
    have hafter : s.legsFind.afterLegs.lease (.leg n) = s.lease (.leg n) := by
      rw [State.afterLegs_lease, hbefore, Lease.reported_of_not_releasing h, ite_self]
    refine (s.atTick.boundaryWith_lease s.firstOf n).trans ?_
    show (if _ then (s.legsFind.afterLegs.lease (.leg n)).reported else s.legsFind.afterLegs.lease (.leg n)) = _
    rw [hafter, Lease.reported_of_not_releasing h, ite_self]

/-- The lease of a leg that does not go IDLE and does not escalate, as the close of the period finds it. -/
theorem State.afterLegs_lease_driving {s : State} {n : Leg} (hcalm : (s.leg n).escalates = false)
    (hdriving : (s.legsFind.afterLegs.leg n).phase.driving = true) :
    s.legsFind.afterLegs.lease (.leg n) = s.lease (.leg n) := by
  rw [State.afterLegs_lease, (State.legsFind_calm hcalm).2, LegUnit.reports]
  refine if_neg fun h => ?_
  have hidle := of_decide_eq_true (Bool.and_eq_true _ _ ▸ h : _ ∧ _).2
  rw [hidle] at hdriving
  cases hdriving

/-! ### LIMIT_START (R119) -/

/-- The Leg Unit raises no LIMIT_START. -/
theorem State.followCopies_body {s : State} {n : Leg} {ended : Option (Active × EndReason)} {answer : Option SyncAnswer}
    {q : Port} {x : Notice} (h : x ∈ s.followCopies n ended answer q) (e : Nat) : x.body ≠ .limitStart e := by
  have hholder : ∀ {body tag}, x ∈ s.toHolder n body tag q → body ≠ .limitStart e → x.body ≠ .limitStart e :=
    fun hx hbody => by
      rw [State.mem_toHolder hx]
      exact hbody
  have hidle : x ∈ s.idleCopies n q → x.body ≠ .limitStart e := fun hx => by
    unfold State.idleCopies at hx
    split at hx
    · obtain ⟨gen, interval, hbody⟩ := State.mem_reportCopies hx
      rw [hbody]
      nofun
    · cases hx
  unfold State.followCopies at h
  split at h
  · split at h
    · rcases List.mem_append.mp h with h | h
      · split at h
        · cases h
        · exact hholder h nofun
      · exact hidle h
    · exact hidle h
  · split at h
    iterate 2
      split at h
      · exact hholder h nofun
      · cases h
    · rcases List.mem_append.mp h with h | h
      · exact hholder h nofun
      · exact hidle h
    all_goals cases h

theorem State.takeCopies_body {s : State} {n : Leg} {answer : Option SyncAnswer} {q : Port} {x : Notice}
    (h : x ∈ s.takeCopies n answer q) (e : Nat) : x.body ≠ .limitStart e := by
  unfold State.takeCopies at h
  split at h
  · cases h
  · split at h
    · cases h
    · rcases List.mem_append.mp h with h | h
      · split at h
        · rw [State.mem_toHolder h]
          nofun
        · cases h
      · exact State.followCopies_body h e
  all_goals exact State.followCopies_body h e

section
variable {s : State} {n : Leg} (hcalm : (s.leg n).escalates = false) (htripped : (s.leg n).phase.isTripped = false)
include hcalm htripped

omit htripped in
/-- A leg that neither escalates nor is TRIPPED, after the boundary: driving, or IDLE. -/
theorem State.afterBoundary_driving (hdriving : (s.legsFind.afterLegs.leg n).phase.driving = true) :
    s.afterBoundary.leg n = { s.legsFind.afterLegs.leg n with
      limited := (s.legsFind.afterLegs.leg n).cutAfter (s.leg n) s.trip.trip0.level
      runCount := (s.leg n).closedRun
      stage := { (s.legsFind.afterLegs.leg n).stage with
        cycleCut := (s.legsFind.afterLegs.leg n).cutAfter (s.leg n) s.trip.trip0.level } }.settle s.nextCarrier.counter := by
  rw [State.afterBoundary_leg hcalm, ← State.afterLegs_calm hcalm, LegUnit.closed_driving hdriving hcalm,
    LegUnit.settle_settle]

theorem State.afterBoundary_idle (hrest : (s.legsFind.afterLegs.leg n).phase.driving = false) :
    s.afterBoundary.leg n = (s.legsFind.afterLegs.leg n).toIdle.settle s.nextCarrier.counter := by
  have hnot : (s.legsFind.afterLegs.leg n).phase.isTripped = false := by
    rw [State.afterLegs_calm hcalm]
    exact ((s.leg n).taken_frame ..).2.2.1 htripped
  rw [State.afterBoundary_leg hcalm, ← State.afterLegs_calm hcalm,
    LegUnit.closed_idle (LegPhase.idle_of_rest hrest hnot), LegUnit.settle_settle]

/-- What the close of the period raises of such a leg: LIMIT_START at the first limited period of a run (R119). -/
theorem State.closeCopies_calm (q : Port) : s.legsFind.afterLegs.closeCopies n (s.leg n) q
    = if (s.legsFind.afterLegs.leg n).phase.driving = true ∧ (s.afterBoundary.leg n).stage.cycleCut = true
        ∧ (s.leg n).limited = false then s.legsFind.afterLegs.limitCopies n q else [] := by
  have htrip : s.legsFind.afterLegs.trip = s.trip :=
    s.legsFind.afterLegs_frame.2.2.1.trans s.legsFind_frame.2.2
  have hrun : (s.leg n).limited = false → (s.leg n).closedRun = 0 := fun h => by simp [LegUnit.closedRun, h]
  cases hd : (s.legsFind.afterLegs.leg n).phase.driving with
  | false =>
    have hnot : (s.legsFind.afterLegs.leg n).phase.isTripped = false := by
      rw [State.afterLegs_calm hcalm]
      exact ((s.leg n).taken_frame ..).2.2.1 htripped
    unfold State.closeCopies
    rw [LegPhase.idle_of_rest hd hnot]
    exact (if_neg fun h => absurd h.1 (by decide)).symm
  | true =>
    have hcut : (s.afterBoundary.leg n).stage.cycleCut
        = (s.legsFind.afterLegs.leg n).cutAfter (s.leg n) s.trip.trip0.level := by
      rw [State.afterBoundary_driving hcalm hd]
      rfl
    unfold State.closeCopies
    rw [hcut, htrip, hcalm]
    cases hp : (s.legsFind.afterLegs.leg n).phase with
    | idle | tripped _ =>
      rw [hp] at hd
      cases hd
    | running _ | holding _ =>
      dsimp only
      rw [if_neg (by decide)]
      refine if_congr ?_ rfl rfl
      exact ⟨fun ⟨hc, hl, _⟩ => ⟨rfl, hc, hl⟩, fun ⟨_, hc, hl⟩ => ⟨hc, hl, hrun hl⟩⟩

end

theorem Carrier.boundary_eq (t : Carrier) : t.boundary
    = { t with
        active := t.preload
        counter := if t.mode = .edge then 0 else t.preload
        slope := if t.mode = .edge then .rising else .falling
        leadIn := false, dwell := 0, period := t.period + 1 } := by
  rcases t with ⟨_, mode, _, _, _, _, _, _, _, _, _, _⟩
  cases mode <;> rfl

theorem State.nextCarrier_eq (s : State) : s.nextCarrier
    = { s.carrier with
        divider := ⟨2 ^ s.carrier.prescale.val, true⟩
        active := s.carrier.preload
        counter := if s.carrier.mode = .edge then 0 else s.carrier.preload
        slope := if s.carrier.mode = .edge then .rising else .falling
        leadIn := false, dwell := 0, period := s.carrier.period + 1 } :=
  Carrier.boundary_eq { s.carrier with divider := .start (prescaleSamples s.carrier.prescale) }

theorem State.afterBoundary_frame (s : State) : s.afterBoundary.carrier = s.nextCarrier ∧ s.afterBoundary.chans = s.chans
    ∧ s.afterBoundary.trip = s.trip ∧ s.afterBoundary.rst = s.rst ∧ s.afterBoundary.leaseClock = s.leaseClock := by
  unfold State.afterBoundary
  rw [State.deliver_carrier, State.deliver_chans, State.deliver_trip, State.deliver_rst, State.deliver_leaseClock,
    State.boundaryWith_carrier, State.boundaryWith_chans, State.boundaryWith_trip, State.boundaryWith_rst,
    State.boundaryWith_leaseClock]
  exact ⟨rfl, rfl, rfl, rfl, rfl⟩

/-- Settles O37: for each leg, by what the close of its period finds: a leg that drives, or an IDLE one. -/
theorem boundaryOfTimerAndTripUnit : Obligations.BoundaryOfTimerAndTripUnit := by
  intro s hs
  refine ⟨fun hstop => ?_, fun hrun hnot => ⟨periodBoundary_letsSamplePass hs hrun hnot, fun n =>
    ⟨segmentLengthExpiry_letsSamplePass hs hrun hnot n, escalation_letsSamplePass hs hrun hnot n⟩,
    syncBreak_letsSamplePass hs hrun hnot⟩, fun hnow => ?_⟩
  · rw [exec_periodBoundary_awake hs, State.atBoundary_stopped hstop]
  obtain ⟨hcarrier, hchans, htrip, hrst, hclock⟩ := s.afterBoundary_frame
  refine ⟨_, exec_periodBoundary_eq hs hnow, hcarrier.trans s.nextCarrier_eq, fun n hcalm htripped => ?_, hchans, htrip,
    hrst, hclock, fun r hr => State.afterBoundary_lease hr⟩
  have htaken := State.afterLegs_calm hcalm
  obtain ⟨hconfig, -, hnot, hcut⟩ := (s.leg n).taken_frame (s.answerTo n) s.nextCarrier.counter
  rw [← htaken] at hconfig hnot hcut
  have hphase : (s.afterBoundary.leg n).phase = (s.legsFind.afterLegs.leg n).phase := by
    rw [(State.afterBoundary_plan hcalm).2.2.2, ← htaken, LegPhase.rearmPending_of_not_tripped (hnot htripped)]
    rfl
  have hclose := State.closeCopies_calm hcalm htripped
  intro u u'
  refine ⟨fun hdriving => ?_, fun hrest => ?_, fun q hlimited hcutAfter hholder hpresent hmask hroom => ?_, fun q hq => ?_⟩
  · have hd : (s.legsFind.afterLegs.leg n).phase.driving = true := hphase ▸ hdriving
    have hleg : u' = _ := State.afterBoundary_driving hcalm hd
    rw [hleg]
    refine ⟨?_, ?_, rfl⟩
    · exact rfl
    · show (s.legsFind.afterLegs.leg n).cutAfter (s.leg n) s.trip.trip0.level = _
      rw [LegUnit.cutAfter, hcut hd, hconfig]
  · have hleg : u' = _ := State.afterBoundary_idle hcalm htripped (hphase ▸ hrest)
    rw [hleg]
    exact ⟨rfl, rfl, rfl, rfl⟩
  · have hd : (s.legsFind.afterLegs.leg n).phase.driving = true := by
      by_contra hr
      have hleg : u' = _ := State.afterBoundary_idle hcalm htripped (Bool.eq_false_iff.mpr hr)
      rw [hleg] at hcutAfter
      cases hcutAfter
    refine State.afterBoundary_mem hs.2 hpresent hroom hcalm (List.mem_append_right _ ?_) hmask
    obtain ⟨hports, hcarrier, -⟩ := s.legsFind_frame
    obtain ⟨hports', hcarrier', -⟩ := s.legsFind.afterLegs_frame
    rw [hclose, if_pos ⟨hd, hcutAfter, hlimited⟩, State.limitCopies, State.toPresent,
      State.afterLegs_lease_driving hcalm hd, hholder, State.port_congr (hports'.trans hports), hpresent, beq_self_eq_true,
      Bool.true_and, if_pos rfl, hconfig, ← hphase, State.periodLow, hcarrier', hcarrier]
    exact List.mem_singleton_self _
  · have hport : (s.atTick.boundaryWith s.firstOf).port q = s.port q := State.boundaryWith_port ..
    refine (State.deliver_filter_legs (State.boundaryWith_fromLegs (State.atTick_quiet hs.2) s.firstOf) (n := n)
      (fun x hx => ?_) fun x hx => ?_).trans (congrArg (fun e : PortEngine => e.notices.filter _) hport)
    · split at hx
      · exact decide_eq_true (.inl (of_decide_eq_true hx))
      · cases hx
    · have hbody : ∀ e, x.body ≠ .limitStart e := fun e => by
        rw [State.boundary_copies_calm hs.2 hcalm] at hx
        rcases List.mem_append.mp hx with hx | hx
        · exact State.takeCopies_body hx e
        · rw [hclose] at hx
          split at hx
          · next hlimit =>
            obtain ⟨hd, hc, hl⟩ := hlimit
            rcases hq with hq | hq | hq
            · exact absurd (hq.symm.trans hl) (by decide)
            · exact absurd (hq.symm.trans hc) (by decide)
            · have hnone : s.legsFind.afterLegs.limitCopies n q = [] := by
                rw [State.limitCopies, State.toPresent, State.afterLegs_lease_driving hcalm hd]
                exact if_neg (by simp [hq])
              rw [hnone] at hx
              cases hx
          · cases hx
      split
      · next e he => exact absurd he (hbody e)
      · rfl

end Sys2Proof.Machine
end

section
/-! PROOFS. The Sync Unit's decision at a boundary, and the segment notices (chapters 1 and 3). -/

namespace Sys2Proof.Machine

open Sys2Proof

-- One theorem at a time, as in the tests: proofs that wait for the kernel would each hold a thread.
set_option Elab.async false

/-! ### Complete groups and answers (R44 to R47) -/

/-- A group is complete when every leg of its set is ready for it (R46). -/
theorem State.groupComplete_iff (s : State) (f : SyncField) :
    groupComplete s.offers f = true ↔ ∀ k, f.legs.get k = true → (s.leg k).ReadyFor f := by
  simp only [groupComplete, State.offers, List.all_eq_true, PerLeg.get_ofFn, Bool.or_eq_true, Bool.not_eq_true',
    beq_iff_eq, LegUnit.offer_eq_some]
  refine ⟨fun h k hk => (h k (leg_mem_all k)).resolve_left (by simp [hk]), fun h k _ => ?_⟩
  cases hk : f.legs.get k with
  | false => exact .inl rfl
  | true => exact .inr (h k hk)

theorem State.syncAnswer_ready {s : State} {n : Leg} {f : SyncField} (h : (s.leg n).ReadyFor f) :
    s.syncAnswer s.offers n = some (if groupComplete s.offers f then .advance
      else if (s.mark f.mark).wait < s.carrier.syncLimit then .hold else .brk) := by
  rw [State.syncAnswer, show s.offers.get n = some f by
    rw [State.offers, PerLeg.get_ofFn]
    exact ((s.leg n).offer_eq_some f).mpr h]
  exact Option.map_some ..

section
variable {s : State} (hcalm : ∀ k, (s.leg k).escalates = false)
include hcalm

/-- Where no leg escalates, the legs find the part as it was but for the Carrier Timer. -/
theorem State.legsFind_eq : s.legsFind = s.atTick.setCarrier s.nextCarrier := by
  unfold State.legsFind State.beforeLegs State.escalateEarly
  refine List.foldlRecOn Leg.all _ (motive := fun t => t = s.atTick.setCarrier s.nextCarrier) rfl fun t ht k _ => ?_
  rw [ht, State.firstOf_get (hcalm k)]
  rfl

theorem State.complete_iff (f : SyncField) :
    groupComplete s.legsFind.offers f = true ↔ ∀ k, f.legs.get k = true → (s.leg k).ReadyFor f := by
  rw [State.groupComplete_iff]
  simp only [(State.legsFind_calm (hcalm _)).1]

/-- The answer to a ready leg (R46, R47). -/
theorem State.answerTo_ready {n : Leg} {f : SyncField} (h : (s.leg n).ReadyFor f) :
    s.answerTo n = some (if groupComplete s.legsFind.offers f then .advance
      else if (s.mark f.mark).wait < s.carrier.syncLimit then .hold else .brk) := by
  rw [State.answerTo, State.syncAnswer_ready (f := f) (by rw [(State.legsFind_calm (hcalm n)).1]; exact h)]
  rw [State.legsFind_eq hcalm]
  rfl

theorem State.answerTo_complete {n : Leg} {f : SyncField} (h : (s.leg n).ReadyFor f)
    (hcomplete : ∀ k, f.legs.get k = true → (s.leg k).ReadyFor f) : s.answerTo n = some .advance := by
  rw [State.answerTo_ready hcalm h, if_pos ((State.complete_iff hcalm f).mpr hcomplete)]

theorem State.answerTo_hold {n : Leg} {f : SyncField} (h : (s.leg n).ReadyFor f)
    (hcomplete : ¬ ∀ k, f.legs.get k = true → (s.leg k).ReadyFor f)
    (hwait : (s.mark f.mark).wait < s.carrier.syncLimit) : s.answerTo n = some .hold := by
  rw [State.answerTo_ready hcalm h, if_neg (mt (State.complete_iff hcalm f).mp hcomplete), if_pos hwait]

theorem State.answerTo_break {n : Leg} {f : SyncField} (h : (s.leg n).ReadyFor f)
    (hcomplete : ¬ ∀ k, f.legs.get k = true → (s.leg k).ReadyFor f)
    (hwait : s.carrier.syncLimit ≤ (s.mark f.mark).wait) : s.answerTo n = some .brk := by
  rw [State.answerTo_ready hcalm h, if_neg (mt (State.complete_iff hcalm f).mp hcomplete), if_neg (by omega)]

/-- What becomes of a mark at a boundary at which no leg escalates (R48). -/
theorem State.afterBoundary_mark (m : Mark) : s.afterBoundary.mark m
    = (s.mark m).atBoundary (incompleteLegs s.legsFind.offers m) s.carrier.syncLimit := by
  rw [State.afterBoundary, State.deliver_mark, State.boundaryWith_eq, State.settleAll_mark]
  have hclose : ∀ t : State, (t.tripUnitTakes s.atTick.legs).mark m = t.mark m := fun t =>
    foldl_frame (fun t => State.mark t m) _ (fun t k => State.closePeriod_mark (fun h => by
      have hnot : (s.atTick.legs.get k).escalates = false := hcalm k
      rw [hnot] at h
      exact absurd h.2 (by decide)) m) _ _
  rw [hclose]
  show ((s.legsFind.afterLegs.syncBoundary s.legsFind.offers).mark m) = _
  rw [State.syncBoundary, State.setSync_mark, PerMark.get_ofFn, s.legsFind.afterLegs_frame.2.1, s.legsFind_frame.2.1,
    State.afterLegs, State.legsTake_mark]
  have hmark : s.legsFind.mark m = s.mark m := by
    rw [State.legsFind_eq hcalm]
    rfl
  rw [hmark]
  rfl

end

/-- The plan of a leg that is not TRIPPED, after the boundary. -/
theorem State.afterBoundary_phase {s : State} {n : Leg} (hcalm : (s.leg n).escalates = false)
    (htripped : (s.leg n).phase.isTripped = false) :
    (s.afterBoundary.leg n).phase = ((s.leg n).taken (s.answerTo n) s.nextCarrier.counter).phase
      ∧ (s.afterBoundary.leg n).queue = ((s.leg n).taken (s.answerTo n) s.nextCarrier.counter).queue := by
  obtain ⟨hqueue, -, -, hphase⟩ := State.afterBoundary_plan hcalm
  refine ⟨hphase.trans ?_, hqueue⟩
  rw [LegPhase.rearmPending_of_not_tripped (((s.leg n).taken_frame ..).2.2.1 htripped)]
  rfl

theorem LegUnit.headSync_of_queue {u : LegUnit} {head : Segment} {rest : List Segment} {f : SyncField}
    (hq : u.queue = head :: rest) (hsync : head.sync = some f) : u.headSync = some f := by
  rw [LegUnit.headSync, hq]
  exact hsync

/-- Settles O40: a complete group is answered ADVANCE, and any other answer leaves the leg HOLDING or IDLE. -/
theorem jointAdvance : Obligations.JointAdvance := by
  intro s hs hnow hcalm
  refine ⟨_, exec_periodBoundary_eq hs hnow, fun n head rest f hq hsync _ hfree => ?_⟩
  have hready : (s.leg n).ReadyFor f := ⟨LegUnit.headSync_of_queue hq hsync, hfree⟩
  obtain ⟨hphase, hqueue⟩ := State.afterBoundary_phase (hcalm n) (LegUnit.isTripped_of_free hfree)
  rw [hphase, hqueue]
  by_cases hcomplete : ∀ k, f.legs.get k = true → (s.leg k).ReadyFor f
  · rw [State.answerTo_complete hcalm hready hcomplete]
    exact iff_of_true (LegUnit.taken_advances hfree hq (.inr rfl) _) hcomplete
  · refine iff_of_false (fun h => ?_) hcomplete
    by_cases hwait : (s.mark f.mark).wait < s.carrier.syncLimit
    · rw [State.answerTo_hold hcalm hready hcomplete hwait, (LegUnit.taken_holds hfree hq hsync _).1] at h
      cases h.1
    · rw [State.answerTo_break hcalm hready hcomplete (by omega), (LegUnit.taken_breaks hfree hq hsync _).1] at h
      cases h.1

/-! ### The segment notices of a leg at a boundary (R5, R8, R9, R49) -/

/-- Why an active segment that ends ends (R8). -/
def Active.reason (a : Active) : EndReason :=
  if a.cut = .lease then .lease else if a.cut = .host then .cut
  else if a.latch then .condition
  else if a.seg.length.isSome then .length else .successor

theorem Active.endReason_eq {a : Active} {k : Nat} (h : a.Ends k) : a.age.endReason k = some a.reason := by
  obtain ⟨reason, hreason⟩ := Active.endReason_some h
  rw [hreason]
  unfold Active.endReason Active.age at hreason
  unfold Active.reason
  cases hcut : a.cut with
  | lease | host => simpa [hcut, eq_comm] using hreason
  | none =>
    cases hlatch : a.latch with
    | true => simpa [hcut, hlatch, eq_comm] using hreason
    | false =>
      simp only [hcut, hlatch, Bool.false_eq_true, if_false] at hreason
      cases hlength : a.seg.length with
      | some len =>
        rw [hlength] at hreason
        dsimp only at hreason
        split at hreason
        · simpa [eq_comm] using hreason
        · cases hreason
      | none =>
        rw [hlength] at hreason
        dsimp only at hreason
        split at hreason
        · simpa [eq_comm] using hreason
        · cases hreason

/-- SEGMENT_END of the active segment of a leg, as its notify field asks (R8). -/
def LegUnit.finishNotices (u : LegUnit) (n : Leg) (period : Half) : List Notice :=
  match u.phase with
  | .running a =>
    if asksEnd a.seg.notify then
      [⟨.segmentEnd a.seg.gen a.reason (min 4095 (a.elapsed + 1)), .leg n, some a.seg.tag, period⟩] else []
  | .idle | .holding _ | .tripped _ => []

/-- UNDERRUN of the active segment of a leg whose queue is empty (R9). -/
def LegUnit.underrunNotices (u : LegUnit) (n : Leg) (period : Half) : List Notice :=
  match u.phase with
  | .running a =>
    if a.seg.final = true ∨ a.reason = .lease then []
    else [⟨.underrun a.seg.gen, .leg n, some a.seg.tag, period⟩]
  | .idle | .holding _ | .tripped _ => []

/-- SEGMENT_START of a segment that becomes active, as its notify field asks (R5). -/
def startNotices (head : Segment) (n : Leg) (left : Nat) (period : Half) : List Notice :=
  if asksStart head.notify then [⟨.segmentStart head.gen left, .leg n, some head.tag, period⟩] else []

/-- The segment of a leg that ends at the boundary, with the reason. -/
def LegUnit.ended (u : LegUnit) : Option (Active × EndReason) :=
  match u.phase with
  | .running a => some (a.age, a.reason)
  | .idle | .holding _ | .tripped _ => none

section
variable {s : State} {n : Leg} {q : Port} (hholder : (s.lease (.leg n)).holder? = some q)
  (hpresent : (s.port q).presence.level = true)
include hholder hpresent

omit hpresent in
theorem State.idleCopies_held : s.idleCopies n q = [] := by
  unfold State.idleCopies
  rw [State.reportCopies_quiet (Lease.phase_of_holder hholder), ite_self]

/-- What the holder hears of a leg with no active segment that goes on. -/
theorem State.takeCopies_free (hfree : (s.leg n).Free) (answer : Option SyncAnswer) : s.takeCopies n answer q
    = (s.leg n).finishNotices n s.periodLow ++ s.followCopies n (s.leg n).ended answer q := by
  unfold State.takeCopies LegUnit.finishNotices LegUnit.ended
  cases hp : (s.leg n).phase with
  | tripped _ => exact absurd hfree (by simp [LegUnit.Free, hp])
  | idle | holding _ => rfl
  | running a =>
    have hends : a.Ends (s.leg n).queue.length := by simpa [LegUnit.Free, hp] using hfree
    dsimp only
    rw [Active.endReason_eq hends]
    dsimp only
    rw [State.toHolder_eq hholder hpresent]
    rfl

omit hholder hpresent in
theorem State.takeCopies_goesOn {a : Active} (hp : (s.leg n).phase = .running a)
    (hends : ¬ a.Ends (s.leg n).queue.length) (answer : Option SyncAnswer) : s.takeCopies n answer q = [] := by
  unfold State.takeCopies
  rw [hp]
  dsimp only
  rw [Active.endReason_none hends]

theorem State.followCopies_empty (hq : (s.leg n).queue = []) (answer : Option SyncAnswer) :
    s.followCopies n (s.leg n).ended answer q = (s.leg n).underrunNotices n s.periodLow := by
  unfold State.followCopies LegUnit.ended LegUnit.underrunNotices
  rw [hq, State.idleCopies_held hholder]
  cases hp : (s.leg n).phase with
  | tripped _ | idle | holding _ => rfl
  | running a =>
    dsimp only
    rw [List.append_nil, State.toHolder_eq hholder hpresent]
    rfl

section
variable {head : Segment} {rest : List Segment} (hq : (s.leg n).queue = head :: rest)
include hq

theorem State.followCopies_advances {answer : Option SyncAnswer} (h : head.sync = none ∨ answer = some .advance)
    (ended : Option (Active × EndReason)) :
    s.followCopies n ended answer q = startNotices head n rest.length s.periodLow := by
  unfold State.followCopies startNotices
  rw [hq]
  dsimp only
  rw [State.toHolder_eq hholder hpresent]
  rcases h with hsync | rfl
  · simp only [hsync]
  · cases head.sync <;> rfl

omit hholder hpresent in
theorem State.followCopies_holds {f : SyncField} (hsync : head.sync = some f) (ended : Option (Active × EndReason)) :
    s.followCopies n ended (some .hold) q = [] := by
  unfold State.followCopies
  rw [hq]
  simp only [hsync]

theorem State.followCopies_breaks {f : SyncField} (hsync : head.sync = some f) (ended : Option (Active × EndReason)) :
    s.followCopies n ended (some .brk) q
      = [⟨.syncBroken f.mark head.gen (s.leg n).queue.length, .leg n, some head.tag, s.periodLow⟩] := by
  unfold State.followCopies
  rw [hq]
  simp only [hsync]
  rw [State.idleCopies_held hholder, List.append_nil, State.toHolder_eq hholder hpresent]

end

end

/-! ### Holds and breaks (R47 to R49) -/

theorem legCount_ne_zero {x : PerLeg Bool} {n : Leg} (h : x.get n = true) : legCount x ≠ 0 := by
  unfold legCount
  exact (List.length_pos_of_mem (List.mem_filter.mpr ⟨leg_mem_all n, h⟩)).ne'

theorem State.legsFind_periodLow (s : State) : s.legsFind.periodLow = (s.carrier.period + 1).setWidth 16 := by
  rw [State.periodLow, s.legsFind_frame.2.1]
  rfl

/-- SYNC_BREAK at the sample that brings it. -/
theorem exec_syncBreak_now {s : State} (hs : s.Awake) (hnow : s.BoundaryNow) {m : Mark}
    (hbreaks : s.breaksAt m = true) : exec (.syncBreak m) s = .next s.afterBoundary := by
  rw [exec_syncBreak_awake hs, State.atBoundary_now hnow,
    if_pos (show s.carrierTickGiven.breaksAt m = true from hbreaks)]
  rfl

/-- Settles O41: by the answer to the leg, HOLD or BREAK, and by what R48 makes of the mark. -/
theorem holdOrBreak : Obligations.HoldOrBreak := by
  intro n head rest f s hs hnow hcalm hq hsync _ hfree hincomplete
  have hready : (s.leg n).ReadyFor f := ⟨LegUnit.headSync_of_queue hq hsync, hfree⟩
  obtain ⟨hphase, hqueue⟩ := State.afterBoundary_phase (hcalm n) (LegUnit.isTripped_of_free hfree)
  have hnot : ¬ ∀ k, f.legs.get k = true → (s.leg k).ReadyFor f := by
    obtain ⟨k, hk, hkr⟩ := hincomplete
    exact fun h => hkr (h k hk)
  have hoffers : ∀ k f', s.legsFind.offers.get k = some f' ↔ (s.leg k).ReadyFor f' := fun k f' => by
    rw [State.offers, PerLeg.get_ofFn, (State.legsFind_calm (hcalm k)).1, LegUnit.offer_eq_some]
  have hmine : (incompleteLegs s.legsFind.offers f.mark).get n = true :=
    incompleteLegs_get.mpr ⟨f, (hoffers n f).mpr hready, rfl,
      Bool.eq_false_iff.mpr (mt (State.complete_iff hcalm f).mp hnot)⟩
  have hmark := State.afterBoundary_mark hcalm f.mark
  rw [MarkState.atBoundary, if_neg (legCount_ne_zero hmine)] at hmark
  refine ⟨fun hwait => ?_, fun hwait => ?_⟩
  · rw [State.answerTo_hold hcalm hready hnot hwait] at hphase hqueue
    obtain ⟨hholds, hkept⟩ := LegUnit.taken_holds hfree hq hsync s.nextCarrier.counter
    rw [if_pos hwait] at hmark
    refine ⟨_, exec_periodBoundary_eq hs hnow, hphase.trans (hholds.trans (congrArg LegPhase.holding ?_)),
      hqueue.trans hkept, by rw [hmark], fun k => ?_⟩
    · unfold heldAfter
      cases (s.leg n).phase <;> rfl
    · rw [hmark]
      refine incompleteLegs_get.trans (exists_congr fun f' => ?_)
      rw [hoffers, ← Bool.not_eq_true, State.complete_iff hcalm f']
      refine ⟨fun ⟨h1, h2, h3⟩ => ⟨h2, h1, ?_⟩, fun ⟨h2, h1, j, hj, hjr⟩ => ⟨h1, h2, fun h => hjr (h j hj)⟩⟩
      by_contra hall
      exact h3 fun j hj => by
        by_contra hjr
        exact hall ⟨j, hj, hjr⟩
  · rw [State.answerTo_break hcalm hready hnot hwait] at hphase hqueue
    obtain ⟨hbreaks, hempty⟩ := LegUnit.taken_breaks hfree hq hsync s.nextCarrier.counter
    rw [if_neg (by omega)] at hmark
    have hbreaksAt : s.breaksAt f.mark = true := by
      have hgiven : incompleteLegs (.ofFn fun k => (s.leg k).offer) f.mark = incompleteLegs s.legsFind.offers f.mark := by
        refine congrArg (incompleteLegs · f.mark) (congrArg PerLeg.ofFn ?_)
        funext k
        rw [(State.legsFind_calm (hcalm k)).1]
      rw [State.breaksAt, hgiven, decide_eq_true (legCount_ne_zero hmine), decide_eq_true hwait]
      rfl
    refine ⟨_, exec_syncBreak_now hs hnow hbreaksAt, exec_periodBoundary_eq hs hnow, hphase.trans hbreaks,
      hqueue.trans hempty, hmark, fun q hholder hpresent hmask hroom => ?_⟩
    obtain ⟨hleg, hlease⟩ := State.legsFind_calm (hcalm n)
    have hholder' : (s.legsFind.lease (.leg n)).holder? = some q := hlease ▸ hholder
    have hpresent' : (s.legsFind.port q).presence.level = true := by
      rw [State.port_congr s.legsFind_frame.1]
      exact hpresent
    refine State.afterBoundary_mem hs.2 hpresent hroom (hcalm n) (List.mem_append_left _ ?_) hmask
    rw [State.takeCopies_free hholder' hpresent' (by rw [hleg]; exact hfree),
      State.answerTo_break hcalm hready hnot hwait,
      State.followCopies_breaks hholder' hpresent' (by rw [hleg]; exact hq) hsync, hleg, State.legsFind_periodLow]
    exact List.mem_append_right _ (List.mem_singleton_self _)

end Sys2Proof.Machine
end

section
/-! PROOFS. The segment notices of a leg at a boundary, in their order (chapter 1). -/

namespace Sys2Proof.Machine

open Sys2Proof

-- One theorem at a time, as in the tests: proofs that wait for the kernel would each hold a thread.
set_option Elab.async false

/-! ### Segment notices at their holder (R168) -/

/-- A notice about leg `n` itself that the mask admits as a segment notice. -/
def SegmentNotice (n : Leg) (x : Notice) : Prop := x.subject = .leg n ∧ ∀ m : Classes, m.admits x.body = m.segment

theorem LegUnit.finishNotices_segment {u : LegUnit} {n : Leg} {period : Half} {x : Notice}
    (h : x ∈ u.finishNotices n period) : SegmentNotice n x := by
  unfold LegUnit.finishNotices at h
  split at h
  · split at h
    · rw [List.mem_singleton.mp h]
      exact ⟨rfl, fun _ => rfl⟩
    · cases h
  all_goals cases h

theorem LegUnit.underrunNotices_segment {u : LegUnit} {n : Leg} {period : Half} {x : Notice}
    (h : x ∈ u.underrunNotices n period) : SegmentNotice n x := by
  unfold LegUnit.underrunNotices at h
  split at h
  · split at h
    · cases h
    · rw [List.mem_singleton.mp h]
      exact ⟨rfl, fun _ => rfl⟩
  all_goals cases h

theorem startNotices_segment {head : Segment} {n : Leg} {left : Nat} {period : Half} {x : Notice}
    (h : x ∈ startNotices head n left period) : SegmentNotice n x := by
  unfold startNotices at h
  split at h
  · rw [List.mem_singleton.mp h]
    exact ⟨rfl, fun _ => rfl⟩
  · cases h

/-- What of a list of notices a mask admits, of those about leg `n` itself. -/
def Classes.heard (m : Classes) (n : Leg) (ns : List Notice) : List Notice :=
  (ns.filter fun x => m.admits x.body).filter fun x => x.subject = .leg n

theorem Classes.heard_append (m : Classes) (n : Leg) (xs ys : List Notice) :
    m.heard n (xs ++ ys) = m.heard n xs ++ m.heard n ys := by
  simp only [Classes.heard, List.filter_append]

theorem Classes.heard_segments {m : Classes} (hm : m.segment = true) {n : Leg} {ns : List Notice}
    (h : ∀ x ∈ ns, SegmentNotice n x) : m.heard n ns = ns := by
  have hadmits : ns.filter (fun x => m.admits x.body) = ns :=
    List.filter_eq_self.mpr fun x hx => ((h x hx).2 m).trans hm
  rw [Classes.heard, hadmits]
  exact List.filter_eq_self.mpr fun x hx => decide_eq_true (h x hx).1

section
variable {s : State} {n : Leg} {q : Port} (hquiet : s.Quiet) (hcalm : (s.leg n).escalates = false)
  (hpresent : (s.port q).presence.level = true) (hroom : (s.port q).notices.length ≤ 4)
include hquiet hcalm hpresent hroom

/-- The notices about a leg at a port after the boundary: those before it, and those raised there that it admits. -/
theorem State.afterBoundary_ofLeg : (s.afterBoundary.port q).notices.filter (fun x => x.subject = .leg n)
    = ((s.port q).notices.filter fun x => x.subject = .leg n) ++ (s.port q).mask.heard n (s.boundaryCopies n q) := by
  obtain ⟨ns, hport, habout⟩ := State.afterBoundary_port hquiet hpresent hroom
  rw [hport, List.filter_append, Classes.heard, ← habout n hcalm, List.filter_filter]
  refine congrArg _ (List.filter_congr fun x _ => ?_)
  by_cases hx : x.subject = .leg n <;> simp [Notice.aboutLeg, hx]

end

/-- With TRIP0 inactive the close of a period raises nothing of a leg that neither escalates nor is TRIPPED (R117). -/
theorem State.closeCopies_inactive {s : State} {n : Leg} (hcalm : (s.leg n).escalates = false)
    (htripped : (s.leg n).phase.isTripped = false) (htrip0 : s.trip.trip0.level = false) (q : Port) :
    s.legsFind.afterLegs.closeCopies n (s.leg n) q = [] := by
  rw [State.closeCopies_calm hcalm htripped]
  refine if_neg fun ⟨hdriving, hcut, _⟩ => ?_
  rw [State.afterBoundary_driving hcalm hdriving, LegUnit.settle_cycleCut] at hcut
  have hnone : (s.legsFind.afterLegs.leg n).cutAfter (s.leg n) s.trip.trip0.level = false := by
    rw [LegUnit.cutAfter, htrip0]
    rfl
  exact absurd (hcut.symm.trans hnone) (by decide)

theorem asksEnd_iff (k : Notify) : asksEnd k = true ↔ k = .finish ∨ k = .both := by cases k <;> decide

theorem asksStart_iff (k : Notify) : asksStart k = true ↔ k = .start ∨ k = .both := by cases k <;> decide

/-- Settles O39: the notices are those of the Leg Unit alone, in the order in which it raises them. -/
theorem segmentNoticesAtBoundary : Obligations.SegmentNoticesAtBoundary := by
  intro n q s hs hnow htrip0 hcalm hholder hpresent hmask hroom u ofLeg notice reason finish underrun
  obtain ⟨hleg, hlease⟩ := State.legsFind_calm hcalm
  have hholder' : (s.legsFind.lease (.leg n)).holder? = some q := hlease ▸ hholder
  have hpresent' : (s.legsFind.port q).presence.level = true := by
    rw [State.port_congr s.legsFind_frame.1]
    exact hpresent
  have hperiod := s.legsFind_periodLow
  have hof := State.afterBoundary_ofLeg hs.2 hcalm hpresent hroom
  have hcopies : u.phase.isTripped = false → s.boundaryCopies n q = s.legsFind.takeCopies n (s.answerTo n) q := fun h => by
    rw [State.boundaryCopies, State.closeCopies_inactive hcalm h htrip0, List.append_nil]
  have hfinish : u.finishNotices n ((s.carrier.period + 1).setWidth 16) = finish := by
    simp only [finish, LegUnit.finishNotices]
    cases u.phase with
    | idle | holding _ | tripped _ => rfl
    | running a => exact if_congr (asksEnd_iff _) rfl rfl
  have hunderrun : u.underrunNotices n ((s.carrier.period + 1).setWidth 16) = underrun := by
    simp only [underrun, LegUnit.underrunNotices]
    cases u.phase <;> rfl
  have hfree' : u.Free → (s.legsFind.leg n).Free := fun h => by rwa [hleg]
  refine ⟨_, exec_periodBoundary_eq hs hnow, fun a hp hends => ?_, fun hfree => ?_⟩
  · refine hof.trans ?_
    rw [hcopies (by rw [hp]; rfl), State.takeCopies_goesOn (a := a) (by rw [hleg]; exact hp) (by rw [hleg]; exact hends)]
    exact List.append_nil _
  have hposts : ∀ then_, s.legsFind.followCopies n u.ended (s.answerTo n) q = then_ →
      ofLeg (s.afterBoundary.port q).notices
        = ofLeg (s.port q).notices ++ finish ++ (s.port q).mask.heard n then_ := fun then_ h => by
    refine hof.trans ?_
    rw [hcopies (LegUnit.isTripped_of_free hfree), State.takeCopies_free hholder' hpresent' (hfree' hfree), hleg, hperiod,
      h, hfinish, Classes.heard_append, Classes.heard_segments hmask fun x hx => LegUnit.finishNotices_segment (hfinish ▸ hx),
      ← List.append_assoc]
  refine ⟨fun hq => ?_, fun head rest hq => ?_⟩
  · refine (hposts _ (hleg ▸ State.followCopies_empty hholder' hpresent' (by rw [hleg]; exact hq) _)).trans ?_
    rw [Classes.heard_segments hmask fun x hx => LegUnit.underrunNotices_segment hx, hperiod]
    exact congrArg _ hunderrun
  · intro start
    have hstart : startNotices head n rest.length ((s.carrier.period + 1).setWidth 16) = start :=
      if_congr (asksStart_iff _) rfl rfl
    have hq' : (s.legsFind.leg n).queue = head :: rest := by rw [hleg]; exact hq
    have hadvances : head.sync = none ∨ s.answerTo n = some .advance →
        ofLeg (s.afterBoundary.port q).notices = ofLeg (s.port q).notices ++ finish ++ start := fun h => by
      rw [hposts _ (State.followCopies_advances hholder' hpresent' hq' h _), Classes.heard_segments hmask fun x hx =>
        startNotices_segment hx, hperiod, hstart]
    refine ⟨fun hsync => hadvances (.inl hsync), fun f hsync hall => ?_⟩
    have hready : (s.leg n).ReadyFor f := ⟨LegUnit.headSync_of_queue hq hsync, hfree⟩
    refine ⟨fun hcomplete => hadvances (.inr (State.answerTo_complete hall hready hcomplete)),
      fun hcomplete hwait => ?_, fun hcomplete hwait => ?_⟩
    · exact hposts [] (by rw [State.answerTo_hold hall hready hcomplete hwait]; exact State.followCopies_holds hq' hsync _)
    · have hbroken : s.legsFind.followCopies n u.ended (s.answerTo n) q
          = [notice (.syncBroken f.mark head.gen u.queue.length) head.tag] := by
        rw [State.answerTo_break hall hready hcomplete hwait,
          State.followCopies_breaks hholder' hpresent' hq' hsync, hleg, hperiod]
      refine (hposts _ hbroken).trans (congrArg _ ?_)
      cases hm : (s.port q).mask.sync with
      | true => simp [Classes.heard, Classes.admits, hm, notice]
      | false => simp [Classes.heard, Classes.admits, hm, notice]

end Sys2Proof.Machine
end

section
/-! PROOFS. A boundary at which a leg escalates (chapter 7). -/

namespace Sys2Proof.Machine

open Sys2Proof

-- One theorem at a time, as in the tests: proofs that wait for the kernel would each hold a thread.
set_option Elab.async false

/-! ### An escalation, before or after the leg takes the boundary (R120) -/

/-- The boundary trips leg `n` with cause ESCALATED where it stands as `v`, and tells those that hear of it. -/
structure State.EscalatesAs (s t : State) (n : Leg) (v : LegUnit) : Prop where
  leg : t.leg n = { v with runCount := (s.leg n).closedRun }.trippedBy .escalated s.carrier.boundary.period
    s.carrier.boundary.counter
  lease : t.lease (.leg n) = s.leaseReported n
  told : ∀ q, s.hearsTripOf n q = true → (s.port q).presence.level = true →
    v.tripNotice n .escalated (s.carrier.boundary.period.setWidth 16) ∈ t.legCopies n q

theorem State.mem_tripCopies {s : State} {n : Leg} {q : Port} (hhears : s.hearsTripOf n q = true)
    (hpresent : (s.port q).presence.level = true) (c : Cause) :
    (s.leg n).tripNotice n c s.periodLow ∈ s.tripCopies n c q := by
  refine List.mem_append_right _ ?_
  simp [State.toPresent, hhears, hpresent]

section
variable {s : State} {n : Leg}

theorem LegUnit.escalated_of_not_tripped {u : LegUnit} (h : u.phase.isTripped = false) (run : Nat) (period : Dword)
    (counter : Nat) : u.escalated run period counter
      = { u with runCount := run }.trippedBy .escalated period counter :=
  LegUnit.caused_of_not_tripped (u := { u with runCount := run }) h ..

/-- An escalation that is taken first finds the leg as it stood. -/
theorem State.boundaryWith_escalatesFirst (hquiet : s.Quiet) {first : PerLeg Bool} (hfirst : first.get n = true)
    (hnot : (s.leg n).phase.isTripped = false) : s.EscalatesAs (s.boundaryWith first) n (s.leg n) := by
  set v := { s.leg n with runCount := (s.leg n).closedRun }.trippedBy .escalated s.carrier.boundary.period
    s.carrier.boundary.counter with hv
  have hbefore : (s.beforeLegs first).leg n = v := by
    rw [State.beforeLegs_leg, if_pos hfirst, LegUnit.escalated_of_not_tripped hnot]
  have hafter : (s.beforeLegs first).afterLegs.leg n = v := by
    rw [State.afterLegs_leg, hbefore, LegUnit.taken_tripped rfl]
  refine ⟨?_, ?_, fun q hhears hpresent => ?_⟩
  · rw [State.boundaryWith_leg, hafter]
    exact LegUnit.settle_settle ..
  · have hlease : (s.beforeLegs first).lease (.leg n) = s.leaseReported n := by
      rw [State.beforeLegs_lease, if_pos ⟨hfirst, hnot⟩, State.leaseReported_eq]
    rw [State.boundaryWith_lease, hafter, if_neg fun h => absurd h.1 (by rw [hv]; nofun), State.afterLegs_lease, hafter,
      hbefore, hlease]
    rfl
  · rw [State.boundaryWith_copies hquiet, State.earlyCopies, if_pos hfirst, State.causeCopies]
    refine List.mem_append_left _ (List.mem_append_left _ ?_)
    rw [if_neg (by rw [State.setCarrier_leg, hnot]; decide)]
    exact State.mem_tripCopies (s := s.setCarrier s.carrier.boundary) hhears hpresent .escalated

/-- An escalation that the leg's boundary comes before finds the leg as the boundary leaves it, RUNNING or HOLDING. -/
theorem State.boundaryWith_escalatesLast (hquiet : s.Quiet) {first : PerLeg Bool} (hfirst : first.get n = false)
    (hnot : (s.leg n).phase.isTripped = false) (hesc : (s.leg n).escalates = true)
    (hdrives : ((s.boundaryWith first).leg n).phase ≠ .idle) :
    ∃ answer, ((s.leg n).taken answer s.carrier.boundary.counter).phase.driving = true
      ∧ s.EscalatesAs (s.boundaryWith first) n ((s.leg n).taken answer s.carrier.boundary.counter) := by
  obtain ⟨hports, hcarrier, -⟩ := s.beforeLegs_frame first
  obtain ⟨hports', hcarrier', -⟩ := (s.beforeLegs first).afterLegs_frame
  have hbefore : (s.beforeLegs first).leg n = s.leg n := by
    rw [State.beforeLegs_leg, if_neg (by rw [hfirst]; decide)]
  have hlease : (s.beforeLegs first).lease (.leg n) = s.lease (.leg n) := by
    rw [State.beforeLegs_lease, if_neg fun h => by simp [hfirst] at h]
  refine ⟨(s.beforeLegs first).syncAnswer (s.beforeLegs first).offers n, ?_⟩
  set v := (s.leg n).taken ((s.beforeLegs first).syncAnswer (s.beforeLegs first).offers n) s.carrier.boundary.counter with hv
  have hafter : (s.beforeLegs first).afterLegs.leg n = v := by
    rw [State.afterLegs_leg, hbefore, hcarrier]
  have hnot' : v.phase.isTripped = false := ((s.leg n).taken_frame ..).2.2.1 hnot
  have hdriving : v.phase.driving = true := by
    by_contra hrest
    refine hdrives ?_
    rw [State.boundaryWith_leg, hafter, LegUnit.closed_idle (LegPhase.idle_of_rest (Bool.eq_false_iff.mpr hrest) hnot')]
    rfl
  have hclosed : ∀ trip0 period counter, v.closed (s.leg n) trip0 period counter
      = { v with runCount := (s.leg n).closedRun }.trippedBy .escalated period counter := fun trip0 period counter => by
    rw [← LegUnit.escalated_of_not_tripped hnot']
    unfold LegUnit.closed
    cases hp : v.phase with
    | idle | tripped _ =>
      rw [hp] at hdriving
      cases hdriving
    | running _ | holding _ =>
      dsimp only
      rw [if_pos hesc]
  have hlease' : (s.beforeLegs first).afterLegs.lease (.leg n) = s.lease (.leg n) := by
    rw [State.afterLegs_lease, hlease, hafter, LegUnit.reports]
    refine if_neg fun h => ?_
    rw [Bool.and_eq_true, decide_eq_true_eq] at h
    rw [h.2] at hdriving
    cases hdriving
  refine ⟨hdriving, ?_, ?_, fun q hhears hpresent => ?_⟩
  · rw [State.boundaryWith_leg, hafter, hclosed]
    exact LegUnit.settle_settle ..
  · rw [State.boundaryWith_lease, hafter, if_pos ⟨hdriving, hesc⟩, hlease', State.leaseReported_eq]
  · rw [State.boundaryWith_copies hquiet]
    refine List.mem_append_right _ ?_
    have hcopies : (s.beforeLegs first).afterLegs.closeCopies n (s.leg n) q
        = (s.beforeLegs first).afterLegs.tripCopies n .escalated q := by
      unfold State.closeCopies
      rw [hafter]
      cases hp : v.phase with
      | idle | tripped _ =>
        rw [hp] at hdriving
        cases hdriving
      | running _ | holding _ =>
        dsimp only
        rw [if_pos hesc]
    have hport : (s.beforeLegs first).afterLegs.port q = s.port q := State.port_congr (hports'.trans hports) q
    have hhears' : (s.beforeLegs first).afterLegs.hearsTripOf n q = true := by
      rw [State.hearsTripOf, State.leaseReported_eq, hlease', hport]
      exact hhears
    have hmem := State.mem_tripCopies hhears' (by rw [hport]; exact hpresent) .escalated
    rw [State.periodLow, hcarrier', hcarrier, hafter] at hmem
    rw [hcopies]
    exact hmem

end

/-! ### ESCALATION (R120) -/

/-- A leg that still drives after it has taken the boundary goes on, holds, or has a successor just made active. -/
theorem LegUnit.taken_driving {u : LegUnit} (hu : u.phase.driving = true) {answer : Option SyncAnswer} {counter : Nat}
    (hdriving : (u.taken answer counter).phase.driving = true) :
    let v := u.taken answer counter
    (v.phase.activeTag = u.phase.activeTag ∧ v.queue.length = u.queue.length)
      ∨ (u.Free ∧ v.phase.activeTag = none ∧ v.queue.length = u.queue.length)
      ∨ (u.Free ∧ ∃ head rest, u.queue = head :: rest ∧ v.phase.activeTag = some head.tag
        ∧ v.queue.length = rest.length) := by
  intro v
  by_cases hgoes : ∃ a, u.phase = .running a ∧ ¬ a.Ends u.queue.length
  · obtain ⟨a, hp, hends⟩ := hgoes
    have hv : v = _ := LegUnit.taken_goesOn hp hends answer counter
    rw [hv, hp]
    exact .inl ⟨rfl, rfl⟩
  have hfree : u.Free := by
    unfold LegUnit.Free
    cases hp : u.phase with
    | idle | holding _ => trivial
    | tripped _ =>
      rw [hp] at hu
      cases hu
    | running a =>
      by_contra hends
      exact hgoes ⟨a, hp, hends⟩
  cases hq : u.queue with
  | nil =>
    rw [(LegUnit.taken_empty hfree hq answer counter).1] at hdriving
    cases hdriving
  | cons head rest =>
    by_cases hadvances : head.sync = none ∨ answer = some .advance
    · obtain ⟨hphase, hqueue⟩ := LegUnit.taken_advances hfree hq hadvances counter
      refine .inr (.inr ⟨hfree, head, rest, rfl, ?_, congrArg List.length hqueue⟩)
      exact congrArg LegPhase.activeTag hphase
    obtain ⟨f, hsync⟩ : ∃ f, head.sync = some f := Option.ne_none_iff_exists'.mp fun h => hadvances (.inl h)
    rcases answer with _ | _ | _ | _
    · have hv : v = u.agedAt := by
        refine (LegUnit.taken_free hfree none counter).trans ?_
        unfold LegUnit.followed
        rw [u.agedAt_frame.1.trans hq]
        simp only [hsync]
      refine .inl ⟨?_, by rw [hv, u.agedAt_frame.1, hq]⟩
      rw [hv, LegUnit.agedAt]
      cases hp : u.phase with
      | running a => rfl
      | idle | holding _ | tripped _ => exact congrArg LegPhase.activeTag hp
    · exact absurd (.inr rfl) hadvances
    · obtain ⟨hphase, hqueue⟩ := LegUnit.taken_holds hfree hq hsync counter
      refine .inr (.inl ⟨hfree, congrArg LegPhase.activeTag hphase, ?_⟩)
      exact (congrArg List.length hqueue).trans (congrArg List.length hq)
    · rw [(LegUnit.taken_breaks hfree hq hsync counter).1] at hdriving
      cases hdriving

/-- ESCALATION at the sample that brings the boundary: the leg escalates first, or is not IDLE after it. -/
theorem exec_escalation_now {s : State} (hs : s.Awake) (hnow : s.BoundaryNow) {n : Leg}
    (hesc : (s.leg n).escalates = true) : ∃ first : PerLeg Bool,
      exec (.escalation n) s = .next (s.atTick.boundaryWith first).deliver
        ∧ (first.get n = true ∨ ((s.atTick.boundaryWith first).leg n).phase ≠ .idle) := by
  rw [exec_escalation_awake hs, State.atBoundary_now hnow,
    if_pos (show (s.carrierTickGiven.leg n).escalates = true from hesc)]
  by_cases hidle : (s.carrierTickGiven.boundary.leg n).phase = .idle
  · refine ⟨s.firstOf.set n true, ?_, .inl (by simp)⟩
    refine congrArg (fun t : State => Host.Outcome.next t.deliver) ?_
    exact if_pos hidle
  · refine ⟨s.firstOf, ?_, .inr hidle⟩
    refine congrArg (fun t : State => Host.Outcome.next t.deliver) ?_
    exact if_neg hidle

/-- Settles O42: the leg escalates either as it stood, or as the boundary left it, RUNNING or HOLDING. -/
theorem escalationTrips : Obligations.EscalationTrips := by
  intro n s hs hnow hdriving hlimited hne hle u
  have hrun : (s.leg n).closedRun = min 255 (u.runCount + 1) := by
    rw [LegUnit.closedRun, if_pos hlimited]
    rfl
  have hesc : (s.leg n).escalates = true := by
    simp only [LegUnit.escalates, hdriving, hlimited, Bool.true_and, Bool.and_eq_true, bne_iff_ne, decide_eq_true_eq, hrun]
    exact ⟨hne, hle⟩
  have hnot : (s.leg n).phase.isTripped = false := by
    cases hp : (s.leg n).phase with
    | tripped _ =>
      rw [hp] at hdriving
      cases hdriving
    | idle | running _ | holding _ => rfl
  obtain ⟨first, hexec, hfirst⟩ := exec_escalation_now hs hnow hesc
  obtain ⟨v, ⟨hconfig, htrips⟩, hplan, hgoes, hmade⟩ : ∃ v : LegUnit, (v.config = u.config ∧ v.tripCount = u.tripCount)
      ∧ ((v.phase.activeTag = u.phase.activeTag ∧ v.queue.length = u.queue.length)
        ∨ (u.Free ∧ v.phase.activeTag = none ∧ v.queue.length = u.queue.length)
        ∨ (u.Free ∧ ∃ head rest, u.queue = head :: rest ∧ v.phase.activeTag = some head.tag
          ∧ v.queue.length = rest.length))
      ∧ (∀ a, u.phase = .running a → ¬ a.Ends u.queue.length →
          v.phase.activeTag = some a.seg.tag ∧ v.queue.length = u.queue.length)
      ∧ s.atTick.EscalatesAs (s.atTick.boundaryWith first) n v := by
    cases hf : first.get n with
    | true =>
      refine ⟨u, ⟨rfl, rfl⟩, .inl ⟨rfl, rfl⟩, fun a hp _ => ⟨by rw [hp]; rfl, rfl⟩, ?_⟩
      exact State.boundaryWith_escalatesFirst (s := s.atTick) hs.2 hf hnot
    | false =>
      have hdrives := hfirst.resolve_left (by rw [hf]; decide)
      obtain ⟨answer, hv, hmade⟩ := State.boundaryWith_escalatesLast (s := s.atTick) hs.2 hf hnot hesc hdrives
      obtain ⟨hconfig, htrips, -⟩ := u.taken_frame answer s.nextCarrier.counter
      refine ⟨_, ⟨hconfig, htrips⟩, LegUnit.taken_driving hdriving hv, fun a hp hends => ?_, hmade⟩
      rw [LegUnit.taken_goesOn hp hends]
      exact ⟨rfl, rfl⟩
  obtain ⟨hleg, hlease, htold⟩ := hmade
  have hspec := LegUnit.trippedBy_spec { v with runCount := (s.leg n).closedRun } .escalated s.nextCarrier.period
    s.nextCarrier.counter
  have hleg' : (s.atTick.boundaryWith first).deliver.leg n = { v with runCount := (s.leg n).closedRun }.trippedBy
      .escalated s.nextCarrier.period s.nextCarrier.counter := (State.deliver_leg ..).trans hleg
  rw [LegUnit.TrippedFrom, ← hleg'] at hspec
  obtain ⟨hphase, hqueue, hcfg, hcount, hlim, hruns, hcut, hoff⟩ := hspec
  refine ⟨_, v.phase.activeTag, v.queue.length, hexec, hphase, hqueue, ?_, hruns.trans hrun, hlim, hcut,
    hcfg.trans hconfig, ?_, hplan, hgoes, (State.deliver_lease ..).trans hlease, fun q hhears hpresent hmask hroom => ?_,
    ?_⟩
  · rw [hcount]
    exact congrArg (fun k => min 255 (k + 1)) htrips
  · rw [State.gateHigh, hoff, Bool.and_false]
  · have hnotice := State.boundaryWith_mem (s := s.atTick) (first := first) hs.2 hpresent hroom (htold q hhears hpresent) hmask
    rw [LegUnit.tripNotice_eq, htrips] at hnotice
    exact hnotice
  · rw [State.deliver_carrier, State.boundaryWith_carrier]
    rfl

end Sys2Proof.Machine
end

section
/-! PROOFS. The lease tick: leases that count down, warn and expire (chapters 5 and 6). -/

namespace Sys2Proof.Machine

open Sys2Proof

-- One theorem at a time, as in the tests: proofs that wait for the kernel would each hold a thread.
set_option Elab.async false

/-! ### When the tick comes (R87) -/

theorem State.sample_leaseClock {s : State} (hrst : s.rst.inReset = false) (hdue : s.leaseClock.divider.due = false) :
    s.sample.leaseClock.divider.left + 1 = s.leaseClock.divider.left
      ∧ s.sample.leaseClock.divider.fresh = false := by
  rw [(State.sample_awake hrst).1, State.liveSample_leaseClock]
  exact ⟨Divider.pass_left _ _ hdue, Divider.pass_fresh ..⟩

theorem State.toLeaseTick_sample {s : State} (hrst : s.rst.inReset = false) (hdue : s.leaseClock.divider.due = false) :
    s.toLeaseTick = s.sample.toLeaseTick := by
  rw [State.toLeaseTick, ← (State.sample_leaseClock hrst hdue).1, State.samples_succ, State.toLeaseTick]

theorem State.leaseTicks_leaseClock (s : State) : s.leaseTicks.leaseClock = ⟨⟨6000, true⟩, s.leaseClock.number + 1⟩ := by
  rw [State.leaseTicks, State.deliver_leaseClock, State.leaseTickAll_leaseClock]
  rfl

theorem exec_leaseTick_awake {s : State} (hs : s.Awake) : exec .leaseTick s = .next s.toLeaseTick.leaseTicks :=
  congrArg Host.Outcome.next (State.event_awake hs.1 _)

theorem exec_leaseExpiry_awake {s : State} (hs : s.Awake) (r : Resource) : exec (.leaseExpiry r) s
    = .next (if (s.toLeaseTick.lease r).expiring then s.toLeaseTick.leaseTicks else s) :=
  congrArg Host.Outcome.next (State.event_awake hs.1 _)

/-- The state after a lease tick is not one after a sample that brings none. -/
theorem State.leaseTicks_ne_sample {s : State} (hrst : s.rst.inReset = false) (hdue : s.leaseClock.divider.due = false)
    (x : State) : x.leaseTicks ≠ s.sample := fun h => by
  have hfresh := (State.sample_leaseClock hrst hdue).2
  rw [← h, x.leaseTicks_leaseClock] at hfresh
  cases hfresh

theorem leaseTick_letsSamplePass {s : State} (hs : s.Awake) (hdue : s.leaseClock.divider.due = false) :
    LetsSamplePass .leaseTick s := by
  have hthen := exec_leaseTick_awake (State.sample_awake hs.1).2.1
  refine letsSamplePass_of_eq ?_ fun h => ?_
  · rw [exec_leaseTick_awake hs, hthen, State.toLeaseTick_sample hs.1 hdue]
  · exact State.leaseTicks_ne_sample hs.1 hdue _ (Host.Outcome.next.inj (hthen.symm.trans h))

theorem leaseExpiry_letsSamplePass {s : State} (hs : s.Awake) (hdue : s.leaseClock.divider.due = false) (r : Resource) :
    LetsSamplePass (.leaseExpiry r) s := by
  have hnow := exec_leaseExpiry_awake hs r
  have hthen := exec_leaseExpiry_awake (State.sample_awake hs.1).2.1 r
  rw [State.toLeaseTick_sample hs.1 hdue] at hnow
  cases he : (s.sample.toLeaseTick.lease r).expiring with
  | false =>
    rw [he] at hnow hthen
    exact ⟨fun h => absurd hthen h, fun _ => hnow⟩
  | true =>
    rw [he] at hnow hthen
    refine letsSamplePass_of_eq (hnow.trans hthen.symm) fun h => ?_
    exact State.leaseTicks_ne_sample hs.1 hdue _ (Host.Outcome.next.inj (hthen.symm.trans h))

/-! ### The end of a lease, and what it raises (R95, R98, R100) -/

/-- The record that the end of a lease leaves (R95, R98, R103). -/
def State.endedLease (s : State) (r : Resource) : Lease :=
  if s.resourceAtRest r then (s.lease r).passedOn else { s.lease r with phase := .releasing }

/-- What the end of a lease raises: LEASE_GRANTED to the head waiter of a resource at rest (R100). -/
def State.endCopies (s : State) (r : Resource) (q : Port) : List Notice :=
  if s.resourceAtRest r then
    match (s.lease r).waiters with
    | [] => []
    | w :: _ => s.toPresent (· == w.port) ⟨.leaseGranted (s.lease r).genAfter w.interval, .resource r, none, s.periodLow⟩ q
  else []

theorem State.copiesTo_post_one (s : State) (src : Source) (p : Port) (x : Notice) (q : Port) :
    (s.post src [p] x).copiesTo q = s.copiesTo q ++ s.toPresent (· == p) x q := by
  rw [State.copiesTo_post _ _ (List.nodup_singleton p)]
  simp [State.toPresent]

theorem State.resourceCleared_copies (s : State) (r : Resource) (q : Port) :
    (s.resourceCleared r).copiesTo q = s.copiesTo q := by
  cases r with
  | carrier | chan c => rfl
  | leg n => exact State.copiesTo_congr (State.planTaken_outbox ..) q

theorem State.resourceCleared_ports (s : State) (r : Resource) (q : Port) : (s.resourceCleared r).port q = s.port q := by
  cases r with
  | carrier | chan c => rfl
  | leg n => exact State.planTaken_port ..

theorem State.endLease_copies (s : State) (r : Resource) (q : Port) :
    (s.endLease r).copiesTo q = s.copiesTo q ++ s.endCopies r q := by
  unfold State.endCopies
  cases hrest : s.resourceAtRest r with
  | false =>
    rw [State.endLease_releasing _ _ hrest, State.resourceCleared_copies]
    exact (List.append_nil _).symm
  | true =>
    rw [if_pos rfl]
    cases hw : (s.lease r).waiters with
    | nil =>
      rw [State.endLease_free _ _ hrest hw, State.resourceCleared_copies]
      exact (List.append_nil _).symm
    | cons w ws =>
      rw [State.endLease_grant _ _ w ws hrest hw, State.copiesTo_post_one, State.resourceCleared_copies, State.toPresent,
        State.resourceCleared_ports]
      rfl

/-! ### One record at a lease tick (R88, R89, R101) -/

/-- The record that a lease tick leaves. -/
def State.countedLease (s : State) (r : Resource) : Lease :=
  match (s.lease r).phase with
  | .held p i k low =>
    if k ≤ 1 then s.endedLease r
    else { s.lease r with phase := .held p i (k - 1) (low || decide (k - 1 ≤ warnAt i)) }
  | .free | .releasing => s.lease r

/-- What one record raises at a lease tick: LEASE_LOW once, or what its end does and LEASE_LOST. -/
def State.countCopies (s : State) (r : Resource) (q : Port) : List Notice :=
  match (s.lease r).phase with
  | .held p i k low =>
    if k ≤ 1 then
      s.endCopies r q ++ s.toPresent (· == p)
        ⟨.leaseLost .expired (s.lease r).gen (s.endedLease r).holder?, .resource r, none, s.periodLow⟩ q
    else if k - 1 ≤ warnAt i ∧ low = false then
      s.toPresent (· == p) ⟨.leaseLow (s.lease r).gen (k - 1) i, .resource r, none, s.periodLow⟩ q
    else []
  | .free | .releasing => []

theorem State.expire_lease (s : State) (r x : Resource) (p : Port) :
    (s.expire r p).lease x = if x = r then s.endedLease r else s.lease x := by
  refine (State.endLease_lease s r x).trans ?_
  by_cases h : x = r
  · subst h
    rw [if_pos rfl, if_pos rfl, State.endedLease]
  · rw [if_neg h, if_neg h]

theorem State.leaseCount_lease (s : State) (r x : Resource) :
    (s.leaseCount r).lease x = if x = r then s.countedLease r else s.lease x := by
  unfold State.leaseCount State.countedLease
  cases hp : (s.lease r).phase with
  | free | releasing => by_cases h : x = r <;> simp [h]
  | held p i k low =>
    dsimp only
    by_cases hk : k ≤ 1
    · rw [if_pos hk, if_pos hk, State.expire_lease]
    · rw [if_neg hk, if_neg hk]
      by_cases hx : x = r
      · subst hx
        cases low <;> by_cases hw : k - 1 ≤ warnAt i <;> simp [hw]
      · split <;> simp [hx]

theorem State.leaseCount_copies (s : State) (r : Resource) (q : Port) :
    (s.leaseCount r).copiesTo q = s.copiesTo q ++ s.countCopies r q := by
  unfold State.leaseCount State.countCopies
  cases hp : (s.lease r).phase with
  | free | releasing => exact (List.append_nil _).symm
  | held p i k low =>
    dsimp only
    by_cases hk : k ≤ 1
    · rw [if_pos hk, if_pos hk, State.expire, State.copiesTo_post_one, State.endLease_copies, List.append_assoc]
      refine congrArg _ (congrArg _ ?_)
      rw [State.toPresent, State.endLease_port, State.endLease_lease, if_pos rfl]
      rfl
    · rw [if_neg hk, if_neg hk]
      split
      · rw [State.copiesTo_post_one]
        rfl
      · exact (List.append_nil _).symm

theorem State.leaseCount_leg (s : State) (r : Resource) (k : Leg) : (s.leaseCount r).leg k
    = if r = .leg k ∧ (s.lease r).expiring = true then (s.leg k).planGone else s.leg k := by
  unfold State.leaseCount Lease.expiring
  cases hp : (s.lease r).phase with
  | free | releasing => simp
  | held p i m low =>
    dsimp only
    by_cases hm : m ≤ 1
    · rw [if_pos hm]
      refine (State.endLease_leg s r k).trans ?_
      simp [hm]
    · have hnot : ¬ (r = .leg k ∧ decide (m ≤ 1) = true) := fun h => hm (of_decide_eq_true h.2)
      rw [if_neg hm, if_neg hnot]
      split <;> rfl

/-- A lease that does not expire touches no leg and no mark. -/
theorem State.leaseCount_calm {s : State} {r : Resource} (h : (s.lease r).expiring = false) :
    (s.leaseCount r).legs = s.legs ∧ (s.leaseCount r).sync = s.sync := by
  unfold State.leaseCount
  unfold Lease.expiring at h
  cases hp : (s.lease r).phase with
  | free | releasing => exact ⟨rfl, rfl⟩
  | held p i k low =>
    rw [hp] at h
    dsimp only at h ⊢
    rw [if_neg (of_decide_eq_false h)]
    split <;> exact ⟨rfl, rfl⟩

/-! ### All the records (R88) -/

theorem State.leaseCount_rest {s : State} {r x : Resource} (h : x ≠ r) :
    (s.leaseCount r).resourceAtRest x = s.resourceAtRest x := by
  cases x with
  | carrier | chan c => rfl
  | leg n => exact congrArg LegUnit.atRest ((s.leaseCount_leg r n).trans (if_neg fun hr => h hr.1.symm))

/-- What a record leaves and raises depends on the record and on whether its leg is at rest. -/
theorem State.counts_congr {s s' : State} {r : Resource} (hlease : s'.lease r = s.lease r)
    (hrest : s'.resourceAtRest r = s.resourceAtRest r) (hports : s'.ports = s.ports) (hcarrier : s'.carrier = s.carrier) :
    s'.countedLease r = s.countedLease r ∧ s'.countCopies r = s.countCopies r := by
  have hended : s'.endedLease r = s.endedLease r := by rw [State.endedLease, hlease, hrest, State.endedLease]
  have htold : ∀ who x q, s'.toPresent who x q = s.toPresent who x q := fun who x q => by
    rw [State.toPresent, State.port_congr hports, State.toPresent]
  have hperiod : s'.periodLow = s.periodLow := by rw [State.periodLow, hcarrier, State.periodLow]
  refine ⟨?_, ?_⟩
  · unfold State.countedLease
    rw [hlease, hended]
  · funext q
    unfold State.countCopies State.endCopies
    rw [hlease, hrest, hended, hperiod]
    simp only [htold]

/-- A lease tick lets every record count down by itself, at the same moment. -/
theorem State.leaseTickAll_lease (s : State) (r : Resource) : s.leaseTickAll.lease r = s.countedLease r
    ∧ ∀ n, r = .leg n →
      s.leaseTickAll.leg n = if (s.lease r).expiring then (s.leg n).planGone else s.leg n := by
  set s0 := s.setLeaseClock { s.leaseClock with number := s.leaseClock.number + 1 } with hs0
  refine ⟨?_, fun n hn => ?_⟩
  · obtain ⟨s', hs', hfold⟩ := foldl_view_at
      (view := fun t : State => (t.lease r, t.resourceAtRest r, t.ports, t.carrier))
      (f := State.leaseCount) (a := r) (fun t k hk => by
        rw [State.leaseCount_lease, if_neg (Ne.symm hk), State.leaseCount_rest (Ne.symm hk), State.leaseCount_ports,
          State.leaseCount_carrier]) (resource_mem_all r) (by decide) s0
    simp only [Prod.mk.injEq] at hs' hfold
    obtain ⟨hlease, hrest, hports, hcarrier⟩ := hs'
    refine hfold.1.trans ?_
    rw [State.leaseCount_lease, if_pos rfl, (State.counts_congr hlease hrest hports hcarrier).1]
    exact (State.counts_congr rfl (by cases r <;> rfl) rfl rfl).1
  · subst hn
    obtain ⟨s', hs', hfold⟩ := foldl_view_at (view := fun t : State => (t.lease (.leg n), t.leg n))
      (f := State.leaseCount) (a := .leg n) (fun t k hk => by
        rw [State.leaseCount_lease, if_neg (Ne.symm hk), State.leaseCount_leg, if_neg fun h => hk h.1])
      (resource_mem_all _) (by decide) s0
    simp only [Prod.mk.injEq] at hs' hfold
    obtain ⟨hlease, hleg⟩ := hs'
    refine hfold.2.trans ?_
    rw [State.leaseCount_leg, hlease, hleg]
    simp only [true_and]
    rfl

theorem leaseCounts_copies (q : Port) : ∀ (rs : List Resource), rs.Nodup → ∀ s : State,
    (rs.foldl State.leaseCount s).copiesTo q = s.copiesTo q ++ rs.flatMap (s.countCopies · q) := by
  intro rs
  induction rs with
  | nil => exact fun _ s => (List.append_nil _).symm
  | cons r rs ih =>
    intro hnodup s
    obtain ⟨hr, hrs⟩ := List.nodup_cons.mp hnodup
    have hrest : rs.flatMap ((s.leaseCount r).countCopies · q) = rs.flatMap (s.countCopies · q) := by
      refine List.flatMap_congr fun x hx => ?_
      have hne : x ≠ r := fun h => hr (h ▸ hx)
      rw [(State.counts_congr (s := s) (s' := s.leaseCount r) (by rw [State.leaseCount_lease, if_neg hne])
        (State.leaseCount_rest hne) (State.leaseCount_ports ..) (State.leaseCount_carrier ..)).2]
    rw [List.foldl_cons, ih hrs, hrest, State.leaseCount_copies, List.flatMap_cons, List.append_assoc]

theorem State.leaseTickAll_copies {s : State} (hquiet : s.Quiet) (q : Port) :
    s.leaseTickAll.copiesTo q = Resource.all.flatMap (s.countCopies · q) := by
  set s0 := s.setLeaseClock { s.leaseClock with number := s.leaseClock.number + 1 } with hs0
  have hnone : s0.copiesTo q = [] := State.copiesTo_quiet (s := s0) hquiet q
  rw [State.leaseTickAll, ← hs0, leaseCounts_copies q Resource.all (by decide), hnone, List.nil_append]
  refine List.flatMap_congr fun r _ => ?_
  exact congrFun (State.counts_congr rfl (by cases r <;> rfl) rfl rfl).2 q

/-- A tick at which no lease expires touches no leg and no mark. -/
theorem leaseCounts_calm : ∀ (rs : List Resource), rs.Nodup → ∀ s : State, (∀ r ∈ rs, (s.lease r).expiring = false) →
    (rs.foldl State.leaseCount s).legs = s.legs ∧ (rs.foldl State.leaseCount s).sync = s.sync := by
  intro rs
  induction rs with
  | nil => exact fun _ _ _ => ⟨rfl, rfl⟩
  | cons r rs ih =>
    intro hnodup s hcalm
    obtain ⟨hr, hrs⟩ := List.nodup_cons.mp hnodup
    obtain ⟨hlegs, hsync⟩ := State.leaseCount_calm (hcalm r List.mem_cons_self)
    obtain ⟨hlegs', hsync'⟩ := ih hrs (s.leaseCount r) fun x hx => by
      rw [State.leaseCount_lease, if_neg fun h : x = r => hr (h ▸ hx)]
      exact hcalm x (List.mem_cons_of_mem r hx)
    exact ⟨hlegs'.trans hlegs, hsync'.trans hsync⟩

end Sys2Proof.Machine
end

section
/-! PROOFS. LEASE_TICK and LEASE_EXPIRY (chapters 5 and 6). -/

namespace Sys2Proof.Machine

open Sys2Proof

-- One theorem at a time, as in the tests: proofs that wait for the kernel would each hold a thread.
set_option Elab.async false

/-- The records, and what they raise, do not depend on the lease clock. -/
theorem State.leaseTicks_view {s : State} (hs : s.Quiet) :
    (∀ r, s.leaseTicks.lease r = s.countedLease r)
      ∧ (∀ n, s.leaseTicks.leg n = if (s.lease (.leg n)).expiring then (s.leg n).planGone else s.leg n)
      ∧ ∀ q, ∃ ns : List Notice, ns.Perm (Resource.all.flatMap (s.countCopies · q))
        ∧ s.leaseTicks.port q = ns.foldl PortEngine.receiveCopy (s.port q) := by
  set s0 := s.setLeaseClock { s.leaseClock with divider := .start leaseTickSamples } with hs0
  have hcounts : ∀ r, s0.countedLease r = s.countedLease r ∧ s0.countCopies r = s.countCopies r := fun r =>
    State.counts_congr rfl (by cases r <;> rfl) rfl rfl
  refine ⟨fun r => ?_, fun n => ?_, fun q => ?_⟩
  · exact (State.deliver_lease ..).trans ((s0.leaseTickAll_lease r).1.trans (hcounts r).1)
  · exact (State.deliver_leg ..).trans ((s0.leaseTickAll_lease (.leg n)).2 n rfl)
  · obtain ⟨ns, hperm, hport⟩ := s0.leaseTickAll.deliver_copies q
    rw [State.leaseTickAll_copies (s := s0) hs] at hperm
    refine ⟨ns, hperm.trans (List.Perm.of_eq (List.flatMap_congr fun r _ => congrFun (hcounts r).2 q)), ?_⟩
    exact hport.trans (congrArg (ns.foldl PortEngine.receiveCopy) (State.leaseTickAll_port ..))

theorem State.leaseTicks_frame (s : State) : s.leaseTicks.carrier = s.carrier ∧ s.leaseTicks.chans = s.chans
    ∧ s.leaseTicks.trip = s.trip ∧ s.leaseTicks.rst = s.rst := by
  unfold State.leaseTicks
  rw [State.deliver_carrier, State.deliver_chans, State.deliver_trip, State.deliver_rst, State.leaseTickAll_carrier,
    State.leaseTickAll_chans, State.leaseTickAll_trip, State.leaseTickAll_rst]
  exact ⟨rfl, rfl, rfl, rfl⟩

theorem Lease.expiring_held {l : Lease} {p : Port} {i k : Nat} {low : Bool} (h : l.phase = .held p i k low) :
    l.expiring = decide (k ≤ 1) := by
  unfold Lease.expiring
  rw [h]

/-! ### LEASE_TICK (R88, R89) -/

/-- LEASE_LOW of one record to a port, at a tick that it survives (R89). -/
def State.lowNotice (s : State) (p : Port) (r : Resource) : Option Notice :=
  match (s.lease r).phase with
  | .held q i k low =>
    if q = p ∧ low = false ∧ k - 1 ≤ max 1 (i / 4) then
      some ⟨.leaseLow (s.lease r).gen (k - 1) i, .resource r, none, s.periodLow⟩ else none
  | .free | .releasing => none

/-- A record that survives the tick raises LEASE_LOW at most. -/
theorem State.countCopies_calm {s : State} {p : Port} {r : Resource} (h : (s.lease r).expiring = false)
    (hpresent : (s.port p).presence.level = true) : s.countCopies r p = (s.lowNotice p r).toList := by
  unfold State.countCopies State.lowNotice
  unfold Lease.expiring at h
  cases hp : (s.lease r).phase with
  | free | releasing => rfl
  | held q i k low =>
    rw [hp] at h
    dsimp only at h ⊢
    rw [if_neg (of_decide_eq_false h)]
    have hwarn : (k - 1 ≤ warnAt i ∧ low = false) ↔ (low = false ∧ k - 1 ≤ max 1 (i / 4)) := and_comm
    by_cases hlow : low = false ∧ k - 1 ≤ max 1 (i / 4)
    · rw [if_pos (hwarn.mpr hlow), State.toPresent, hpresent, Bool.and_true]
      by_cases hq : q = p
      · rw [if_pos (beq_iff_eq.mpr hq.symm), if_pos ⟨hq, hlow⟩]
        rfl
      · rw [if_neg fun h => hq (beq_iff_eq.mp h).symm, if_neg fun h => hq h.1]
        rfl
    · rw [if_neg (mt hwarn.mp hlow), if_neg fun h => hlow h.2]
      rfl

/-- Settles O30: each record counts down by itself, and raises LEASE_LOW at most. -/
theorem leaseTickCountsDown : Obligations.LeaseTickCountsDown := by
  intro s hs
  refine ⟨leaseTick_letsSamplePass hs, fun hdue hlong => ?_⟩
  have hcalm : ∀ r, (s.lease r).expiring = false := fun r => by
    unfold Lease.expiring
    cases hp : (s.lease r).phase with
    | free | releasing => rfl
    | held q i k low =>
      have hk := hlong r q i k low hp
      exact decide_eq_false (by omega)
  obtain ⟨hlease, -, hports⟩ := State.leaseTicks_view hs.2
  obtain ⟨hcarrier, hchans, htrip, hrst⟩ := s.leaseTicks_frame
  have hboth : s.leaseTicks.legs = s.legs ∧ s.leaseTicks.sync = s.sync := by
    unfold State.leaseTicks
    rw [State.deliver_legs, State.deliver_sync]
    exact leaseCounts_calm Resource.all (by decide) _ fun r _ => hcalm r
  refine ⟨s.leaseTicks, ?_, s.leaseTicks_leaseClock, fun r => ?_, fun p => ?_, hboth.1, hcarrier, hboth.2, htrip, hchans,
    hrst⟩
  · rw [exec_leaseTick_awake hs, State.toLeaseTick_now hdue]
  · rw [hlease, State.countedLease]
    have hr := hcalm r
    unfold Lease.expiring at hr
    cases hp : (s.lease r).phase with
    | free | releasing => rfl
    | held q i k low =>
      rw [hp] at hr
      exact if_neg (of_decide_eq_false hr)
  · obtain ⟨ns, hperm, hport⟩ := hports p
    suffices ∃ ns : List Notice, s.leaseTicks.port p = ns.foldl PortEngine.receiveCopy (s.port p)
      ∧ ns.Perm (Resource.all.filterMap (s.lowNotice p)) from this
    cases hpresent : (s.port p).presence.level with
    | true =>
      refine ⟨ns, hport, hperm.trans (List.Perm.of_eq ?_)⟩
      rw [List.filterMap_eq_flatMap_toList]
      exact List.flatMap_congr fun r _ => State.countCopies_calm (hcalm r) hpresent
    | false =>
      refine ⟨_, ?_, List.Perm.refl _⟩
      rw [hport, PortEngine.foldl_receiveCopy_absent hpresent, PortEngine.foldl_receiveCopy_absent hpresent]

/-! ### LEASE_EXPIRY (R101) -/

theorem State.toPresent_absent {s : State} {q : Port} {who : Port → Bool} (h : who q = false) (x : Notice) :
    s.toPresent who x q = [] := by
  simp [State.toPresent, h]

/-- A record raises at most one notice to a port at a tick: a waiter is not the holder (R75). -/
theorem State.countCopies_length {s : State} {r : Resource} (hok : (s.lease r).Ok) (q : Port) :
    (s.countCopies r q).length ≤ 1 := by
  obtain ⟨-, -, -, hphase⟩ := hok
  unfold State.countCopies
  cases hp : (s.lease r).phase with
  | free | releasing => exact Nat.zero_le _
  | held p i k low =>
    rw [hp] at hphase
    dsimp only at hphase ⊢
    split
    · rw [List.length_append]
      by_cases hq : q = p
      · have hnone : s.endCopies r q = [] := by
          unfold State.endCopies
          split
          · cases hw : (s.lease r).waiters with
            | nil => rfl
            | cons w ws =>
              have hne : w.port ≠ p := hphase.1 w (by rw [hw]; exact List.mem_cons_self)
              exact State.toPresent_absent (who := (· == w.port)) (beq_eq_false_iff_ne.mpr fun h => hne (h.symm.trans hq)) _
          · rfl
        rw [hnone, List.length_nil, Nat.zero_add]
        exact State.toPresent_length ..
      · rw [State.toPresent_absent (who := (· == p)) (beq_eq_false_iff_ne.mpr hq), List.length_nil, Nat.add_zero]
        unfold State.endCopies
        split
        · split
          · exact Nat.zero_le _
          · exact State.toPresent_length ..
        · exact Nat.zero_le _
    · split
      · exact State.toPresent_length ..
      · exact Nat.zero_le _

theorem length_flatMap_le {α β : Type} {f : α → List β} {b : Nat} (xs : List α) (h : ∀ x ∈ xs, (f x).length ≤ b) :
    (xs.flatMap f).length ≤ xs.length * b := by
  induction xs with
  | nil => simp
  | cons x xs ih =>
    have hx := h x List.mem_cons_self
    have hxs := ih fun y hy => h y (List.mem_cons_of_mem x hy)
    rw [List.flatMap_cons, List.length_append, List.length_cons, Nat.succ_mul]
    omega

/-- Settles O31: no record raises more than one notice to a port, so that the holder has room for LEASE_LOST. -/
theorem leaseExpiryEndsLease : Obligations.LeaseExpiryEndsLease := by
  intro r q i low s hs hok
  refine ⟨fun hdue => leaseExpiry_letsSamplePass hs hdue r, fun hdue hheld => ?_⟩
  have hexpiring : (s.lease r).expiring = true := by
    rw [Lease.expiring_held hheld]
    rfl
  obtain ⟨hlease, hleg, hports⟩ := State.leaseTicks_view hs.2
  obtain ⟨hcarrier, hchans, htrip, hrst⟩ := s.leaseTicks_frame
  have hended : s.leaseTicks.lease r = s.endedLease r := by
    rw [hlease, State.countedLease, hheld]
    rfl
  refine ⟨s.leaseTicks, ?_, ?_, s.leaseTicks_leaseClock, fun hrest => ?_, fun hrest => ?_, fun n hn => ?_,
    fun n q' i' k' low' hheld' hk => ?_, fun hpresent hmask hroom => ?_, hcarrier, hchans, htrip, hrst⟩
  · rw [exec_leaseExpiry_awake hs, State.toLeaseTick_now hdue, hexpiring]
    rfl
  · rw [exec_leaseTick_awake hs, State.toLeaseTick_now hdue]
  · rw [hended, State.endedLease, hrest]
    rfl
  · rw [hended, State.endedLease, hrest]
    rfl
  · subst hn
    rw [hleg, if_pos hexpiring, State.planTaken_leg, if_pos rfl]
  · rw [hleg, Lease.expiring_held hheld', decide_eq_false (by omega)]
    rfl
  · obtain ⟨ns, hperm, hport⟩ := hports q
    have hlength : ns.length ≤ 7 := by
      rw [hperm.length_eq]
      exact length_flatMap_le Resource.all fun x _ => State.countCopies_length (hok.1 x) q
    rw [hport, PortEngine.foldl_receiveCopy hpresent (by omega)]
    refine List.mem_append_right _ (List.mem_filter.mpr ⟨hperm.mem_iff.mpr ?_, hmask⟩)
    refine List.mem_flatMap.mpr ⟨r, resource_mem_all r, ?_⟩
    unfold State.countCopies
    rw [hheld, hended]
    refine List.mem_append_right _ ?_
    rw [State.toPresent, hpresent, beq_self_eq_true, Bool.and_true, if_pos rfl]
    exact List.mem_singleton_self _

end Sys2Proof.Machine
end
